-- ==== Sys2Proof/Word.lean ====
section
/-! DEFINITION. The words and the plainest names of the block: bytes, byte strings, identifiers of contexts, queues,
ports, dies and the like, each with the width or the count the spec gives it. -/

namespace Sys2Proof

/-- One byte. -/
abbrev Byte := BitVec 8

/-- A string of bytes, lowest address first (R10). -/
abbrev Bytes := List Byte

/-- Context ID, 12 bits (R41, R489). -/
abbrev Ctx := BitVec 12

/-- Queue of a context, 0 to 15 (R479, R493). -/
abbrev QNum := Fin 16

/-- A store address as a request names it: 64 bits, of which the device takes 52 (R15, R195). -/
abbrev Sa := BitVec 64

/-- The number of a 128-byte line as a message names it: bits [63:7] of its address, of which SA[51:7] exist (R15, R284). -/
abbrev Line := BitVec 57

/-- An IPv6 address. -/
abbrev Ip6 := BitVec 128

end Sys2Proof
end

