-- ==== Sys2Proof/Syntax.lean ====
section
/-! DEFINITION. The commands of the block: one constructor of `Instr` per row of spec/opcode_table.json, with the operands the
rule of the row names (the table gives no row any bits: log entry 2). -/

namespace Sys2Proof

/-- A station of the field network as a received datagram shows it: its IPv6 source and hop limit (R62), its UDP port and whether its checksum
holds (R61). -/
structure Station where
  addr  : Ip6
  hop   : BitVec 8
  port  : BitVec 16
  sumOk : Bool
  deriving DecidableEq, Repr

/-- A Vervo request without its OP byte: the header fields of R64 that a request carries, and its items as bytes (R65). -/
structure VReq where
  ver   : BitVec 8
  count : BitVec 16
  seq   : BitVec 32
  draft : BitVec 16
  /-- Bytes 15:12 of the header: FROM in a DRAFT_READ (R651). -/
  start : BitVec 32
  body  : Bytes
  deriving DecidableEq, Repr

/-- Who sent a dictionary operation: a station, or the dictionary window of one Urzen port (R75, R81). -/
inductive Src where
  | station (addr : Ip6)
  | window  (port : Fin 8)
  deriving DecidableEq, Repr

/-- A context-window access as its CTL packet carries it (R470, R478). -/
structure CwAccess where
  port  : Fin 8
  mgmt  : Bool
  ctx   : Ctx
  /-- Page in bits [23:12], offset in [11:0]. -/
  addr  : BitVec 24
  lenm1 : BitVec 7
  tag   : BitVec 16
  deriving DecidableEq, Repr

/-- Kinds of engine of the location code (R25). -/
inductive EngKind where
  | nib | quill | feed | inkwell | scribe | mgmt
  deriving DecidableEq, Repr

/-- One engine by its place (R25): die, cluster within the die and kind, engine within the cluster. -/
structure Eng where
  kind    : EngKind
  die     : Fin 40
  cluster : Fin 12
  engine  : Fin 9
  deriving DecidableEq, Repr

/-- The levels that are scopes (R318). -/
inductive Scope where
  | engine | cluster | die | device
  deriving DecidableEq, Repr

/-- How a request at a home names its place: by store address, or by a host address on an Urzen port (R471, R476). -/
inductive Place where
  | sa   (a : Sa)
  | host (port : Fin 8) (mgmt : Bool) (addr : BitVec 64)
  deriving DecidableEq, Repr

/-- A request that arrives at a home (R291): the agent, the context it carries (R41), its place, its TAG, and the ticket it
is resent with (R302). -/
structure Req where
  agent  : Fin 374
  ctx    : Ctx
  place  : Place
  tag    : BitVec 16
  ticket : Option Nat
  deriving DecidableEq, Repr

/-- A packet that arrives on a fabric port: the 32-byte header of R442 as bits, the data slots, and whether the switch marked
it as coming from its management controller (R457). -/
structure FabIn where
  port : Fin 16
  mgmt : Bool
  hdr  : BitVec 256
  data : Bytes
  deriving DecidableEq, Repr

/-- The outcome of a cartridge's certificate chain under the standard X.509 and RSASSA-PSS checks of R407 step 1, and what the
certificate says. -/
structure CertInfo where
  /-- Every signature of the chain verifies. -/
  sigsOk    : Bool
  /-- SHA-256 of the certificate at which the chain ends. -/
  rootHash  : BitVec 256
  /-- The certificate carries the Fenuvy extension with the model and a raw capacity of 4 TiB (step 2). -/
  extOk     : Bool
  /-- Rated endurance in full-cartridge writes. -/
  endurance : Nat
  /-- SHA-256 of the cartridge certificate. -/
  certHash  : BitVec 256
  /-- RSA-3072 modulus of the certificate's key. -/
  modulus   : BitVec 3072
  serial    : Bytes
  deriving DecidableEq, Repr

/-- A cartridge's membership record (R409): device serial, slot, group, position, role and group generation. -/
structure Membership where
  serial     : Bytes
  slot       : Nat
  group      : Nat
  position   : Nat
  role       : Nat
  generation : Nat
  deriving DecidableEq, Repr

/-- What an IDENT flit of a neighbour carries (R434, R467). -/
structure IdentInfo where
  identity : BitVec 64
  group    : BitVec 6
  cacheKib : BitVec 32
  reqCr    : BitVec 16
  snpCr    : BitVec 16
  ctlCr    : BitVec 16
  deriving DecidableEq, Repr

/-- What the reads of copy regions outside the device return to a STEP_COMMIT (R589-R603): the header line of a region and the
pages of one image, none where the read returned POISON. -/
structure RegionIo where
  header : Option Bytes
  deriving DecidableEq, Repr

/-- The remote reads of one STEP_COMMIT: the three copy regions' headers where they are not local, the partner's header before
and after the comparison, the partner's pages by page number, and the pages of mirror 0 that a checkpoint copies; a page that is
not listed, and none, stand for a read that returned POISON. -/
structure CommitIo where
  mirror0  : RegionIo
  mirror1  : RegionIo
  ckpt     : RegionIo
  partner0 : RegionIo
  partner1 : RegionIo
  pages    : List (Nat × Option Bytes)
  image    : List (Nat × Option Bytes)
  deriving DecidableEq, Repr

/-- A finding of a bring-up stage (R560, R564): the unit and what was found. -/
inductive Finding where
  | t0Repaired (die : Fin 24) (n : Nat)
  | engineBad (die : Fin 24) (cluster : Fin 18) (phys : Fin 9)
  | clusterBad (die : Fin 24) (cluster : Fin 18)
  | scribeBad (p : Fin 64)
  | hbmRepaired (channel : Fin 256) (rows : Nat)
  | hbmBad (channel : Fin 256)
  | cartLinkBad (slot : Fin 32)
  | cartPresent (slot : Fin 32)
  | oscOffset (ppm : Int)
  | oscBad
  | netSpared (link : Fin 90) (dir : Bool) (channel : Fin 9)
  | netBad (link : Fin 90) (dir : Bool)
  | laneSpared (link : Fin 24) (lane : Nat)
  | portLanes (link : Fin 24) (good : Nat)
  | imageReload (die : Fin 24) (kind : Nat)
  | imageBad (die : Fin 24) (kind : Nat)
  | inkwellBad (die : Fin 24)
  | standbyBad
  | fallback (item : Nat)
  | slotFailed (slot : Fin 3) (step : Nat)
  | journal (stripesOk : Bool)
  deriving DecidableEq, Repr

/-- Cause of a governor's hand-over (R541). -/
inductive GovCause where
  | sensorFault | manual
  deriving DecidableEq, Repr

/-- What ends a thermal state (R630). -/
inductive ShutCause where
  | tripOneSecond (die : Fin 40) | hot (die : Fin 40) | leak
  deriving DecidableEq, Repr

/-- The commands of the block, in the order of the table. -/
inductive Instr where
  -- The dictionary and the field network
  | managementTakeover
  | read (st : Station) (r : VReq)
  | write (st : Station) (r : VReq)
  | draftOpen (st : Station) (r : VReq)
  | draftWrite (st : Station) (r : VReq)
  | check (st : Station) (r : VReq)
  | ink (st : Station) (r : VReq)
  | inkCommit
  | inkAborted
  | discard (st : Station) (r : VReq)
  | draftRead (st : Station) (r : VReq)
  | describe (st : Station) (r : VReq)
  | draftIdleTimeout (handle : BitVec 16)
  | restoreDefaults
  | configSave (index : BitVec 16) (sub : BitVec 8)
  | notifyRepeat (seq : BitVec 32)
  | notifyAck (st : Station) (r : VReq)
  | neighborDiscovery (src target : Ip6)
  | echo (src : Ip6) (data : Bytes)
  | go (port : Fin 8) (ctrl : BitVec 32)
  | doorbell (a : CwAccess) (value : BitVec 64)
  | registerWrite (a : CwAccess) (data : Bytes)
  | cwRd (a : CwAccess)
  -- Nib queues
  | nop (c : Ctx) (q : QNum)
  | matmul (c : Ctx) (q : QNum)
  | attn (c : Ctx) (q : QNum)
  | rmsnorm (c : Ctx) (q : QNum)
  | layernorm (c : Ctx) (q : QNum)
  | softmax (c : Ctx) (q : QNum)
  | taskStart (cluster : Fin 288) (task : Nat)
  | taskEnd (task : Nat)
  | shadowCheck (c : Ctx) (q : QNum) (index : BitVec 32) (tile : Nat)
  | promotedRunEnd (c : Ctx) (q : QNum) (index : BitVec 32)
  | descriptorComplete (c : Ctx) (q : QNum) (index : BitVec 32)
  | flagClear (a : CwAccess) (value : BitVec 32)
  | windowOpen (c : Ctx) (q : QNum)
  | windowClose (c : Ctx) (q : QNum)
  | windowFillStart (c : Ctx) (win : Fin 16)
  | windowFillDone (c : Ctx) (win : Fin 16) (fill : Nat)
  | windowStall (c : Ctx) (q : QNum)
  -- Tiers, quotas and persistence
  | alloc (c : Ctx) (q : QNum)
  | free (c : Ctx) (q : QNum)
  | pin (c : Ctx) (q : QNum)
  | unpin (c : Ctx) (q : QNum)
  | place (c : Ctx) (q : QNum)
  | demotion (c : Ctx) (fromT2 : Bool)
  | demotionResume (c : Ctx)
  | cacheFrameDrain
  | dirtyWriteback
  | pfailAssert
  | pfailDeassert
  | pfailFlush
  | pfailCancel
  | powerOffStop
  -- Translation and Feeds
  | map (c : Ctx) (q : QNum)
  | unmap (c : Ctx) (q : QNum)
  | protect (c : Ctx) (q : QNum)
  | resolve (c : Ctx) (q : QNum)
  | fail (c : Ctx) (q : QNum)
  | advance (c : Ctx) (q : QNum)
  | xlatInvAck (port : Fin 8) (c : Ctx)
  | xlatInvTimeout (port : Fin 8)
  | withdrawDrainEnd (c : Ctx)
  | withdrawDeadline (c : Ctx)
  | rangeWalk (die : Fin 40) (c : Ctx) (vpn : BitVec 45)
  | copy (c : Ctx) (q : QNum)
  | fill (c : Ctx) (q : QNum)
  | chunkIssue (stream : BitVec 16)
  | chunkDone (stream : BitVec 16) (offset : Nat)
  | faultDeadline (stream : BitVec 16)
  -- Coherence
  | load (e : Eng) (c : Ctx) (sa : Sa) (lenm1 : BitVec 7) (keep : Bool)
  | store (e : Eng) (c : Ctx) (sa : Sa) (data : Bytes) (hold : Bool)
  | evict (agent : Fin 336) (line : Line)
  | rdS (r : Req)
  | rdM (r : Req)
  | upg (r : Req)
  | rdNc (r : Req) (lenm1 : BitVec 7)
  | wrNc (r : Req) (data : Bytes) (mask : BitVec 128)
  | wb (agent : Fin 344) (line : Line) (keep : Bool) (data : Bytes) (allWritten : Bool)
  | evictNotice (agent : Fin 344) (line : Line)
  | add (r : Req) (wide fetch : Bool) (op1 op2 : BitVec 64)
  | and (r : Req) (wide fetch : Bool) (op1 op2 : BitVec 64)
  | or (r : Req) (wide fetch : Bool) (op1 op2 : BitVec 64)
  | xor (r : Req) (wide fetch : Bool) (op1 op2 : BitVec 64)
  | umax (r : Req) (wide fetch : Bool) (op1 op2 : BitVec 64)
  | umin (r : Req) (wide fetch : Bool) (op1 op2 : BitVec 64)
  | smax (r : Req) (wide fetch : Bool) (op1 op2 : BitVec 64)
  | smin (r : Req) (wide fetch : Bool) (op1 op2 : BitVec 64)
  | swap (r : Req) (wide fetch : Bool) (op1 op2 : BitVec 64)
  | cas (r : Req) (wide fetch : Bool) (op1 op2 : BitVec 64)
  | roll (r : Req)
  | fwdS (agent : Fin 336) (line : Line)
  | fwdM (agent : Fin 336) (line : Line)
  | fwdNc (agent : Fin 336) (line : Line)
  | inv (agent : Fin 336) (line : Line)
  | recall (agent : Fin 336) (line : Line)
  | data (agent : Fin 336) (line : Line)
  | grant (agent : Fin 336) (line : Line)
  | fwdAck (agent : Fin 344) (line : Line) (dirty : Bool) (supplied : Bytes)
  | invAck (agent : Fin 344) (line : Line)
  | recallAck (agent : Fin 344) (line : Line) (dirty : Option Bytes)
  | compack (agent : Fin 344) (line : Line)
  | ncDone (agent : Fin 374) (line : Line)
  | wbAck (agent : Fin 336) (line : Line)
  | retry (agent : Fin 374) (line : Line)
  | hot (agent : Fin 374) (c : Ctx) (line : Line) (interval : Nat)
  | atomicBufferWriteout (line : Line)
  | hotWindow (inkwell : Fin 24) (bank : Fin 8)
  | snoopTimeout (port : Fin 8)
  -- The memory model and mordants
  | releaseAtScope (e : Eng) (scope : Scope)
  | acquireAtScope (e : Eng) (scope : Scope)
  | fenceAtScope (e : Eng) (scope : Scope)
  | storeAgeing (e : Eng) (line : Line)
  | madd (c : Ctx) (q : QNum)
  | mset (c : Ctx) (q : QNum)
  | mread (c : Ctx) (q : QNum)
  | wakeNotice (p : Fin 64) (m : BitVec 16)
  -- Quill search
  | search (c : Ctx) (q : QNum)
  | queryStart (c : Ctx) (q : QNum) (index : BitVec 32) (query : BitVec 16) (quill : Fin 384) (hw : Fin 64)
  | fetchReturn (quill : Fin 384) (hw : Fin 64)
  | queryEnd (quill : Fin 384) (hw : Fin 64)
  | staleScan (c : Ctx) (q : QNum)
  -- Store cartridges
  | cartInserted (slot : Fin 32) (fourLanes : Bool)
  | identify (slot : Fin 32) (cert : CertInfo)
  | cartChallenge (slot : Fin 32) (wear : BitVec 64) (signature : Bytes)
  | cartMread (slot : Fin 32) (rec : Option Membership)
  | cartMwrite (slot : Fin 32)
  | reads (line : Line) (errors : List (Fin 10))
  | readu (slot : Fin 32) (row : BitVec 30) (content : Bytes) (meta_ : BitVec 128)
  | writeu (slot : Fin 32) (row : BitVec 30)
  | jwrite (slot : Fin 32)
  | wear (slot : Fin 32) (bytes : BitVec 64)
  | wearPoll
  | cartFailed (slot : Fin 32)
  | cartRemoved (slot : Fin 32)
  | cartRebuilt (slot : Fin 32)
  | resilverDone (slot : Fin 32)
  | scrub (group : Fin 3) (row : BitVec 30) (bad : List (Fin 10)) (parityDiffers : Bool)
  | prepareEject (slot : Fin 32)
  | acceptForeign (slot : Fin 32)
  | retire (slot : Fin 32)
  | cancel (slot : Fin 32)
  -- The links: fabric ports 0 to 15, Urzen ports 16 to 23
  | flit (link : Fin 24) (fecOk : Bool) (flit : Bytes)
  | linkRetry (link : Fin 24) (seq : BitVec 16)
  | laneSpare (link : Fin 24) (lane : Fin 8)
  | portNarrowed (link : Fin 24) (good : Fin 9)
  | lossOfSignal (link : Fin 24)
  | portTrain (link : Fin 24) (good : Fin 9)
  | ident (link : Fin 24) (info : IdentInfo)
  | prd (p : FabIn)
  | pwr (p : FabIn)
  | patom (p : FabIn)
  | prdData (p : FabIn)
  | pwrDone (p : FabIn)
  | patomDone (p : FabIn)
  | peerTimeout (tag : BitVec 16)
  | msg (p : FabIn)
  | msgDone (p : FabIn)
  | assign (p : FabIn)
  | windowSet (p : FabIn)
  | windowClear (p : FabIn)
  | ownGrant (p : FabIn)
  | teardown (p : FabIn)
  | mgtAck (p : FabIn)
  | atomic (c : Ctx) (q : QNum)
  | send (c : Ctx) (q : QNum)
  | mboxOpen (c : Ctx) (q : QNum)
  | ownAcquire (c : Ctx) (q : QNum)
  | ownTimeout (c : Ctx) (q : QNum) (index : BitVec 32)
  | ownRelease (c : Ctx) (q : QNum)
  | flush (c : Ctx) (q : QNum)
  | t3Data (port : Fin 8) (tag : BitVec 16) (poison : Bool) (data : Bytes)
  | t3Done (port : Fin 8) (tag : BitVec 16) (poison : Bool)
  | t3Timeout (port : Fin 8) (tag : BitVec 16)
  -- Isolation and attestation
  | create (c : Ctx)
  | createDone (c : Ctx)
  | tear (c : Ctx)
  | release (c : Ctx)
  | keyRecordDurable (c : Ctx)
  | standbyResync
  | getVersion (src : Src) (msg : Bytes)
  | getCapabilities (src : Src) (msg : Bytes)
  | negotiateAlgorithms (src : Src) (msg : Bytes)
  | getDigests (src : Src) (msg : Bytes)
  | getCertificate (src : Src) (msg : Bytes)
  | challenge (src : Src) (msg : Bytes)
  | getMeasurements (src : Src) (msg : Bytes)
  -- Firmware
  | imageTargetSlot (slot : Fin 3)
  | erase
  | imageChunk (src : Src) (chunk : Bytes)
  | verify
  | commitSecurityState
  | restart (p : Fin 64) (reaches : Bool)
  | watchdog (p : Fin 64) (reaches : Bool)
  | processorFault (p : Fin 64) (reaches : Bool)
  | restartTimeout (p : Fin 64)
  | restartStable (p : Fin 64)
  | liveUpdate (what : BitVec 8)
  | fwUpdate (reaches : Bool)
  | sliceEnd (p : Fin 48)
  | governorFallback (die : Fin 40) (cause : GovCause) (flagged : List (Fin 8))
  | fallbackLoop (die : Fin 40) (sensors : List Int)
  | loopLost (die : Fin 40)
  -- Bring-up, training and spares
  | powerGood
  | stage0 (s0Passes s1Passes : Bool)
  | stage1 (found : List Finding)
  | stage2 (found : List Finding)
  | stage3 (found : List Finding)
  | stage4 (found : List Finding)
  | stage5 (found : List Finding)
  | stage6
  | topologyShort
  | trainingSave
  /-- A physical engine, or (9) the cluster cache or row unit of the cluster (R578). -/
  | engineFail (die : Fin 24) (cluster : Fin 18) (phys : Fin 10)
  | engineHang (die : Fin 24) (cluster : Fin 18) (phys : Fin 9)
  | katInterval (failed : List (Fin 24 × Fin 18 × Fin 10))
  | failPhysicalEngine (code : BitVec 64)
  | clearRepairMarks
  -- Steps, shadowing and composition
  | stepCommit (c : Ctx) (q : QNum) (io : CommitIo)
  | checkpointDone (c : Ctx) (set : BitVec 57)
  | begin (c : Ctx)
  | takeover (c : Ctx)
  | compositionDeadline
  -- Power, cooling and package
  | undervoltage
  | overvoltage
  | pfailUnsignalled
  | ceilingStep (average : Nat)
  | fastClamp
  | thermalTrip (die : Fin 40) (sensor : Fin 8)
  | thermalRelease (die : Fin 40)
  | thermalShutdown (cause : ShutCause)
  | coolantWarm (inlet outlet : Int)
  | reset
  | fspiEnable
  | dieFailure (die : Fin 40)
  | thermalVoltageReduction (die : Fin 40)
  | resetRelease
  deriving DecidableEq, Repr

end Sys2Proof
end

