-- ==== Sys2Proof/Machine/Bits.lean ====
section
/-! DEFINITION. Bit fields, byte order, sorted tables and the byte memory: the helpers every other file uses. -/

namespace Sys2Proof.Machine

/-! ## Fields and byte order (R9, R10) -/

/-- The field of width `w` that begins at bit `lo` of `n`. -/
def field (n lo w : Nat) : Nat := (n >>> lo) % 2 ^ w

/-- Bit `i` of `n`. -/
def bitOf (n i : Nat) : Bool := n.testBit i

/-- The value of a little-endian byte string (R10). -/
def leNat : Bytes → Nat
  | [] => 0
  | b :: bs => b.toNat + 256 * leNat bs

/-- `k` bytes of `n`, least significant first (R10). -/
def natLe : (k : Nat) → (n : Nat) → Bytes
  | 0, _ => []
  | k + 1, n => BitVec.ofNat 8 n :: natLe k (n / 256)

/-- The value of a big-endian byte string (the standards of R10). -/
def beNat (bs : Bytes) : Nat := leNat bs.reverse

/-- `k` bytes of `n`, most significant first. -/
def natBe (k n : Nat) : Bytes := (natLe k n).reverse

/-- The bytes `[lo, lo + k)` of a byte string as a little-endian number; bytes past the end count as zero. -/
def leAt (bs : Bytes) (lo k : Nat) : Nat := leNat ((bs.drop lo).take k)

/-- `bs` cut or zero-padded to exactly `k` bytes. -/
def padTo (k : Nat) (bs : Bytes) : Bytes := bs.take k ++ List.replicate (k - bs.length) 0#8

/-- A number of `bs` rounded up to a multiple of `k`. -/
def roundUp (n k : Nat) : Nat := (n + k - 1) / k * k

/-- Quotient rounded up. -/
def ceilDiv (n k : Nat) : Nat := (n + k - 1) / k

/-- `n` seen as a two's complement number of `w` bits. -/
def toSigned (w n : Nat) : Int :=
  let m := n % 2 ^ w
  if m < 2 ^ (w - 1) then (m : Int) else (m : Int) - 2 ^ w

/-- Two's complement of `w` bits. -/
def ofSigned (w : Nat) (z : Int) : Nat := (z % 2 ^ w).toNat

/-- Exchange the bytes `[lo, lo + new.length)` of a byte string. -/
def spliceBytes (bs : Bytes) (lo : Nat) (new : Bytes) : Bytes :=
  bs.take lo ++ new ++ bs.drop (lo + new.length)

/-- Number of ones of the low `w` bits. -/
def popCount : (w : Nat) → (n : Nat) → Nat
  | 0, _ => 0
  | w + 1, n => n % 2 + popCount w (n / 2)

/-! ## Tables: key and value pairs, keys strictly rising -/

/-- A table keyed by numbers, its keys strictly rising. -/
abbrev Tbl (α : Type) := List (Nat × α)

/-- The value at a key. -/
def tblFind {α : Type} : Tbl α → Nat → Option α
  | [], _ => none
  | (k, v) :: t, x => if k = x then some v else tblFind t x

/-- The value at a key, or a given one. -/
def tblGet {α : Type} (d : α) (t : Tbl α) (k : Nat) : α := (tblFind t k).getD d

/-- Put a value at a key. -/
def tblSet {α : Type} : Tbl α → Nat → α → Tbl α
  | [], x, v => [(x, v)]
  | (k, w) :: t, x, v =>
    if x < k then (x, v) :: (k, w) :: t
    else if x = k then (x, v) :: t
    else (k, w) :: tblSet t x v

/-- Take a key out. -/
def tblErase {α : Type} (t : Tbl α) (k : Nat) : Tbl α := t.filter (fun e => e.1 != k)

/-- Change the value at a key, from a given one where there is none. -/
def tblUpd {α : Type} (d : α) (t : Tbl α) (k : Nat) (f : α → α) : Tbl α := tblSet t k (f (tblGet d t k))

/-- The keys strictly rise. -/
def tblWf {α : Type} : Tbl α → Bool
  | [] => true
  | [_] => true
  | (a, _) :: (b, v) :: t => decide (a < b) && tblWf ((b, v) :: t)

/-- The least number of `0 ..< n` that a table does not list. -/
def tblFreeKey {α : Type} (t : Tbl α) (n : Nat) : Option Nat :=
  (List.range n).find? (fun k => (tblFind t k).isNone)

/-- Put an element into a list once. -/
def addOnce {α : Type} [DecidableEq α] (l : List α) (x : α) : List α := if l.contains x then l else l ++ [x]

/-- Change the elements that meet a condition. -/
def mapWhere {α : Type} (p : α → Bool) (f : α → α) (l : List α) : List α := l.map (fun x => if p x then f x else x)

/-! ## The byte memory

A list of address and byte pairs, addresses strictly rising, none holding 0: an unlisted address reads 0 (R206). -/

/-- Memory as a canonical list of cells. -/
abbrev Memory := List (Nat × BitVec 8)

/-- One byte. -/
def memGet : Memory → Nat → Byte
  | [], _ => 0#8
  | (k, v) :: t, a => if a = k then v else if a < k then 0#8 else memGet t a

/-- Write one byte: writing 0 takes the entry out. -/
def memPut : Memory → Nat → Byte → Memory
  | [], a, b => if b = 0#8 then [] else [(a, b)]
  | (k, v) :: t, a, b =>
    if a < k then (if b = 0#8 then (k, v) :: t else (a, b) :: (k, v) :: t)
    else if a = k then (if b = 0#8 then t else (a, b) :: t)
    else (k, v) :: memPut t a b

/-- `n` bytes from `a`. -/
def memRead (m : Memory) (a : Nat) : (n : Nat) → Bytes
  | 0 => []
  | n + 1 => memGet m a :: memRead m (a + 1) n

/-- Write a byte string from `a` upwards. -/
def memWrite (m : Memory) (a : Nat) : Bytes → Memory
  | [] => m
  | b :: bs => memWrite (memPut m a b) (a + 1) bs

/-- Write the bytes whose mask bit is 1. -/
def memWriteMask (m : Memory) (a : Nat) (mask : Nat) : Bytes → Memory
  | [] => m
  | b :: bs => memWriteMask (if mask % 2 = 1 then memPut m a b else m) (a + 1) (mask / 2) bs

/-- Set `n` bytes from `a` to 0. -/
def memZero (m : Memory) (a n : Nat) : Memory := m.filter (fun c => decide (c.1 < a) || decide (a + n ≤ c.1))

/-- The cells of `[a, a + n)`, moved so that they begin at `b`. -/
def memMoved (m : Memory) (a n b : Nat) : Memory :=
  (m.filter (fun c => decide (a ≤ c.1) && decide (c.1 < a + n))).map (fun c => (c.1 - a + b, c.2))

/-- Make `[b, b + n)` of `dst` equal to `[a, a + n)` of `src`. -/
def memCopy (src : Memory) (a n : Nat) (dst : Memory) (b : Nat) : Memory :=
  (dst.filter (fun c => decide (c.1 < b))) ++ memMoved src a n b ++ (dst.filter (fun c => decide (b + n ≤ c.1)))

/-- The canonical form: addresses strictly rise and no cell holds 0. -/
def memWf : Memory → Bool
  | [] => true
  | [(_, v)] => decide (v ≠ 0#8)
  | (a, v) :: (b, w) :: t => decide (v ≠ 0#8) && decide (a < b) && memWf ((b, w) :: t)

end Sys2Proof.Machine
end

