-- ==== Sys2Proof/Machine/Crypto.lean ====
section
/-! DEFINITION. The codes that the spec names: CRC-32C (R230, R399), the erasure code of a row (R395), SHA-256, the key derivation,
encryption and key wrap of R501-R506, and the RSASSA-PSS check of RFC 8017 with SHA-256, MGF1 and a 32-byte salt (R407, R511,
R529). -/

namespace Sys2Proof.Machine

/-! ## CRC-32C and the erasure code -/

/-- One bit of CRC-32C (reflected polynomial 0x82F63B78). -/
def crcBit (c : Nat) : Nat := if c % 2 = 1 then (c / 2) ^^^ 0x82F63B78 else c / 2

/-- One byte of CRC-32C. -/
def crcByte (c : Nat) (b : Byte) : Nat := (List.range 8).foldl (fun c _ => crcBit c) (c ^^^ b.toNat)

/-- CRC-32C of some bytes. -/
def crc32c (bs : Bytes) : Nat := bs.foldl crcByte 0xFFFFFFFF ^^^ 0xFFFFFFFF

/-- Multiplication by g = 2 in GF(2^8) with polynomial 0x11D (R395). -/
def gfDouble (b : Byte) : Byte := if b.toNat < 128 then b <<< 1 else (b <<< 1) ^^^ 0x1D#8

/-- The bytewise XOR of two units. -/
def xorBytes (a b : Bytes) : Bytes := List.zipWith (· ^^^ ·) a b

/-- P of the data units of a row (R395). -/
def parityP (units : List Bytes) : Bytes := units.foldl xorBytes (List.replicate 4096 0#8)

/-- Q of the data units of a row (R395), by Horner's rule from the last unit. -/
def parityQ (units : List Bytes) : Bytes := units.foldr (fun d q => xorBytes d (q.map gfDouble)) (List.replicate 4096 0#8)

/-! ## SHA-256

A hash value, and the working words a to h, are one number of eight 32-bit words with a on top; the sixteen words of the message
schedule that a round can see are one number of 512 bits, the word of the round on top. The constants are computed from the primes
that they are taken from. -/

/-- The first 64 primes. -/
def shaPrimes : List Nat := ((List.range 312).drop 2).filter (fun n => (List.range n).all (fun d => decide (d < 2) || decide (n % d ≠ 0)))

/-- The whole part of a `k`-th root, by its bits from bit `b - 1` down. -/
def rootBits (k n : Nat) : (b : Nat) → (r : Nat) → Nat
  | 0, r => r
  | b + 1, r => rootBits k n b (if (r + 2 ^ b) ^ k ≤ n then r + 2 ^ b else r)

/-- The first 32 bits of the fraction of the `k`-th root of a number under 400. -/
def rootFraction (k p : Nat) : Nat := rootBits k (p * 2 ^ (32 * k)) 37 0 % 2 ^ 32

/-- Fractions of the cube roots of the first 64 primes: one for each round. -/
def shaCubes : List Nat := shaPrimes.map (rootFraction 3)

/-- Fractions of the square roots of the first eight primes: the hash value before the first block. -/
def shaStart : Nat := (shaPrimes.take 8).foldl (fun n p => n * 2 ^ 32 + rootFraction 2 p) 0

/-- Word `i` from the top of a number of `n` words. -/
def topWord (n x i : Nat) : Nat := field x (32 * (n - 1 - i)) 32

/-- The XOR of the rotations of a 32-bit word to the right by each of some distances. -/
def rotations (x : Nat) (by_ : List Nat) : Nat := by_.foldl (fun y d => y ^^^ field (x * (2 ^ 32 + 1)) d 32) 0

/-- The rounds of one block, one for each constant. -/
def shaRounds : (constants : List Nat) → (words schedule : Nat) → Nat
  | [], x, _ => x
  | k :: ks, x, w =>
    let at_ := topWord 8 x
    let now := topWord 16 w
    let choice := (at_ 4 &&& at_ 5) ^^^ ((2 ^ 32 - 1 - at_ 4) &&& at_ 6)
    let t := at_ 7 + rotations (at_ 4) [6, 11, 25] + choice + k + now 0
    let most := (at_ 0 &&& at_ 1) ||| (at_ 2 &&& (at_ 0 ||| at_ 1))
    let a := (t + rotations (at_ 0) [2, 13, 22] + most) % 2 ^ 32
    let e := (at_ 3 + t) % 2 ^ 32
    let next := now 0 + (rotations (now 1) [7, 18] ^^^ (now 1 / 2 ^ 3)) + now 9 + (rotations (now 14) [17, 19] ^^^ (now 14 / 2 ^ 10))
    shaRounds ks (a * 2 ^ 224 + x / 2 ^ 160 * 2 ^ 128 + e * 2 ^ 96 + field x 32 96) (w % 2 ^ 480 * 2 ^ 32 + next % 2 ^ 32)

/-- The hash value after one block of 512 bits. -/
def shaBlock (x block : Nat) : Nat :=
  let y := shaRounds shaCubes x block
  (List.range 8).foldl (fun n i => n * 2 ^ 32 + (topWord 8 x i + topWord 8 y i) % 2 ^ 32) 0

/-- The hash value after the `k` blocks of a padded message, seen as one number. -/
def shaMessage (padded : Nat) : (k : Nat) → Nat
  | 0 => shaStart
  | k + 1 => shaBlock (shaMessage (padded / 2 ^ 512) k) (padded % 2 ^ 512)

/-- SHA-256 (R407, R512): the message, a one bit, zeros to a whole number of blocks, and its length in bits in the last 64. -/
def sha256 (msg : Bytes) : Bytes :=
  let blocks := (msg.length + 9 + 63) / 64
  natBe 32 (shaMessage ((beNat msg * 256 + 0x80) * 2 ^ (8 * (64 * blocks - msg.length - 1)) + 8 * msg.length) blocks)

/-! ## Keys (R500-R506) -/

/-- HMAC-SHA-256 under a key of at most 64 bytes (R501). -/
def hmac (key msg : Bytes) : Bytes :=
  let pad (b : Byte) : Bytes := (padTo 64 key).map (· ^^^ b)
  sha256 (pad 0x5C#8 ++ sha256 (pad 0x36#8 ++ msg))

/-- The label of R501, "FNV-XTS-1". -/
def kdfLabel : Bytes := [0x46#8, 0x4E#8, 0x56#8, 0x2D#8, 0x58#8, 0x54#8, 0x53#8, 0x2D#8, 0x31#8]

/-- Key1 and Key2 of a context key (R501): the counter-mode KDF of SP 800-108. PRESUMED (log entry 77): a 32-bit counter from 1, the
label, a zero byte, no context, and the length of both keys in bits as 32 bits, all big-endian. -/
def dataKeys (key : Bytes) : Bytes × Bytes :=
  let block (i : Nat) : Bytes := hmac key (natBe 4 i ++ kdfLabel ++ [0#8] ++ natBe 4 512)
  (block 1, block 2)

/-- Multiplication by x in the field of AES. -/
def aesDouble (b : Byte) : Byte := if b.toNat < 128 then b <<< 1 else (b <<< 1) ^^^ 0x1B#8

/-- Product in the field of AES, over the low `n` bits of `c`. -/
def aesTimes : (n : Nat) → (c : Nat) → (b : Byte) → Byte
  | 0, _, _ => 0#8
  | n + 1, c, b => (if c % 2 = 1 then b else 0#8) ^^^ aesTimes n (c / 2) (aesDouble b)

/-- The inverse in the field of AES, b to the power of 254; 0 for 0. -/
def aesInverse (b : Byte) : Byte :=
  let mul (x y : Byte) : Byte := aesTimes 8 x.toNat y
  (List.range 6).foldl (fun r _ => let r := mul r r; mul r b) b |> fun r => mul r r

/-- The substitution of a byte: its inverse under the affine map of AES. -/
def aesSub (b : Byte) : Byte :=
  let x := (aesInverse b).toNat * 257
  BitVec.ofNat 8 ([8, 7, 6, 5, 4].foldl (fun y d => y ^^^ field x d 8) 0x63)

/-- The substitution of every byte value. -/
def aesSubs : List Byte := (List.range 256).map (fun n => aesSub (BitVec.ofNat 8 n))

/-- A byte through the substitution. -/
def subByte (b : Byte) : Byte := aesSubs.getD b.toNat 0#8

/-- A byte back through the substitution. -/
def unsubByte (b : Byte) : Byte := BitVec.ofNat 8 (aesSubs.idxOf b)

/-- `k` more words of an AES-256 key schedule, given newest first; `i` is the number of the next word and `rc` the round constant. -/
def keyWords : (k i : Nat) → (rc : Byte) → List Bytes → List Bytes
  | 0, _, _, ws => ws
  | k + 1, i, rc, ws =>
    let last := ws.headD []
    let turned := ((last.drop 1) ++ last.take 1).map subByte
    let t := if i % 8 = 0 then xorBytes turned [rc, 0#8, 0#8, 0#8] else if i % 8 = 4 then last.map subByte else last
    keyWords k (i + 1) (if i % 8 = 0 then aesDouble rc else rc) (xorBytes (ws.getD 7 []) t :: ws)

/-- The 15 round keys of a 32-byte key. -/
def roundKeys (key : Bytes) : List Bytes :=
  let ws := (keyWords 52 8 1#8 ((List.range 8).map (fun i => (key.drop (4 * i)).take 4)).reverse).reverse
  (List.range 15).map (fun r => ((ws.drop (4 * r)).take 4).flatten)

/-- The rows of a block turned by their numbers times `k`, columns of four bytes. -/
def turnRows (k : Nat) (b : Bytes) : Bytes := (List.range 16).map (fun i => b.getD ((i + 4 * k * (i % 4)) % 16) 0#8)

/-- Each column times a row of factors that turns with the byte. -/
def mixColumns (factors : List Nat) (b : Bytes) : Bytes :=
  (List.range 16).map (fun i =>
    (List.range 4).foldl (fun x j => x ^^^ aesTimes 4 (factors.getD ((j + 4 - i % 4) % 4) 0) (b.getD (i / 4 * 4 + j) 0#8)) 0#8)

/-- AES-256 on one block of 16 bytes. -/
def aesEnc (key block : Bytes) : Bytes :=
  let ks := roundKeys key
  let inner := (ks.drop 1).take 13
  let x := inner.foldl (fun x k => xorBytes (mixColumns [2, 3, 1, 1] (turnRows 1 (x.map subByte))) k) (xorBytes block (ks.getD 0 []))
  xorBytes (turnRows 1 (x.map subByte)) (ks.getD 14 [])

/-- AES-256 on one block, backwards. -/
def aesDec (key block : Bytes) : Bytes :=
  let ks := roundKeys key
  let inner := ((ks.drop 1).take 13).reverse
  let x := inner.foldl (fun x k => mixColumns [14, 11, 13, 9] (xorBytes ((turnRows 3 x).map unsubByte) k)) (xorBytes block (ks.getD 14 []))
  xorBytes ((turnRows 3 x).map unsubByte) (ks.getD 0 [])

/-- The tweak of the next block of a data unit: times x in the field of XTS. -/
def nextTweak (t : Nat) : Nat := (2 * t % 2 ^ 128) ^^^ (if 2 ^ 127 ≤ t then 0x87 else 0)

/-- The blocks of a data unit under Key1 and a tweak that moves on, by a block cipher. -/
def xtsBlocks (cipher : Bytes → Bytes → Bytes) (key : Bytes) : (k t : Nat) → Bytes → Bytes
  | 0, _, _ => []
  | k + 1, t, bs =>
    let tw := natLe 16 t
    xorBytes (cipher key (xorBytes (bs.take 16) tw)) tw ++ xtsBlocks cipher key k (nextTweak t) (bs.drop 16)

/-- AES-256-XTS of one line (R502): the data unit is the 128-byte line, its tweak the line's number SA[51:7]. -/
def xtsLine (cipher : Bytes → Bytes → Bytes) (keys : Bytes × Bytes) (line : Nat) (data : Bytes) : Bytes :=
  xtsBlocks cipher keys.1 8 (leNat (aesEnc keys.2 (natLe 16 line))) (padTo 128 data)

/-- A line as ciphertext (R502). -/
def xtsEnc (keys : Bytes × Bytes) (line : Nat) (data : Bytes) : Bytes := xtsLine aesEnc keys line data

/-- A line from its ciphertext (R502). -/
def xtsDec (keys : Bytes × Bytes) (line : Nat) (data : Bytes) : Bytes := xtsLine aesDec keys line data

/-- AES-256 Key Wrap of a 32-byte key under another (R506): six passes over its four halves of a block. -/
def keyWrap (kek key : Bytes) : Bytes :=
  let start : Bytes × List Bytes := (List.replicate 8 0xA6#8, (List.range 4).map (fun i => (key.drop (8 * i)).take 8))
  let r := (List.range 24).foldl (fun (x : Bytes × List Bytes) t =>
    let b := aesEnc kek (x.1 ++ x.2.headD [])
    (xorBytes (b.take 8) (natBe 8 (t + 1)), x.2.drop 1 ++ [b.drop 8])) start
  r.1 ++ r.2.flatten

/-- AES-256 Key Unwrap: none where the check value fails. -/
def keyUnwrap (kek wrapped : Bytes) : Option Bytes :=
  let start : Bytes × List Bytes := (wrapped.take 8, (List.range 4).map (fun i => (wrapped.drop (8 * i + 8)).take 8))
  let r := (List.range 24).foldl (fun (x : Bytes × List Bytes) t =>
    let b := aesDec kek (xorBytes x.1 (natBe 8 (24 - t)) ++ (x.2.getLast?).getD [])
    (b.take 8, b.drop 8 :: x.2.dropLast)) start
  if r.1 = List.replicate 8 0xA6#8 then some r.2.flatten else none

/-! ## RSASSA-PSS -/

/-- Modular exponentiation over the bits of the exponent. -/
def powMod (m b : Nat) : (fuel : Nat) → (e : Nat) → Nat
  | 0, _ => 1 % m
  | fuel + 1, e =>
    if e = 0 then 1 % m
    else
      let h := powMod m (b * b % m) fuel (e / 2)
      if e % 2 = 1 then h * b % m else h

/-- MGF1 with SHA-256: `n` bytes. -/
def mgf1 (seed : Bytes) (n : Nat) : Bytes := (((List.range (n / 32 + 1)).map (fun i => sha256 (seed ++ natBe 4 i))).flatten).take n

/-- EMSA-PSS-VERIFY of RFC 8017 on an encoded message of 384 bytes, with a hash and a 32-byte salt. -/
def pssOk (hash em : Bytes) : Bool :=
  let masked := em.take 351
  let h := (em.drop 351).take 32
  let db := xorBytes masked (mgf1 h 351)
  let db := match db with
    | b :: t => (b &&& 0x7F#8) :: t
    | [] => []
  let salt := db.drop 319
  decide (em.length = 384) && decide (em.drop 383 = [0xBC#8]) && decide (((em.take 1).getD 0 0#8).toNat < 128) &&
    decide (db.take 319 = List.replicate 318 0#8 ++ [0x01#8]) &&
    decide (sha256 (List.replicate 8 0#8 ++ hash ++ salt) = h)

/-- RSASSA-PSS-VERIFY under an RSA-3072 modulus with exponent 65,537. -/
def rsaOk (modulus : Nat) (msg sig : Bytes) : Bool :=
  let v := beNat sig
  decide (sig.length = 384) && decide (v < modulus) && pssOk (sha256 msg) (natBe 384 (powMod modulus v 17 65537))

end Sys2Proof.Machine
end

