-- ==== Sys2Proof/Config.lean ====
section
/-! DEFINITION. What the spec leaves to the implementation or leaves open: constants WITHOUT A BODY, so that no proof can
see a value of them. A free value of the model is `Config.freeNat` applied to the counter `State.free`. -/

namespace Sys2Proof

/-- A value the spec leaves open (log entry 5): the next one is read at the state's counter of free values. -/
opaque Config.freeNat : Nat → Nat

/-- The order in which the device combines the partial sums of a reduction (R119, R120): a list of positions. -/
opaque Config.order : (draw : Nat) → (length : Nat) → List Nat

/-- The keyed 64-bit hash H of a line (R284): its construction is not part of the interface (R285). -/
opaque Config.homeHash : (key : Nat) → (line : Nat) → BitVec 64

/-- The two positions of a node in the visited filter, from a fixed hash the spec does not give (R365). -/
opaque Config.visitHash : (node : Nat) → BitVec 15 × BitVec 15

/-- The fixed hash that chooses the fabric port of a node's line (R446). -/
opaque Config.portHash : (node : Nat) → (line : Nat) → Nat

/-- The set of the T1 cache region in which a T2 frame is held (R198): the index is not stated. -/
opaque Config.cacheSet : (frame : Nat) → (sets : Nat) → Nat

/-- The bank of an Inkwell's shadow set in which a line is held (R289): the index is not stated. -/
opaque Config.shadowSet : (line : Nat) → BitVec 12

/-- The bytes of the event log entry OD 0xF000.01: the layout of an event is not stated (R93). -/
opaque Config.eventBytes : (code : Nat) → (time : Nat) → (args : List Nat) → Bytes

/-- The first byte of the device certificate chain. -/
opaque Config.chainHead : Byte

/-- Its other bytes. -/
opaque Config.chainRest : Bytes

/-- The device certificate chain of R510, as bytes: it holds one certificate at least. -/
def Config.certChain : Bytes := Config.chainHead :: Config.chainRest

/-- The device certificate itself (R510). -/
opaque Config.deviceCert : Bytes

/-- The RSASSA-PSS signature under the identity key (R511, R515): the key is never stated. -/
opaque Config.sign : (message : Bytes) → (draw : Nat) → Bytes

/-- BYTES of a completion record (R207) whose count does not fit its 40 bits: not stated. -/
opaque Config.wideBytes : (bytes : Nat) → BitVec 40

/-- The device sealing key fused in both management dies (R506, R510): 32 bytes. -/
opaque Config.sealingKey : Bytes

/-- Serial number, OD 0x1000.03 (Factory). -/
opaque Config.serial : Bytes

/-- Hardware revision, OD 0x1000.04 (Factory). -/
opaque Config.hwRev : BitVec 16

/-- Field-network MAC address, OD 0x1001.01 (Factory). -/
opaque Config.mac : BitVec 48

/-- The hash fused in key-hash slot 1 to 4, none where the slot is EMPTY (R531). -/
opaque Config.keyHash : Fin 4 → Option (BitVec 256)

/-- The fused security version at manufacture (R532). -/
opaque Config.svn : Fin 65

/-- The Fenuvy cartridge root hash fused in both management dies (R407). -/
opaque Config.cartRoot : BitVec 256

/-- SHA-256 digest of the boot ROM of the active management die (R512, measurement 1). -/
opaque Config.romDigest : BitVec 256

/-- How many requests a bank holds beside one, before it refuses more (R300): not stated. -/
opaque Config.bankRoom : Nat

/-- The size in bytes of the buffer that programs image chunks behind the response (R535): not stated. -/
opaque Config.programBuffer : Nat

/-- The median handshake time of one die's calibration is not stated; the voltage a die runs at for a given request is
the request (R623). A governor's own choice of voltage request, within its limits (R540), in mV. -/
opaque Config.governorChoice : (die : Nat) → (draw : Nat) → Nat

end Sys2Proof
end

