-- ==== Sys2Proof/Machine/NibArith.lean ====
section
/-! DEFINITION. Nib arithmetic (03): exact binary values, the element and block formats, escape lanes, tile images, sums,
epilogues, output conversion, amax and the error norm. -/

namespace Sys2Proof.Machine

/-! ## Values -/

/-- A value of an FP32 or narrower format: `m · 2^e`, an infinity or a NaN. The sign of a zero is not kept (R103). -/
inductive Fl where
  | fin (m e : Int)
  | inf (neg : Bool)
  | nan
  deriving DecidableEq, Repr

/-- Zero. -/
def flZero : Fl := .fin 0 0

/-- Is the value finite? -/
def flFinite : Fl → Bool
  | .fin _ _ => true
  | _ => false

/-- Exact sum, with infinities and NaN as IEEE 754 has them (R118). -/
def flAddX : Fl → Fl → Fl
  | .nan, _ => .nan
  | _, .nan => .nan
  | .inf a, .inf b => if a = b then .inf a else .nan
  | .inf a, _ => .inf a
  | _, .inf b => .inf b
  | .fin m e, .fin n f => if e ≤ f then .fin (m + n * 2 ^ (f - e).toNat) e else .fin (m * 2 ^ (e - f).toNat + n) f

/-- Exact product, with infinities and NaN as IEEE 754 has them. -/
def flMulX : Fl → Fl → Fl
  | .nan, _ => .nan
  | _, .nan => .nan
  | .inf a, .inf b => .inf (a != b)
  | .inf a, .fin n _ => if n = 0 then .nan else .inf (a != decide (n < 0))
  | .fin m _, .inf b => if m = 0 then .nan else .inf (b != decide (m < 0))
  | .fin m e, .fin n f => .fin (m * n) (e + f)

/-- Negation. -/
def flNeg : Fl → Fl
  | .fin m e => .fin (-m) e
  | .inf a => .inf (!a)
  | .nan => .nan

/-- Magnitude. -/
def flAbs : Fl → Fl
  | .fin m e => .fin (m.natAbs : Int) e
  | .inf _ => .inf false
  | .nan => .nan

/-- `a < b` of two finite values; false otherwise. -/
def flLt : Fl → Fl → Bool
  | .fin m e, .fin n f => if e ≤ f then decide (m < n * 2 ^ (f - e).toNat) else decide (m * 2 ^ (e - f).toNat < n)
  | _, _ => false

/-- Numerator and denominator of the magnitude of `m · 2^e`. -/
def flRat (m e : Int) : Nat × Nat :=
  if 0 ≤ e then (m.natAbs * 2 ^ e.toNat, 1) else (m.natAbs, 2 ^ (-e).toNat)

/-! ## Rounding -/

/-- The rounding modes of R124. -/
inductive RMode where
  | rne | sr | rtz
  deriving DecidableEq, Repr

/-- The mode a ROUND field names; code 3 is reserved. -/
def rmodeOf : Nat → Option RMode
  | 0 => some .rne
  | 1 => some .sr
  | 2 => some .rtz
  | _ => none

/-- A magnitude `n / d` rounded to a whole number under a mode (R124); `k` is the 16 random bits of the stochastic mode. -/
def quantMag (mode : RMode) (k : Nat) (neg : Bool) (n d : Nat) : Nat :=
  let lo := n / d
  let rem := n % d
  if rem = 0 then lo
  else match mode with
    | .rtz => lo
    | .rne => if 2 * rem < d then lo else if d < 2 * rem then lo + 1 else if lo % 2 = 0 then lo else lo + 1
    | .sr =>
      if neg then (if k * d < (d - rem) * 65536 then lo else lo + 1)
      else (if k * d < rem * 65536 then lo + 1 else lo)

/-- The whole exponent `f` with `2^f ≤ n/d < 2^(f+1)`, for positive `n` and `d`. -/
def flog2Rat (n d : Nat) : Int :=
  let f : Int := (n.log2 : Int) - (d.log2 : Int)
  let ge := if 0 ≤ f then decide (d * 2 ^ f.toNat ≤ n) else decide (d ≤ n * 2 ^ (-f).toNat)
  if ge then f else f - 1

/-- A positive magnitude `n / d` rounded to `p` significant bits, with no bit below `2^qmin`: the whole number of units and
the exponent of the unit. -/
def roundSig (p : Nat) (qmin : Int) (mode : RMode) (k : Nat) (neg : Bool) (n d : Nat) : Nat × Int :=
  let q := max (flog2Rat n d - ((p : Int) - 1)) qmin
  if 0 ≤ q then (quantMag mode k neg n (d * 2 ^ q.toNat), q)
  else (quantMag mode k neg (n * 2 ^ (-q).toNat) d, q)

/-- Round a rational to FP32 to nearest even (R113). -/
def round32Rat (neg : Bool) (n d : Nat) : Fl :=
  if n = 0 then flZero
  else
    let (u, q) := roundSig 24 (-149) .rne 0 neg n d
    let (a, b) := flRat (u : Int) q
    if u = 0 then flZero
    else if 2 ^ 128 * b ≤ a then .inf neg
    else .fin (if neg then -(u : Int) else (u : Int)) q

/-- Round an exact value to FP32 (R113, R118). -/
def round32 : Fl → Fl
  | .fin m e => let (n, d) := flRat m e; round32Rat (decide (m < 0)) n d
  | x => x

/-- FP32 sum. -/
def add32 (a b : Fl) : Fl := round32 (flAddX a b)

/-- A subnormal FP32 value flushed to zero (R116). -/
def flush32 : Fl → Fl
  | .fin m e => let (n, d) := flRat m e; if n * 2 ^ 126 < d then flZero else .fin m e
  | x => x

/-- FP32 sum in an accumulator (R113, R116). -/
def acc32 (a b : Fl) : Fl := flush32 (add32 a b)

/-- FP32 product. -/
def mul32 (a b : Fl) : Fl := round32 (flMulX a b)

/-- FP32 quotient. -/
def div32 : Fl → Fl → Fl
  | .nan, _ => .nan
  | _, .nan => .nan
  | .inf _, .inf _ => .nan
  | .inf a, .fin n _ => .inf (a != decide (n < 0))
  | .fin _ _, .inf _ => flZero
  | .fin m e, .fin n f =>
    if n = 0 then (if m = 0 then .nan else .inf (decide (m < 0)))
    else
      let (a, b) := flRat m e
      let (c, d) := flRat n f
      round32Rat (decide (m < 0) != decide (n < 0)) (a * d) (b * c)

/-- FP32 square root of a value. -/
def sqrt32 : Fl → Fl
  | .nan => .nan
  | .inf neg => if neg then .nan else .inf false
  | .fin m e =>
    if m = 0 then flZero else if m < 0 then .nan
    else
      let (a, b) := flRat m e
      let w := a * 2 ^ 400 / b
      let r := Nat.sqrt w
      -- a bit below the last one says that the root is not exact
      if r * r * b = a * 2 ^ 400 then round32Rat false r (2 ^ 200) else round32Rat false (2 * r + 1) (2 ^ 201)

/-! ## Element encodings (R100-R103) -/

/-- A small float of `eb` exponent and `mb` mantissa bits with a bias, without special codes. -/
def decSmall (eb mb : Nat) (bias : Int) (c : Nat) : Fl :=
  let neg := bitOf c (eb + mb)
  let ex := field c mb eb
  let man := field c 0 mb
  let m : Int := if ex = 0 then (man : Int) else ((2 ^ mb + man : Nat) : Int)
  let e : Int := (if ex = 0 then 1 - bias else (ex : Int) - bias) - mb
  .fin (if neg then -m else m) e

/-- E2M1. -/
def decE2M1 (c : Nat) : Fl := decSmall 2 1 1 c

/-- E4M3: S.1111.111 is NaN. -/
def decE4M3 (c : Nat) : Fl := if field c 0 7 = 0x7F then .nan else decSmall 4 3 7 c

/-- E5M2: S.11111.00 is infinity, S.11111.01 to 11 NaN. -/
def decE5M2 (c : Nat) : Fl :=
  if field c 2 5 = 31 then (if field c 0 2 = 0 then .inf (bitOf c 7) else .nan) else decSmall 5 2 15 c

/-- IEEE 754 binary32. -/
def decF32 (c : Nat) : Fl :=
  if field c 23 8 = 255 then (if field c 0 23 = 0 then .inf (bitOf c 31) else .nan) else decSmall 8 23 127 c

/-- BF16: binary32 with the low 16 bits zero. -/
def decBF16 (c : Nat) : Fl := decF32 (c * 65536)

/-- Two's complement of `w` bits. -/
def decInt (w c : Nat) : Fl := .fin (toSigned w c) 0

/-- An E8M0 scale: 2^(E-127), 0xFF NaN. -/
def decE8M0 (c : Nat) : Fl := if c = 255 then .nan else .fin 1 ((c : Int) - 127)

/-- T2 codes (R101); the escape code decodes as 0 here (R111), its value comes from the record (R109). -/
def decT2 (c : Nat) : Fl := if c = 1 then .fin 1 0 else if c = 3 then .fin (-1) 0 else flZero

/-- A B1 bit (R102). -/
def decB1 (b : Bool) : Fl := if b then .fin 1 0 else .fin (-1) 0

/-! ## Format codes (R98, R99) -/

/-- Elements of the formats that carry a scale per block of 32. -/
def fmtScaled (f : Nat) : Bool := f = 0 || f = 1 || f = 2 || f = 4 || f = 5 || f = 6

/-- Does the format carry an E8M0 scale (others with a scale carry E4M3)? -/
def fmtE8M0 (f : Nat) : Bool := f = 0 || f = 4 || f = 5

/-- Bits of one element. -/
def fmtBits : Nat → Nat
  | 0 => 4
  | 1 => 4
  | 2 => 2
  | 3 => 1
  | 4 => 8
  | 5 => 8
  | 6 => 8
  | 7 => 16
  | _ => 32

/-- Tile depth of a weight format (R95). -/
def fmtDepth (f : Nat) : Nat := if f = 2 then 128 else if f = 3 then 256 else 64

/-- Legal combinations of WFMT, AFMT and OFMT (R99). -/
def fmtLegal (w a o : Nat) : Bool :=
  let a8 := a = 4 || a = 5 || a = 6
  let oAll := o = 4 || o = 5 || o = 6 || o = 7 || o = 8
  if w = 0 || w = 1 || w = 2 || w = 4 || w = 5 || w = 6 then a8 && oAll
  else if w = 3 then a = 3 && oAll
  else if w = 7 then a = 7 && (o = 7 || o = 8)
  else false

/-- An element by its code. -/
def decElem (f c : Nat) : Fl :=
  match f with
  | 0 => decE2M1 c
  | 1 => decInt 4 c
  | 2 => decT2 c
  | 3 => decB1 (c % 2 = 1)
  | 4 => decE4M3 c
  | 5 => decE5M2 c
  | 6 => decInt 8 c
  | 7 => decBF16 c
  | _ => decF32 c

/-- A block's scale and whether it is a malformed one (R104, R105): an E4M3 scale is used as its magnitude. -/
def decScale (f c : Nat) : Fl × Bool :=
  if fmtE8M0 f then (decE8M0 c, false) else (decE4M3 (c % 128), bitOf c 7)

/-- The code of element `i` of a packed plane. -/
def elemCode (f : Nat) (plane : Bytes) (i : Nat) : Nat :=
  let b := fmtBits f
  if b ≥ 8 then leAt plane (i * (b / 8)) (b / 8)
  else field ((plane.getD (i * b / 8) 0#8).toNat) (i * b % 8) b

/-! ## Blocks of 32 (R104-R111) -/

/-- One decoded block: its scale, its 32 elements in units of the scale, what it adds to the counters of escapes and of malformed blocks,
and how many of the latter are cases of malformed escape data (R111). -/
structure Block where
  scale     : Fl
  elems     : List Fl
  escapes   : Nat
  malformed : Nat
  badLanes  : Nat
  deriving DecidableEq, Repr

/-- The values of an escape record (R107): VAL0, VAL1, POS0, POS1, TWO, and the reserved bits. -/
structure EscRec where
  val0 : Nat
  val1 : Nat
  pos0 : Nat
  pos1 : Nat
  two  : Bool
  resv : Nat
  deriving DecidableEq, Repr

/-- Read an escape record. -/
def escRec (n : Nat) : EscRec := ⟨field n 0 8, field n 8 8, field n 16 5, field n 21 5, bitOf n 26, field n 27 5⟩

/-- An escaped value: E4M3 for F4, INT8 for I4 and T2 (R107, R110). -/
def escValue (f v : Nat) : Fl := if f = 0 then decE4M3 v else decInt 8 v

/-- Apply an escape record to an F4 or I4 block (R108, R111). -/
def escApply (f : Nat) (r : EscRec) (es : List Fl) : List Fl × Nat × Nat :=
  let clash := r.two && r.pos1 = r.pos0
  let es1 := if r.two && !clash then es.set r.pos1 (escValue f r.val1) else es
  (es1.set r.pos0 (escValue f r.val0), (if r.two && !clash then 2 else 1),
    (if clash then 1 else 0) + (if r.resv = 0 then 0 else 1))

/-- Place the escape values of a T2 block: first, second, then 0 (R109, R111). -/
def escT2 (r : EscRec) : (codes : List Nat) → (seen : Nat) → List Fl
  | [], _ => []
  | c :: cs, n =>
    if c = 2 then
      (if n = 0 then escValue 2 r.val0 else if n = 1 then escValue 2 r.val1 else flZero) :: escT2 r cs (n + 1)
    else decT2 c :: escT2 r cs n

/-- One decoded block from its scale byte, its element codes and its escape record, if it has one. -/
def mkBlock (f : Nat) (scale : Nat) (codes : List Nat) (esc : Option Nat) : Block :=
  let (s, bad) := if fmtScaled f then decScale f scale else (.fin 1 0, false)
  let b := if bad then 1 else 0
  match esc with
  | none => ⟨s, codes.map (decElem f), 0, b, 0⟩
  | some n =>
    let r := escRec n
    if f = 2 then
      let k := codes.count 2
      let resv := field n 16 16
      let m := (if 3 ≤ k then 1 else 0) + (if resv = 0 then 0 else 1)
      ⟨s, escT2 r codes 0, min k 2, b + m, m⟩
    else
      let (es, k, m) := escApply f r (codes.map (decElem f))
      ⟨s, es, k, b + m, m⟩

/-- Value of element `i` of a block, scaled (R104); a NaN scale makes it NaN (R105). -/
def blockValue (b : Block) (i : Nat) : Fl := flMulX b.scale (b.elems.getD i flZero)

/-! ## Tile images (R112) -/

/-- Bytes of the planes of one tile image that have a fixed length: elements, scales, flags. -/
def tilePlanes (f : Nat) : Nat × Nat × Nat :=
  match f with
  | 0 => (2048, 128, 16)
  | 1 => (2048, 128, 16)
  | 2 => (2048, 256, 0)
  | 3 => (2048, 0, 0)
  | 7 => (8192, 0, 0)
  | _ => (4096, 128, 0)

/-- Does block `j` of the tile that begins at offset 0 of `img` carry an escape record (R108, R109)? -/
def tileEscaped (f : Nat) (img : Bytes) (j : Nat) : Bool :=
  let (e, s, _) := tilePlanes f
  if f = 0 || f = 1 then bitOf ((img.getD (e + s + j / 8) 0#8).toNat) (j % 8)
  else if f = 2 then (List.range 32).any (fun i => elemCode 2 img (32 * j + i) = 2)
  else false

/-- Number of blocks of a tile. -/
def tileBlocks (f : Nat) : Nat := 64 * (fmtDepth f / 32)

/-- Number of escape records of the blocks below `j`. -/
def tileEscBelow (f : Nat) (img : Bytes) (j : Nat) : Nat := ((List.range j).filter (tileEscaped f img)).length

/-- Length in bytes of the tile image at the start of `img`. -/
def tileLen (f : Nat) (img : Bytes) : Nat :=
  let (e, s, g) := tilePlanes f
  if f = 0 || f = 1 || f = 2 then roundUp (e + s + g + 4 * tileEscBelow f img (tileBlocks f)) 16 else e + s

/-- Block `b` of output column `n` of a tile: block number n × (depth ÷ 32) + b. -/
def tileBlock (f : Nat) (img : Bytes) (n b : Nat) : Block :=
  let j := n * (fmtDepth f / 32) + b
  let (e, s, g) := tilePlanes f
  let codes := (List.range 32).map (fun i => elemCode f img (32 * j + i))
  let esc := if tileEscaped f img j then some (leAt img (e + s + g + 4 * tileEscBelow f img j) 4) else none
  mkBlock f ((img.getD (e + j) 0#8).toNat) codes esc

/-- Block `b` of an activation row of `k` elements: elements, then one scale byte per block (R160). -/
def rowBlock (f k : Nat) (row : Bytes) (b : Nat) : Block :=
  let codes := (List.range 32).map (fun i => elemCode f row (32 * b + i))
  mkBlock f ((row.getD (k * fmtBits f / 8 + b) 0#8).toNat) codes none

/-- Bytes of a row of `k` elements: elements and, for a scaled format, k ÷ 32 scale bytes (R160). -/
def rowBytes (f k : Nat) : Nat := k * fmtBits f / 8 + (if fmtScaled f then k / 32 else 0)

/-! ## Sums (R113-R120) -/

/-- Exact sum of the 32 products of one block pair, in units of the two scales (R113). -/
def blockDot (w a : List Fl) : Fl := ((w.zip a).map (fun p => flMulX p.1 p.2)).foldl flAddX flZero

/-- One block's contribution: the exact block sum times the two scales, rounded once (R113). -/
def blockTerm (w a : Block) : Fl := round32 (flMulX (flMulX (blockDot w.elems a.elems) w.scale) a.scale)

/-- Matching bits of a B1 block pair counted as 2 × popcount(XNOR) − 32 (R115). -/
def b1Term (w a : Block) : Int := ((w.elems.zip a.elems).map (fun p => if p.1 = p.2 then (1 : Int) else -1)).sum

/-- BF16 products of one block pair added one after another into an accumulator (R114). A product that no FP32 number holds is kept exact
until it is added (log entry 99). -/
def bf16Terms (acc : Fl) (w a : Block) : Fl := ((w.elems.zip a.elems).map (fun p => flMulX p.1 p.2)).foldl acc32 acc

/-- The terms of one slice of a reduction added into an FP32 accumulator, in depth order (R119; log entry 88). -/
def sliceSum (f : Nat) (ps : List (Block × Block)) : Fl :=
  if f = 7 then ps.foldl (fun acc p => bf16Terms acc p.1 p.2) flZero
  else ps.foldl (fun acc p => acc32 acc (blockTerm p.1 p.2)) flZero

/-- The INT32 accumulator of a B1 slice. -/
def sliceB1 (ps : List (Block × Block)) : Int := (ps.map (fun p => b1Term p.1 p.2)).sum

/-- A list brought into the order that the device chooses (R119): positions it does not name come last, in their order. -/
def inDeviceOrder {α : Type} (draw : Nat) (l : List α) : List α :=
  if l.length ≤ 1 then l
  else
    let ixs := ((Config.order draw l.length).filter (fun i => decide (i < l.length))).dedup
    let rest := (List.range l.length).filter (fun i => !ixs.contains i)
    (ixs ++ rest).filterMap (fun i => l[i]?)

/-- Combine partial FP32 sums in the device's order (R119), in an accumulator that flushes (R116). -/
def combineSums (draw : Nat) (l : List Fl) : Fl :=
  match inDeviceOrder draw l with
  | [] => flZero
  | x :: xs => xs.foldl acc32 (flush32 x)

/-- y = acc × α × β, rounded once (R115). -/
def b1Result (acc : Int) (α β : Fl) : Fl := round32 (flMulX (flMulX (.fin acc 0) α) β)

/-! ## Epilogue (R161) -/

/-- FP32 bits of a value; the sign of a zero and the code of a NaN come from the free value `r` (R103, R123). -/
def encF32 (r : Nat) : Fl → Nat
  | .nan => 0x7F800000 + (1 + r / 2 ^ 17 % (2 ^ 23 - 1)) + (if bitOf r 16 then 2 ^ 31 else 0)
  | .inf neg => 0x7F800000 + (if neg then 2 ^ 31 else 0)
  | .fin m e =>
    let s := if m < 0 then 2 ^ 31 else 0
    let (n, d) := flRat m e
    if n = 0 then (if bitOf r 16 then 2 ^ 31 else 0)
    else
      let (u, q) := roundSig 24 (-149) .rne 0 (decide (m < 0)) n d
      let bits := if u < 2 ^ 23 then u else (q + 150).toNat * 2 ^ 23 + (u - 2 ^ 23)
      s + min bits 0x7F800000

/-- ln 2 in units of 2^-128. -/
def ln2 : Nat := 235865763225513294137944142764154484399

/-- The sum of x^n / n! from a term on, for 0 ≤ x < 1 in units of 2^-128. -/
def expTerms (x : Nat) : (fuel n term : Nat) → Nat
  | 0, _, _ => 0
  | fuel + 1, n, term => term + expTerms x fuel (n + 1) (term * x / 2 ^ 128 / n)

/-- e^x, to 2^-120 of its value; beyond ±512 it is out of the range of FP32 either way, and it is taken at the bound. -/
def flExp : Fl → Fl
  | .nan => .nan
  | .inf neg => if neg then flZero else .inf false
  | .fin m e =>
    let (n, d) := flRat m e
    let mag : Int := ((min (n * 2 ^ 128 / d) (2 ^ 137) : Nat) : Int)
    let x := if m < 0 then -mag else mag
    let k := x / (ln2 : Int)
    .fin (expTerms (x - k * (ln2 : Int)).toNat 48 1 (2 ^ 128) : Nat) (k - 128)

/-- A quotient to 300 bits below its operands' scales; a zero divisor gives NaN. -/
def flDivX : Fl → Fl → Fl
  | .fin m e, .fin n f => if n = 0 then .nan else .fin (m * 2 ^ 300 / n) (e - f - 300)
  | .fin _ _, .inf _ => flZero
  | _, _ => .nan

/-- A value off by a relative error that the free value `r` chooses, at most `b` of 2^-40. -/
def offBy (b r : Nat) (x : Fl) : Fl := flMulX x (.fin (2 ^ 40 + (((r % (2 * b + 1) : Nat) : Int) - (b : Int))) (-40))

/-- SILU and GELU are within 2^-12 of their values (R161): 2^-12 less 2^-20 before the result is rounded to FP32. -/
def actError : Nat := 2 ^ 28 - 2 ^ 20

/-- y ÷ (1 + e^-x), within the error of R161; what the formula gives for -∞ is not stated, so a free bit chooses. -/
def logistic (r : Nat) (y x : Fl) : Fl :=
  match y with
  | .nan => .nan
  | .inf neg => if !neg then .inf false else if bitOf r 60 then .nan else flZero
  | y => round32 (offBy actError r (flDivX y (flAddX (.fin 1 0) (flExp (flNeg x)))))

/-- SILU (R161). -/
def silu (r : Nat) (y : Fl) : Fl := logistic r y y

/-- GELU (R161): 0.5 (1 + tanh u) is 1 ÷ (1 + e^-2u), with u = 0.797885 (y + 0.044715 y³). -/
def gelu (r : Nat) (y : Fl) : Fl :=
  let cube := flMulX (flMulX y y) y
  logistic r y (flDivX (flMulX (.fin 1595770 0) (flAddX (flMulX (.fin 1000000 0) y) (flMulX (.fin 44715 0) cube))) (.fin 1000000000000 0))

/-- The epilogue's result (R161); max(NaN, 0) is not stated, so a free bit chooses. -/
def epilogue (epi : Nat) (r : Nat) (y e : Fl) : Fl :=
  match epi with
  | 1 => match y with
    | .fin m x => if m < 0 then flZero else .fin m x
    | .inf neg => if neg then flZero else .inf false
    | .nan => if bitOf r 15 then .nan else flZero
  | 2 => silu r y
  | 3 => gelu r y
  | 4 => add32 y e
  | 5 => mul32 y e
  | 6 => mul32 (silu r y) e
  | _ => y

/-- e^x in FP32 (R165, R168): how it is rounded is not stated, so the free value `r` moves it by 2^-23 of it at most. -/
def exp32 (r : Nat) (x : Fl) : Fl := round32 (offBy (2 ^ 17) r (flExp x))

/-! ## Output conversion (R121-R124) -/

/-- The largest finite magnitude of an output format (R121), as units of 2^0. -/
def fmtMax : Nat → Nat
  | 4 => 448
  | 5 => 57344
  | _ => 127

/-- The largest finite magnitude of a list of values, zero where there is none. -/
def maxFinite (l : List Fl) : Fl :=
  l.foldl (fun acc y => match y with
    | .fin m e => if flLt acc (.fin (m.natAbs : Int) e) then .fin (m.natAbs : Int) e else acc
    | _ => acc) flZero

/-- The scale byte for a largest magnitude (R122): the smallest power of two, or the smallest E4M3 value, that holds it; the largest
for an infinite one. No scale is stated for a value that is not a magnitude: it comes from the free value `r` (log entry 16). -/
def scaleFor (o r : Nat) (amax : Fl) : Nat :=
  match amax with
  | .fin m e =>
    if m ≤ 0 then (if o = 6 then 1 else 0)
    else
      let (n, d) := flRat m e
      if o = 6 then
        match (List.range 126).find? (fun c => !flLt (flMulX (decE4M3 (c + 1)) (.fin 127 0)) (.fin m e)) with
        | some c => c + 1
        | none => 0x7E
      else
        let fm := fmtMax o
        let t := flog2Rat n d - (fm.log2 : Int)
        let le := if 0 ≤ t then decide (n ≤ fm * 2 ^ t.toNat * d) else decide (n * 2 ^ (-t).toNat ≤ fm * d)
        let ex := if le then t else t + 1
        (max (-127) (min 127 ex) + 127).toNat
  | .inf _ => if o = 6 then 0x7E else 254
  | .nan => if o = 6 then 1 + r % 0x7E else r % 255

/-- The scale's value. -/
def scaleValue (o c : Nat) : Fl := if o = 6 then decE4M3 c else decE8M0 c

/-- Bits of a small float of `mb` mantissa bits from a rounded magnitude of `u` units of `2^q`, the smallest unit `qmin`. -/
def packSmall (mb : Nat) (qmin : Int) (u : Nat) (q : Int) : Nat :=
  if u < 2 ^ mb then u else (q - qmin + 1).toNat * 2 ^ mb + (u - 2 ^ mb)

/-- One converted value: its code, whether it was clamped, whether it was not finite. -/
structure Conv where
  code   : Nat
  sat    : Bool
  nonfin : Bool
  deriving DecidableEq, Repr

/-- Convert a value to E4M3 or E5M2 under a scale (R121, R123, R124). Above FMAX it rounds on the format's grid carried on (log entry
100). -/
def convF8 (o : Nat) (mode : RMode) (r : Nat) (s : Fl) (y : Fl) : Conv :=
  let mb := if o = 4 then 3 else 2
  let qmin : Int := if o = 4 then -9 else -16
  let top := if o = 4 then 0x7E else 0x7B
  match y, s with
  | .inf neg, _ => ⟨top + (if neg then 128 else 0), false, true⟩
  | .fin m e, .fin sm se =>
    let neg := decide (m < 0)
    let (a, b) := flRat m e
    let (c, d) := flRat sm se
    let sg := if neg then 128 else 0
    if a = 0 ∨ c = 0 then ⟨if bitOf r 16 then 128 else 0, false, false⟩
    else
      let (u, q) := roundSig (mb + 1) qmin mode (r % 65536) neg (a * d) (b * c)
      let (n, dd) := flRat (u : Int) q
      if fmtMax o * dd < n then ⟨sg + top, true, false⟩
      else if u = 0 then ⟨if bitOf r 16 then 128 else 0, false, false⟩
      else ⟨sg + packSmall mb qmin u q, false, false⟩
  | _, _ =>
    ⟨(if o = 4 then 0x7F else 0x7C + (1 + r / 2 ^ 17 % 3)) + (if bitOf r 16 then 128 else 0), false, true⟩

/-- Convert a value to INT8 under a scale; NaN becomes 0, -128 is never produced (R121, R123). -/
def convI8 (mode : RMode) (r : Nat) (s : Fl) (y : Fl) : Conv :=
  match y, s with
  | .inf neg, _ => ⟨if neg then 256 - 127 else 127, false, true⟩
  | .fin m e, .fin sm se =>
    let neg := decide (m < 0)
    let (a, b) := flRat m e
    let (c, d) := flRat sm se
    if a = 0 ∨ c = 0 then ⟨0, false, false⟩
    else
      let u := quantMag mode (r % 65536) neg (a * d) (b * c)
      let v := min u 127
      ⟨if neg && v != 0 then 256 - v else v, decide (127 < u), false⟩
  | _, _ => ⟨0, false, true⟩

/-- Convert a value to BF16 (R121, R123). A finite value that rounds past the largest becomes infinity, which counts neither as a saturation
nor as non-finite (log entry 101). -/
def convBF16 (mode : RMode) (r : Nat) (y : Fl) : Conv :=
  match y with
  | .nan => ⟨0x7F80 + (1 + r / 2 ^ 17 % 127) + (if bitOf r 16 then 0x8000 else 0), false, true⟩
  | .inf neg => ⟨0x7F80 + (if neg then 0x8000 else 0), false, true⟩
  | .fin m e =>
    let neg := decide (m < 0)
    let (n, d) := flRat m e
    let sg := if neg then 0x8000 else 0
    if n = 0 then ⟨if bitOf r 16 then 0x8000 else 0, false, false⟩
    else
      let (u, q) := roundSig 8 (-133) mode (r % 65536) neg n d
      ⟨if u = 0 then (if bitOf r 16 then 0x8000 else 0) else sg + min (packSmall 7 (-133) u q) 0x7F80, false, false⟩

/-- Convert one value to an output format under a scale (R121). -/
def convOne (o : Nat) (mode : RMode) (r : Nat) (s : Fl) (y : Fl) : Conv :=
  if o = 4 ∨ o = 5 then convF8 o mode r s y
  else if o = 6 then convI8 mode r s y
  else if o = 7 then convBF16 mode r y
  else ⟨encF32 r y, false, !flFinite y⟩

/-- One converted output block of up to 32 values: the element bytes, the scale byte, and the counts of clamps and non-finite
values. `tensor` is the magnitude that TENSOR mode uses; the draws of the elements are `r`, `r+1`, …, and of the scale the next. -/
def convBlock (o : Nat) (mode : RMode) (tensor : Option Fl) (r : Nat) (ys : List Fl) : Bytes × Nat × Nat × Nat :=
  let sc := scaleFor o (Config.freeNat (r + ys.length)) (tensor.getD (maxFinite ys))
  let s := scaleValue o sc
  let cs := (ys.zip (List.range ys.length)).map (fun p => convOne o mode (Config.freeNat (r + p.2)) s p.1)
  ((cs.map (fun c => natLe (fmtBits o / 8) c.code)).flatten, sc, (cs.filter (·.sat)).length, (cs.filter (·.nonfin)).length)

/-! ## The error norm (R133, R134, R136) -/

/-- The exact square of a finite value times 2^1200, a whole number (squares of FP32 values have no bit below 2^-298). -/
def sqScaled : Fl → Nat
  | .fin m e => let (n, d) := flRat m e; n * n * 2 ^ 1200 / (d * d)
  | _ => 0

/-- Sum of squared differences and of squared references over the outputs that are finite in both, and whether some output is
finite in one only. -/
def errNorm (ps : List (Fl × Fl)) : Nat × Nat × Bool :=
  let both := ps.filter (fun p => flFinite p.1 && flFinite p.2)
  (((both.map (fun p => sqScaled (flAddX p.1 (flNeg p.2)))).sum), ((both.map (fun p => sqScaled p.2)).sum),
    ps.any (fun p => flFinite p.1 != flFinite p.2))

/-- Does ε exceed THRESH × 2^-16 (R134)? -/
def epsExceeds (n : Nat × Nat × Bool) (f thresh : Nat) : Bool :=
  n.2.2 || decide (thresh * thresh * max n.2.1 (2 ^ 1200 / 2 ^ (2 * f)) < n.1 * 2 ^ 32)

/-- ε as a U16 in units of 2^-16, capped (R136). The rounding of an inexact value is not stated: `up` is a free bit. -/
def epsU16 (n : Nat × Nat × Bool) (f : Nat) (up : Bool) : Nat :=
  if n.2.2 then 0xFFFF
  else
    let den := max n.2.1 (2 ^ 1200 / 2 ^ (2 * f))
    let r := Nat.sqrt (n.1 * 2 ^ 32 / den)
    min 0xFFFF (if r * r * den = n.1 * 2 ^ 32 then r else if up then r + 1 else r)

end Sys2Proof.Machine
end

