-- ==== Sys2Proof/Machine/State.lean ====
section
/-! DEFINITION. The state of the block as plain data: everything the spec gives the device, with `State.reset`, the faults and
the refusals. Table keys: an entry of the dictionary is keyed index × 256 + subindex; a queue is keyed context × 16 + queue. -/

namespace Sys2Proof.Machine

/-- Completion status codes (R18). -/
inductive Status where
  | ok | short | clamped | promoted | range | faultUnresolved | withdrawn | reservedLength | poison | torn | orphaned
  | quota | throttled | scopeMismatch | retry
  deriving DecidableEq, Repr

/-- Reasons of Vervo responses (R68). -/
inductive Reason where
  | none | noEntry | access | draftOnly | type | enumValue | encoding | tooLong | draftFull | noDraft | crossField
  | inkAborted | busy | frame | gap | noRoom
  deriving DecidableEq, Repr

/-! ## The dictionary (R48-R93) -/

/-- Types of entries (R51). -/
inductive OdTy where
  | u8 | u16 | u32 | u64 | i32 | bool | enum | str | blob
  deriving DecidableEq, Repr

/-- Access classes (R52). -/
inductive OdAcc where
  | ro | rw | wo | rwd
  deriving DecidableEq, Repr

/-- The values an entry takes (R56, R645, R646, R648). -/
inductive OdCheck where
  /-- Intervals, rising. -/
  | ivs (l : List (Nat × Nat))
  /-- Every value of the bits of the mask; the other bits are reserved (R645). -/
  | mask (m : Nat)
  /-- The codes of an ENUM. -/
  | codes (l : List Nat)
  /-- Any length up to a maximum. -/
  | upTo (n : Nat)
  /-- One size; length zero too where the flag says so. -/
  | exact (n : Nat) (zero : Bool)
  /-- Whole records of a size, up to a maximum. -/
  | records (r n : Nat)
  deriving DecidableEq, Repr

/-- One row of the entry map: indexes `i0` to `i1`, subindexes `s0` to `s1`, type, access, persistence, whether the table is
keyed by a context (R49), default number and default bytes, and the values it takes. -/
structure OdRow where
  i0      : Nat
  i1      : Nat
  s0      : Nat
  s1      : Nat
  ty      : OdTy
  acc     : OdAcc
  persist : Bool
  perCtx  : Bool
  dflt    : Nat
  dbytes  : Bytes
  check   : OdCheck
  deriving DecidableEq, Repr

/-- A value of an entry. -/
inductive OdVal where
  | num (n : Nat)
  | bytes (b : Bytes)
  deriving DecidableEq, Repr

/-- An open draft (R80-R83): its staged writes stand in the order in which each entry was first staged (R651). -/
structure Draft where
  handle    : Nat
  openCount : Nat
  src       : Src
  staged    : List (Nat × OdVal)
  lastOp    : Nat
  deriving DecidableEq, Repr

/-- A dictionary operation as it waits for the one before it (R78), and the ink in progress, with the instant of its receipt. -/
structure DictOp where
  src   : Src
  op    : Nat
  req   : VReq
  since : Nat
  deriving DecidableEq, Repr

/-- A NOTIFY that no station has acknowledged (R74). -/
structure Notify where
  seq     : Nat
  body    : Bytes
  repeats : Nat
  deriving DecidableEq, Repr

/-- The dictionary window of one Urzen port (R75-R77). -/
structure DictWindow where
  req     : Bytes
  resp    : Bytes
  reqLen  : Nat
  busy    : Bool
  done    : Bool
  respLen : Nat
  deriving DecidableEq, Repr

/-- State of the dictionary's front ends. -/
structure Dict where
  drafts      : List Draft
  openCounter : Nat
  /-- The ink being carried out, between INK and INK_COMMIT or INK_ABORTED; a composition's until its response (R611). -/
  ink         : Option DictOp
  /-- The ink has been committed, and its compositions go on. -/
  inkDone     : Bool
  waiting     : List DictOp
  /-- Responses to the last 64 requests, newest first: source, SEQ, response (R71). -/
  kept        : List (Ip6 × Nat × Bytes)
  /-- Instants of the requests accepted in the last second, by source (R73). -/
  accepted    : List (Ip6 × Nat)
  notifies    : List Notify
  notifySeq   : Nat
  windows     : Tbl DictWindow
  /-- Persistent entries applied and not yet saved (R54). -/
  unsaved     : List Nat
  /-- What each generation that requests still carry gave way to (R87, R89), oldest first: the generation, and the numbers it had of
  the entries that the next one changed, none where an entry stood at its default. -/
  before      : List (Nat × Tbl (Option Nat))
  deriving DecidableEq, Repr

/-! ## Memory behind the homes (R194-R236) -/

/-- A frame of the T1 cache region (R198): its place among the 4 KiB frames of T1, the T2 frame it copies (SA[51:12]), its valid lines,
its dirty lines each with the count of its last write (R226), and the count of the frame's last use. -/
structure CacheFrame where
  place : Nat
  frame : Nat
  valid : List Nat
  dirty : Tbl Nat
  used  : Nat
  deriving DecidableEq, Repr

/-- Frames `start ..< start + count` that belong to a context; context 0 holds the device's own frames (R243). -/
structure Run where
  start : Nat
  count : Nat
  ctx   : Nat
  deriving DecidableEq, Repr

/-- Where a byte lies: at a store address, at a host address on an Urzen port, at a fabric address, or nowhere. -/
inductive Target where
  | dev (sa : Nat)
  | host (port addr : Nat)
  | peer (fa : Nat)
  | none
  deriving DecidableEq, Repr

/-- A page under move (R221): the job that moves it (none for a demotion), its context and page, the target tier, both places,
the stream that copies it once its copy has begun, and whether the copy has ended. -/
structure Move where
  job    : Option (Nat × Nat)
  ctx    : Nat
  vpn    : Nat
  tier   : Nat
  src    : Target
  dst    : Target
  stream : Option Nat
  copied : Bool
  deriving DecidableEq, Repr

/-- What one half of the journal area holds (R230, R232-R234). -/
inductive JournalKind where
  | none | units | seal | cancel | clean
  deriving DecidableEq, Repr

/-- One frame record of a journal (R230) with the lines it names, in line order, and its context's count. -/
structure JournalFrame where
  frame : Nat
  ctx   : Nat
  dirty : Nat
  lines : List (Nat × Bytes)
  deriving DecidableEq, Repr

/-- One half of the journal area (R230). -/
structure JournalHalf where
  kind   : JournalKind
  seq    : Nat
  w      : Nat
  frames : List JournalFrame
  deriving DecidableEq, Repr

/-- Where the PFAIL flush stands (R228-R232). -/
inductive PfailStep where
  | idle
  /-- Asserted, not yet for 2 µs. -/
  | asserted
  /-- Journal units are being written; `start` is the instant of step 1. -/
  | journal (start : Nat)
  /-- Seal units are being written. -/
  | seal (start : Nat)
  | persisted
  /-- PFAIL was deasserted after PERSISTED; the cancel follows after 100 ms. -/
  | releasing
  deriving DecidableEq, Repr

/-- Memory behind the homes. -/
structure MemSt where
  /-- The value of each store address at its home. -/
  mem      : Memory
  /-- What the cartridges hold of T2. -/
  media    : Memory
  /-- Poisoned lines (R312). -/
  poison   : List Nat
  /-- The T1 cache region. -/
  cache    : List CacheFrame
  useCtr   : Nat
  /-- Old frames of moved pages that forward to new ones until their epoch has drained (R221). -/
  forward  : Tbl Nat
  /-- Old frames of pages that moved to T3, with the port and the host page that they forward to. -/
  away     : Tbl (Nat × Nat)
  /-- Frames of the T1 cache region still to be drained before they are placed frames (R202). -/
  draining : Nat
  deriving DecidableEq, Repr

/-- Tiers, quotas and persistence. -/
structure TierSt where
  /-- Owners of T1 placed frames, T2 frames and T3 host pages; starts rise. -/
  t1        : List Run
  t2        : List Run
  /-- T3: keyed by host page number under the extent's subindex (R483). -/
  t3        : List (Nat × Run)
  /-- Frames of each context's range table (R243). -/
  tables    : Tbl (List Run)
  /-- Last access of each 64 KiB of a context's pages (R214): key context × 2^41 + CVA[56:16]. -/
  recency   : Tbl Nat
  moves     : List Move
  /-- Demotions that have paused (R216, R242). -/
  paused    : List (Nat × Bool)
  /-- Pools reported short: 1 T1 placed, 2 T2, 3 T3 (R211). -/
  short     : List Nat
  /-- The excess in MiB that OVERQUOTA_PINNED last named (R217): key context × 4 + tier. -/
  pinnedOver : Tbl Nat
  journalA  : JournalHalf
  journalB  : JournalHalf
  flushSeq  : Nat
  pfail     : PfailStep
  /-- Cartridge slots whose journal write has not been acknowledged. -/
  jwrites   : List Nat
  /-- Admission of work (R229, R233, R235, R567). -/
  admitting : Bool
  deriving DecidableEq, Repr

/-! ## Translation and Feeds (R237-R283) -/

/-- Types of range entries (R239). -/
inductive RangeTy where
  | absent | device | host | peer
  deriving DecidableEq, Repr

/-- A range entry (R238); `base` is the target address's bits [63:12]. -/
structure RangeEntry where
  vpn   : Nat
  pages : Nat
  ty    : RangeTy
  rd    : Bool
  wr    : Bool
  at_   : Bool
  pin   : Bool
  t3    : Bool
  base  : Nat
  epoch : Nat
  deriving DecidableEq, Repr

/-- What withdrew a range (R244): `window` is a host window that was narrowed, cleared or retargeted (R475), which leaves the
translations of the context as they are. -/
inductive WdKind where
  | unmap | free | protect | move | window
  deriving DecidableEq, Repr

/-- A withdrawal in progress (R280). -/
structure Withdrawal where
  kind     : WdKind
  vpn      : Nat
  pages    : Nat
  oldEpoch : Nat
  /-- The queue key and index of the descriptor, none for a demotion. -/
  job      : Option (Nat × Nat)
  /-- Nib and Quill descriptors that were dispatched before (R252). -/
  waitFor  : List (Nat × Nat)
  /-- Frames that return to their pools at step 5: tier, start, count. -/
  frames   : List (Nat × Nat × Nat)
  /-- Urzen ports whose XLAT_INV has not been acknowledged (R475). -/
  xlatInv  : List Nat
  /-- The deadline has passed. -/
  overdue  : Bool
  deriving DecidableEq, Repr

/-- A chunk in flight (R245, R261): offset within the descriptor, length, places, epoch; its data where already read (none
while reads are outstanding), tags of outstanding requests to a host or a peer, and whether it has been aborted. -/
structure Chunk where
  offset : Nat
  len    : Nat
  src    : Target
  dst    : Target
  epoch  : Nat
  data   : Option Bytes
  reqs   : List Nat
  /-- The writes of the chunk have been issued to a host or a peer, and the bytes of them that have been acknowledged. -/
  issued : Bool
  acked  : Nat
  /-- Pointers of it that were not converted (R269). -/
  noconv : Nat
  deriving DecidableEq, Repr

/-- A fault that a stream holds (R273). -/
structure FaultRec where
  seq    : Nat
  group  : Nat
  cause  : Nat
  write  : Bool
  cva    : Nat
  epoch  : Nat
  parked : Bool
  since  : Nat
  deriving DecidableEq, Repr

/-- What a stream works for: a descriptor (queue key, index), a fill of a layer window (window key, fill), or a page move
(context, page). -/
inductive StreamOwner where
  | desc (qkey idx : Nat)
  | fill (wkey g : Nat)
  | move (ctx vpn : Nat)
  deriving DecidableEq, Repr

/-- A Feed stream (R258-R264). -/
structure Stream where
  owner   : StreamOwner
  /-- The dictionary generation it was issued under (R87). -/
  gen     : Nat
  ctx     : Nat
  queue   : Nat
  tag     : Nat
  src     : Nat
  dst     : Nat
  /-- The stream writes a pattern and reads nothing (FILL). -/
  fillPat : Option Nat
  conv    : Nat
  stride  : Nat
  coff    : Nat
  nowait  : Bool
  /-- Length of the whole descriptor. -/
  total   : Nat
  /-- The stream's part: first offset, end offset, next offset to translate. -/
  first   : Nat
  last    : Nat
  next    : Nat
  /-- Offsets below `next` whose chunks are to be translated again, rising (R269, R277, R281). -/
  again   : List Nat
  chunks  : List Chunk
  fault   : Option FaultRec
  /-- How the stream ended early (R263). -/
  status  : Status
  stop    : Option Nat
  bytes   : Nat
  noconv  : Nat
  faults  : Nat
  done    : Bool
  /-- The Feed that carries it: the one of its ID, until it moves (R578, R579). -/
  feed    : Nat
  deriving DecidableEq, Repr

/-- A fault group (R271-R278): next SEQ, consumed index, newest posted SEQ; SEQ begins at 1 (log entry 12). A fault that is parked
stays to be posted whatever becomes of its stream: its SEQ, its stream and its record (R275, R276). -/
structure FaultGroup where
  nextSeq  : Nat
  consumed : Nat
  posted   : Nat
  parked   : List (Nat × Nat × Nat)
  deriving DecidableEq, Repr

/-- Feeds. -/
structure FeedSt where
  streams : Tbl Stream
  /-- The Feed whose turn it is to take a stream (R260). -/
  turn    : Nat
  groups  : Tbl FaultGroup
  deriving DecidableEq, Repr

/-! ## Coherence (R284-R313) -/

/-- States of a line in a caching agent: stable and transient (R292, R295). -/
inductive CState where
  | m | o | e | s | is | im | sm | om | mi | oi | ei | si
  deriving DecidableEq, Repr

/-- A line in a cluster cache: its state, whether it has data, the data, whether the data is poisoned and which bytes the
agent has written since it obtained a poisoned line (R312), whether its writeback has been sent (R299), the context of its
request and a store to apply when it is installed. -/
structure CLine where
  st      : CState
  hasData : Bool
  data    : Bytes
  poison  : Bool
  written : Nat
  sent    : Bool
  ctx     : Nat
  pend    : Option (Nat × Bytes × Nat)
  deriving DecidableEq, Repr

/-- Home states of a line (R293). -/
inductive HomeSt where
  | i | s | x | o
  deriving DecidableEq, Repr

/-- An entry of a tag shadow (R289). -/
structure ShadowEnt where
  st      : HomeSt
  owner   : Option Nat
  sharers : List Nat
  used    : Nat
  deriving DecidableEq, Repr

/-- Kinds of request at a home (R291). -/
inductive ReqKind where
  | rdS | rdM | upg | rdNc | wrNc | atom | roll
  /-- A back-invalidation or a recall that the home itself began (R290, R221, R229). -/
  | recall
  deriving DecidableEq, Repr

/-- Where the answer to a request at a home goes: to an agent on the package, to an adapter (port, TAG, host address), or to a
peer (fabric port, header of its request). -/
inductive Reply where
  | agent
  | urzen (port tag addr : Nat)
  | fabric (port hdr : Nat)
  deriving DecidableEq, Repr

/-- An open transaction (R297): what was asked, by whom, the agents whose INV_ACK or RECALL_ACK is awaited, the owner that has
been asked to supply the line, the bytes of a write or the operation of an atomic, and how far the answer has come. -/
structure Txn where
  kind    : ReqKind
  agent   : Nat
  /-- The context it carries (R41), and the dictionary generation it was admitted under (R87). -/
  ctx     : Nat
  gen     : Nat
  sa      : Nat
  len     : Nat
  data    : Bytes
  mask    : Nat
  aop     : Nat
  wide    : Bool
  fetch   : Bool
  op1     : Nat
  op2     : Nat
  waitFor : List Nat
  owner   : Option Nat
  /-- The line or its ownership has been sent to the requester. -/
  supplied : Bool
  /-- The requester has installed its state: COMPACK has arrived. -/
  ended   : Bool
  reply   : Reply
  /-- The range epoch under which an optical die translated it for a host or a peer (R245). -/
  epoch   : Option Nat
  deriving DecidableEq, Repr

/-- What waits for a range walk (R248): a stream, or a request that an optical die is to translate, with its ticket. -/
inductive WalkFor where
  | stream (id : Nat)
  | request (t : Txn) (ticket : Option Nat)
  deriving DecidableEq, Repr

/-- A miss in the range cache of a die, whose walk has not completed (R248): context and page. -/
structure Walk where
  die    : Nat
  ctx    : Nat
  vpn    : Nat
  waiter : WalkFor
  deriving DecidableEq, Repr

/-- Translation. -/
structure XlatSt where
  tables      : Tbl (List RangeEntry)
  epochs      : Tbl Nat
  withdrawals : Tbl Withdrawal
  /-- Range caches (R247): die, context, entry; at most 4,096 a die, newest first; a withdrawal drops the entries of its context. -/
  caches      : List (Nat × Nat × RangeEntry)
  /-- Withdrawals by host windows that wait for the previous withdrawal of their context (R246): context, first page, pages. -/
  owed        : List (Nat × Nat × Nat)
  /-- Misses in order of arrival; of each die the first eight are being walked (R248). -/
  walks       : List Walk
  deriving DecidableEq, Repr

/-- Kinds of message in flight on the package (R291). -/
inductive NetKind where
  | rdS | rdM | upg | rdNc | wrNc | wb | evict
  | fwdS | fwdM | fwdNc | inv | recall
  | data | copy | grant | fwdAck | invAck | recallAck | compack | ncDone | wbAck | retry | hot
  deriving DecidableEq, Repr

/-- A message in flight between a home and a caching agent of the package: its kind, the agent (receiver of SNP and RSP
messages of the home, sender of the others), the line, and what it carries. -/
structure NetMsg where
  kind   : NetKind
  agent  : Nat
  line   : Nat
  ctx    : Nat
  /-- The state granted, for DATA. -/
  grant  : CState
  /-- DIRTY, CURRENT or KEEP, by kind. -/
  flag   : Bool
  data   : Option Bytes
  poison : Bool
  allWritten : Bool
  /-- The ticket of a RETRY and of the request sent again; the interval of HOT; the status code of NC_DONE. -/
  ticket : Option Nat
  /-- The other agent: the requester that a forward names; for DATA and the copy of an owner, that owner's ID and one more. -/
  peer   : Nat
  deriving DecidableEq, Repr

/-- A ticket for one line held by an agent (R300-R302); the resent request waits in its reserved place. -/
structure Ticket where
  n       : Nat
  agent   : Nat
  line    : Nat
  since   : Nat
  waiting : Option Txn
  deriving DecidableEq, Repr

/-- A pair of context and line that an agent paces (R311). -/
structure Pacing where
  agent    : Nat
  ctx      : Nat
  line     : Nat
  interval : Nat
  last     : Nat
  deriving DecidableEq, Repr

/-- Coherence. -/
structure CohSt where
  hashKey  : Nat
  /-- Lines of cluster caches: key agent × 2^45 + line. -/
  caches   : Tbl CLine
  shadow   : Tbl ShadowEnt
  busy     : Tbl Txn
  tickets  : List Ticket
  nextTick : Nat
  net      : List NetMsg
  /-- Lines in the atomic line buffers with the instant of their last atomic (R308). -/
  atomBuf  : List (Nat × Nat)
  /-- Requests of the current window: line, context, agent, count (R310). -/
  counts   : List (Nat × Nat × Nat × Nat)
  hotLines : List Nat
  /-- Paced pairs at the home: context, line, agents (R311). -/
  paced    : List (Nat × Nat × List Nat)
  pacing   : List Pacing
  failed   : List Nat
  /-- Each adapter cache's size in lines, 0 where none is reported (R288). -/
  adapters : Tbl Nat
  deriving DecidableEq, Repr

/-! ## Holding points, mordants and queues (R147-R157, R314-R350) -/

/-- A unit that holds stores (R319). -/
inductive HoldAt where
  | engine (e : Eng)
  | cluster (agent : Nat)
  | die (d : Nat)
  deriving DecidableEq, Repr

/-- A line of stores in a holding point: which bytes, and the instant of the oldest store. -/
structure HeldLine where
  place : HoldAt
  line  : Nat
  mask  : Nat
  data  : Bytes
  ctx   : Nat
  since : Nat
  deriving DecidableEq, Repr

/-- An operand copy of an engine (R319). -/
structure OperandCopy where
  eng  : Eng
  line : Nat
  data : Bytes
  deriving DecidableEq, Repr

/-- The last access that an engine completed: its address, how it completed, and the bytes that a load returned. -/
structure Loaded where
  eng    : Eng
  sa     : Nat
  status : Status
  bytes  : Bytes
  deriving DecidableEq, Repr

/-- The record of a mordant (R331); CTX is OD 0x5010 and 0x5020 (R338). -/
structure Mordant where
  value  : Nat
  lscope : Nat
  lloc   : Nat
  subs   : Nat
  deriving DecidableEq, Repr

/-- Where the wait of the next descriptor stands (R152, R333). -/
inductive WaitSt where
  | unasked | waiting (mordant : Nat) | satisfied
  deriving DecidableEq, Repr

/-- A queue (R147-R151): its record in force and its indexes; the descriptors above the head that have completed; the tails
of its doorbells with the generation stamped on them (R87, R137); the serving processor (R537)
and the anchor's location code per level 1 to 3 (R323). -/
structure Queue where
  kind    : Nat
  enabled : Bool
  log2    : Nat
  ring    : Nat
  compl   : Nat
  head    : Nat
  tail    : Nat
  disp    : Nat
  finished : List Nat
  wait    : WaitSt
  stamps  : List (Nat × Nat)
  scribe  : Nat
  anchor1 : Option Nat
  anchor2 : Option Nat
  anchor3 : Option Nat
  deriving DecidableEq, Repr

/-- One flag of a context (R342-R345): event count, acknowledged count, instant of the last counting event. -/
structure FlagSt where
  count : Nat
  ack   : Nat
  last  : Option Nat
  deriving DecidableEq, Repr

/-- The fields of a MATMUL (R158, R159) and the progress of its work. -/
structure MatmulSt where
  wfmt : Nat
  afmt : Nat
  ofmt : Nat
  refFmt : Nat
  tensor : Bool
  mode : Nat
  roll : Bool
  epi : Nat
  thresh : Nat
  layer : Nat
  m : Nat
  strips : Nat
  kblocks : Nat
  /-- CVA of the matrix image, and the window binding where WSRC is 1 (window key, fill). -/
  wref : Nat
  bound : Option (Nat × Nat)
  aaddr : Nat
  oaddr : Nat
  refAddr : Nat
  amax : Nat
  eaddr : Nat
  alpha : Nat
  beta : Nat
  apitch : Nat
  opitch : Nat
  epitch : Nat
  /-- The configured values stamped on the descriptor (R137). -/
  cfg : List Nat
  /-- AMAX_CUR as read when the first output tile was converted (R129). -/
  amaxCur : Option Nat
  /-- Tasks ended of the primary run: partial sums of each output tile and slice, keyed tile × 2^20 + slice. -/
  parts : Tbl (List Fl × List Int)
  /-- Converted output tiles, each with the Nib cluster that converted it. -/
  tilesDone : Tbl Nat
  /-- Positions of sampled tiles in issue order (R131), and those compared. -/
  sampled : List Nat
  compared : List Nat
  failed : Nat
  eps : Nat
  /-- Accumulated values of the sampled tiles, before the epilogue. -/
  kept : Tbl (List Fl)
  /-- Strips whose reference tiles have been read (R172). -/
  refRead : List Nat
  sat : Nat
  esc : Nat
  nonfin : Nat
  /-- Escapes of the output tiles in progress (R146). -/
  tileEsc : Tbl Nat
  /-- The largest finite |y| of each Nib cluster's tiles (R126). -/
  amaxSeen : Tbl Fl
  /-- 0 not promoted, 1 check, 2 saturation, 3 both (R169). -/
  promo : Nat
  promoting : Bool
  deriving DecidableEq, Repr

/-- A task on the boards (R170-R173): a strip range, a row band, a slice of the reduction, and the cluster it runs on. -/
structure Task where
  qkey : Nat
  idx : Nat
  ctx : Nat
  strip : Nat
  strips : Nat
  group : Nat
  groups : Nat
  slice : Nat
  cluster : Option Nat
  deriving DecidableEq, Repr

/-- An ATTN (R162): its descriptor, the slots it names, and whether it has run; it waits for an earlier one of a same slot (R167). -/
structure AttnSt where
  /-- The 512 bits of the descriptor. -/
  desc : Nat
  slots : List Nat
  ran : Bool
  deriving DecidableEq, Repr

/-- A query of a SEARCH (R358) and how it ended. -/
structure QueryEnd where
  status : Status
  widens : Nat
  visits : Nat
  stale  : Nat
  malformed : Nat
  deriving DecidableEq, Repr

/-- The graph record (R351) and the queries of a SEARCH: next to start, to be restarted, ended. -/
structure SearchSt where
  nq : Nat
  graphCva : Nat
  /-- CVA of the query table. -/
  qtab : Nat
  nodes : Nat
  codew : Nat
  maxdeg : Nat
  heads : Nat
  nbrs : Nat
  entries : Nat
  nentry : Nat
  /-- The query records (R358), read when the descriptor was checked. -/
  queries : List Nat
  /-- Where its queries may run (R360), and the limits of OD 0x2800 stamped on it (R87). -/
  place : Nat
  wlim : Nat
  visitLimit : Nat
  next : Nat
  /-- Queries to be restarted from their first walk (R380). -/
  again : List Nat
  ended : List QueryEnd
  /-- QUILL_MALFORMED has been logged (R369). -/
  logged : Bool
  deriving DecidableEq, Repr

/-- Where the bytes of one write of a commit or a checkpoint come from: a page of the context, bytes at hand, a page at a peer whose
read returned POISON, or none (the mark at which a full mirror copy begins, R591). -/
inductive StepSrc where
  | cva (a : Nat)
  | bytes (b : Bytes)
  | lost (node : Nat)
  | full
  deriving DecidableEq, Repr

/-- One write of a commit or a checkpoint: its CVA, within one page, and its source. -/
structure StepWrite where
  dst : Nat
  src : StepSrc
  deriving DecidableEq, Repr

/-- The writes still to be made, in order, and the requests outstanding for the first of them: each write is durable before the next
begins (R590). -/
structure CopyWork where
  todo : List StepWrite
  tags : List Nat
  deriving DecidableEq, Repr

/-- A STEP_COMMIT whose checks have passed (R590-R596): commit set, step, its writes, the steps of the checkpoint header, the
checkpoint region and the pages that a checkpoint copies, K, and its report without CKPT and CKSTEP with the report's CVA. -/
structure StepWork where
  set       : Nat
  step      : Nat
  copies    : CopyWork
  c0        : Nat
  c1        : Nat
  ckpt      : Nat
  pages     : List StepSrc
  interval  : Nat
  report    : Nat
  reportCva : Nat
  deriving DecidableEq, Repr

/-- What a dispatched descriptor does until it ends. -/
inductive JobBody where
  | plain
  | matmul (m : MatmulSt)
  | attn (a : AttnSt)
  /-- A COPY or FILL: number of streams. -/
  | feed (streams : Nat)
  | search (q : SearchSt)
  /-- An UNMAP, FREE or PROTECT that waits for its withdrawal: bytes of the range. -/
  | withdraw (bytes : Nat)
  /-- A PLACE whose pages are being copied: first page and pages of the range. -/
  | place (vpn pages : Nat)
  /-- A WINDOW_CLOSE: window key. -/
  | close (wkey : Nat)
  /-- A descriptor that waits for the answer to a request: its tag. -/
  | peer (tag : Nat)
  /-- An OWN_ACQUIRE that waits for its grant: region. -/
  | own (region : Nat)
  /-- An OWN_RELEASE, or a FLUSH, that waits for the responses to earlier requests; the release then sends OWN_REL. -/
  | drain (release : Bool) (region target : Nat) (tags : List Nat) (sent : Bool)
  /-- A STEP_COMMIT whose copies are being written. -/
  | step (w : StepWork)
  deriving DecidableEq, Repr

/-- A dispatched descriptor (R149-R157). `result` is the completion record without PHASE, once its work has ended. -/
structure Job where
  ctx    : Nat
  queue  : Nat
  idx    : Nat
  kind   : Nat
  op     : Nat
  tag    : Nat
  /-- The dictionary generation it was admitted under (R87). -/
  gen    : Nat
  scope  : Nat
  sigEn  : Bool
  sigId  : Nat
  body   : JobBody
  result : Option Nat
  deriving DecidableEq, Repr

/-- A fill of a layer window (R180-R187). -/
structure Fill where
  g        : Nat
  started  : Bool
  streams  : Nat
  done     : Bool
  status   : Status
  /-- Descriptors bound to the fill, as queue key and index, and how many of them have completed. -/
  bound    : List (Nat × Nat)
  completed : Nat
  released : Bool
  bytes    : Nat
  deriving DecidableEq, Repr

/-- A layer window (R177-R190). -/
structure Window where
  ctx      : Nat
  /-- Queue and TAG of the WINDOW_OPEN. -/
  queue    : Nat
  tag      : Nat
  nlayers  : Nat
  filledId : Nat
  releasedId : Nat
  passes   : Nat
  slots    : Nat
  depth    : Nat
  slotSize : Nat
  /-- The generation of the WINDOW_OPEN (R87, R190). -/
  gen      : Nat
  inFlight : Nat
  /-- SRC, LEN and CONSUMERS of each layer (R178). -/
  layers   : List (Nat × Nat × Nat)
  /-- Fills that have been made known, in order of g. -/
  fills    : List Fill
  nextFill : Nat
  filled   : Nat
  releasedCnt : Nat
  closed   : Bool
  closer   : Option (Nat × Nat)
  /-- A bound MATMUL at the head of a queue until its dispatch: queue key, fill, since when, reported (R186). -/
  waiters  : List (Nat × Nat × Nat × Bool)
  deriving DecidableEq, Repr

/-- A hardware context of a Quill in use (R377). -/
structure QuillCtx where
  qkey : Nat
  idx  : Nat
  query : Nat
  k : Nat
  l : Nat
  widen : Bool
  efirst : Nat
  ecount : Nat
  maxVisit : Nat
  allOf : Nat
  anyOf : Nat
  result : Nat
  /-- The query code, and whether its read returned POISON. -/
  code : Nat
  /-- Candidate queue: distance, node, expanded; result set: distance, node. -/
  cand : List (Nat × Nat × Bool)
  res  : List (Nat × Nat)
  /-- Positions set in the visited filter (R365). -/
  filter : List Nat
  /-- Entry points have been read. -/
  started : Bool
  /-- Nodes still to be evaluated, in order, and the node whose list is being fetched. -/
  todo : List Nat
  listOf : Option Nat
  /-- The walk has ended: by exhausting its candidates, at its visit limit or at POISON. -/
  ended : Bool
  limit : Bool
  poison : Bool
  /-- Evaluations of this walk; the sums over all walks follow. -/
  walkVisits : Nat
  visits : Nat
  expansions : Nat
  stale : Nat
  filtered : Nat
  malformed : Nat
  widens : Nat
  deriving DecidableEq, Repr

/-- Queues and what they run. -/
structure QueueSt where
  queues   : Tbl Queue
  jobs     : List Job
  mordants : Tbl Mordant
  /-- Flags: key context × 16 + flag. -/
  flags    : Tbl FlagSt
  /-- Instants of the SCOPE_MISMATCH events of the last second (R341). -/
  mismatches : List Nat
  stores   : List HeldLine
  copies   : List OperandCopy
  loaded   : List Loaded
  tasks    : Tbl Task
  nextTask : Nat
  /-- Clusters handed out to each context since the contexts with ready tasks last changed (R173). -/
  handed   : Tbl Nat
  /-- Hardware contexts of Quills handed out, likewise (R379). -/
  handedQ  : Tbl Nat
  /-- Layer windows: key context × 16 + WIN. -/
  windows  : Tbl Window
  /-- Hardware contexts of Quills: key Quill × 64 + context. -/
  quills   : Tbl QuillCtx
  deriving DecidableEq, Repr

/-! ## Cartridges, links, fabric and Urzen (R393-R486) -/

/-- Operations that the device issues to a cartridge (R397). -/
inductive CartOp where
  | reads | readu | writeu | jwrite | mread | mwrite | identify | challenge | wear
  deriving DecidableEq, Repr

/-- What a slot is to do when its evacuation ends (R412, R413, R421). -/
inductive SlotGoal where
  | none | eject | retire | life
  deriving DecidableEq, Repr

/-- A cartridge slot (R411): its state code and its command result stand in the dictionary. -/
structure Slot where
  present   : Bool
  certHash  : Nat
  modulus   : Nat
  rated     : Nat
  serial    : Bytes
  /-- Nonce of the challenge outstanding (R407). -/
  nonce     : Option Bytes
  /-- The position this slot holds or is being filled for: group, position. -/
  pos       : Option (Nat × Nat)
  /-- The slot it copies from, where it is not reconstructed. -/
  source    : Option Nat
  goal      : SlotGoal
  /-- The membership record on the cartridge as the device last wrote or read it (R409), and the record whose write has not been
  acknowledged. -/
  record    : Option Membership
  writing   : Option (Option Membership)
  locator   : Bool
  powered   : Bool
  /-- CART_WEAR_LOW has been logged. -/
  wearLow   : Bool
  /-- The cartridge was put in after stage 2: its check is one at insertion (R422). -/
  inserted  : Bool
  deriving DecidableEq, Repr

/-- A unit write of a row in progress (R403, R404): the T2 frame of its data unit, the lines that are being written with the counts
of their last writes, the unit's content, and the slots whose acknowledgement is awaited. -/
structure RowWrite where
  frame   : Nat
  lines   : Tbl Nat
  data    : Bytes
  waitFor : List Nat
  deriving DecidableEq, Repr

/-- Cartridges: slots, the slot recorded at each position (key group × 10 + position), rows under write (key group × 2^30 + row),
the write sequence, and the rows scrubbed in this pass. -/
structure CartSt where
  slots    : Tbl Slot
  serving  : Tbl Nat
  rows     : Tbl RowWrite
  writeSeq : Nat
  scrubRow : Nat
  scrubTwice : Bool
  deriving DecidableEq, Repr

/-- A link (R426-R432, R464-R466): next sequence to send, next expected, the sent flits kept for replay, the lanes that are
good, and the credits held of each class. -/
structure LinkSt where
  txSeq   : Nat
  rxSeq   : Nat
  /-- The last flits sent, newest first (R427): SEQ, FTYPE with the credits returned, payload. -/
  replay  : List (Nat × Nat × Bytes)
  lanes   : Nat
  /-- What the neighbour's last IDENT since training gave: group of a switch, cache size of an adapter in KiB, and whether its buffers
  suffice (R434, R467, R468); none while it has given none. -/
  ident   : Option (Nat × Nat × Bool)
  credits : List Nat
  /-- The slots of the packet being received (R464). -/
  inbox   : Bytes
  /-- Packets that wait for credits of their class (R466), or for requests for their line on another port (R447): class, header, data. -/
  waiting : List (Nat × Nat × Bytes)
  deriving DecidableEq, Repr

/-- Who waits for the answer to a request to a peer or to a host: nobody, for a write that a home forwards to a page that has moved to
T3 (R221); a chunk of a stream, a descriptor, a write of a STEP_COMMIT, or a write of the checkpoint of a context's commit set. -/
inductive Asker where
  | home
  | chunk (stream offset part : Nat)
  | job (qkey idx : Nat)
  | commit (qkey idx : Nat)
  | ckpt (ctx set : Nat)
  deriving DecidableEq, Repr

/-- A request sent to a peer and not yet answered (R442-R448), or a message (R452). -/
structure PeerReq where
  asker : Asker
  /-- The dictionary generation of the work that asks (R87). -/
  gen   : Nat
  ctx   : Nat
  ptype : Nat
  port  : Nat
  node  : Nat
  wid   : Nat
  len   : Nat
  /-- The import window that gave its rights. -/
  win   : Nat
  /-- The line of the node that it names (R446). -/
  line  : Nat
  deriving DecidableEq, Repr

/-- A message being received into a mailbox slot (R453). -/
structure MsgIn where
  snode : Nat
  sctx  : Nat
  mseq  : Nat
  slot  : Nat
  got   : Nat
  deriving DecidableEq, Repr

/-- A mailbox (R451): ring, size, mordant, next slot and messages being received. -/
structure Mailbox where
  ring    : Nat
  log2    : Nat
  mord    : Nat
  next    : Nat
  partials : List MsgIn
  deriving DecidableEq, Repr

/-- A change of an import window whose acknowledgement waits for a drain (R441). -/
structure WinChange where
  wid   : Nat
  port  : Nat
  ptype : Nat
  tag   : Nat
  snode : Nat
  oldEpoch : Nat
  clear : Bool
  deriving DecidableEq, Repr

/-- A context-window write of a host function that waits for earlier host writes of that function (R482): offset, value, and the TAGs of
those that have not been ordered. -/
structure HeldCw where
  port  : Nat
  ctx   : Nat
  off   : Nat
  value : Nat
  waits : List Nat
  deriving DecidableEq, Repr

/-- The fabric and Urzen sides. -/
structure FabricSt where
  links     : Tbl LinkSt
  /-- Spare lanes in use of each optical die. -/
  sparesUsed : Tbl Nat
  /-- Ports that were AGREED when the device became ready (R446). -/
  readyPorts : List Nat
  peers     : Tbl PeerReq
  mailboxes : Tbl Mailbox
  /-- Next MSEQ by sending context and destination: context, node, context, mailbox (R451, R454). -/
  mseq      : List (Nat × Nat × Nat × Nat × Nat)
  /-- Regions owned: context, region, epoch (R455). -/
  owned     : List (Nat × Nat × Nat)
  /-- Ownership requests that have been cancelled: context and region (R455). -/
  cancels   : List (Nat × Nat)
  changes   : List WinChange
  /-- T3 requests outstanding: key port × 65,536 + TAG. -/
  t3        : Tbl Asker
  /-- The adapter an extent is bound to (R483): key subindex. -/
  bindings  : Tbl Nat
  /-- Snoops sent to an adapter and not answered: port, line. -/
  snoops    : List (Nat × Nat)
  /-- Host writes that have not been ordered at their homes (R482): port, context, and TAG, or 65,536 and more for one that was given a
  ticket and has not been resent. -/
  hostWrites : List (Nat × Nat × Nat)
  heldCw    : List HeldCw
  deriving DecidableEq, Repr

/-- What leaves the device. -/
inductive Msg where
  /-- A UDP datagram on the field network (R61, R62): its destination, hop limit, port, checksum, and the Vervo message. -/
  | udp (dst : Ip6) (hop port sum : Nat) (bytes : Bytes)
  | neighborAdvert (dst target : Ip6)
  | echoReply (dst : Ip6) (data : Bytes)
  /-- A packet on a link: header of R442 or R470 as a number, and its data. -/
  | packet (link : Nat) (hdr : Nat) (data : Bytes)
  | flit (link : Nat) (bytes : Bytes)
  | cart (slot : Nat) (op : CartOp) (arg : Nat) (data : Bytes)
  deriving DecidableEq, Repr

/-- An entry of the event log: its name as the manual writes it, its time stamp (R349) and what it names. -/
structure Event where
  name : String
  time : Nat
  args : List Nat
  deriving DecidableEq, Repr

/-! ## Isolation, firmware, bring-up, steps and power (R487-R659) -/

/-- SPDM state of one source (R516): whether the version, capabilities and algorithms have been agreed, the transcripts that
the signatures cover, the response that OD 0x9300.02 holds, and when it was last used. -/
structure SpdmSrc where
  src      : Src
  stage    : Nat
  transA   : Bytes
  transB   : Bytes
  transM   : Bytes
  response : Bytes
  resynch  : Bool
  used     : Nat
  deriving DecidableEq, Repr

/-- State code of a key record in the boot flash (R506). -/
inductive KeyRec where
  | erased | active | torn | releasing
  deriving DecidableEq, Repr

/-- A key record in the boot flash (R506): its state, key generation, and the context key wrapped under the sealing key. -/
structure FlashKey where
  state   : KeyRec
  gen     : Nat
  wrapped : Bytes
  deriving DecidableEq, Repr

/-- A release in progress (R495): the next step to run. -/
structure Releasing where
  ctx  : Nat
  step : Nat
  deriving DecidableEq, Repr

/-- Isolation and attestation. -/
structure IsoSt where
  /-- Key table, copy 0 and copy 1 (R506, R522): one record per context. -/
  keys0     : Tbl FlashKey
  keys1     : Tbl FlashKey
  /-- The context keys in the key stores of the active and of the standby management die (R500, R507). -/
  active    : Tbl Bytes
  standby   : Tbl Bytes
  /-- The per-boot transport key, and the key slots of the media dies (R501): key media die × 4,096 + context, Key1 and Key2. Slot
  0x000 holds the device key (R503). -/
  transport : Bytes
  slots     : Tbl (Bytes × Bytes)
  /-- The key that the CREATE under way has drawn. -/
  drawn     : Bytes
  /-- Key records that a PENDING standby has still to acknowledge, in key-table order (R508). -/
  backlog   : List Nat
  /-- Context commands waiting for the one before: context, command (R491). -/
  commands  : List (Nat × Nat)
  creating  : Option Nat
  releasing : List Releasing
  spdm      : List SpdmSrc
  deriving DecidableEq, Repr

/-- A half of the configuration area of the boot flash (R525): whether its header is valid, its generation number, and its records, oldest
first, each an 8-byte header as a number and the value behind it. -/
structure ConfigHalf where
  valid : Bool
  gen   : Nat
  recs  : List (Nat × Bytes)
  deriving DecidableEq, Repr

/-- The configuration area (R522, R525). -/
structure ConfigArea where
  half0 : ConfigHalf
  half1 : ConfigHalf
  deriving DecidableEq, Repr

/-- A directory copy (R523). -/
structure Directory where
  seq  : Nat
  pref : Nat
  valid : Bool
  deriving DecidableEq, Repr

/-- What training has learned of the units it trains, of sections 2 to 4 and 6 of the saved settings (R571): the failed channel of a link
direction, by 2 × link + direction (R572); the T0 rows and columns repaired, by engine die; the rows repaired of an HBM channel; the
spare lanes in use, by optical die. -/
structure Learned where
  net    : Tbl Nat
  t0     : Tbl Nat
  hbm    : Tbl Nat
  spares : Tbl Nat
  deriving DecidableEq, Repr

/-- One half of the saved training settings (R571): its header is valid, its generation, the INTERFACE of the bundle that wrote it, what
training had learned, and the repair map. -/
structure Training where
  valid     : Bool
  gen       : Nat
  interface : Nat
  learned   : Learned
  repair    : Tbl Nat
  deriving DecidableEq, Repr

/-- A live update in progress (R550-R553): processors still to update, and whether it is of all of them. -/
structure LiveUpd where
  todo  : List Nat
  all   : Bool
  slot  : Nat
  deriving DecidableEq, Repr

/-- Firmware. -/
structure FwSt where
  config    : ConfigArea
  dir0      : Directory
  dir1      : Directory
  train0    : Training
  train1    : Training
  /-- What training has learned since power-good, or has taken from the settings (R573). -/
  learned   : Learned
  /-- Image slots A, B and recovery: bytes that differ from the erased value 0xFF, as 255 − byte. -/
  slotA     : Memory
  slotB     : Memory
  slotR     : Memory
  /-- Slots marked failed in the retained latch (R529). -/
  failed    : List Nat
  /-- Revocation fuses blown after manufacture, key-hash slots 1 to 4, and the fused security version raised (R531-R533). -/
  revoked   : List Nat
  svn       : Option Nat
  /-- Bytes written to the program buffer and not yet programmed (R535). -/
  buffered  : Nat
  /-- The queue that each scribe core serves in its slice (R538), by key. -/
  serving   : Tbl Nat
  /-- Manifest of the running bundle: version, SVN, key slot, revoke bits, interface. -/
  version   : Nat
  bundleSvn : Nat
  keySlot   : Nat
  revoke    : Nat
  interface : Nat
  /-- Processors that run the image of the other bundle after a live update. -/
  update    : Option LiveUpd
  /-- Instant at which each processor last reached step 6 of a restart (R546). -/
  ranSince  : Tbl Nat
  /-- Dies whose fall-back loop is lost (R542), and the sensors that each governor has flagged (R541). -/
  loopLost  : List Nat
  flagged   : Tbl (List Nat)
  deriving DecidableEq, Repr

/-- Where bring-up stands (R555-R567). -/
structure BootSt where
  /-- The active management die, 0 for S0 and 1 for S1; none while no die is. -/
  activeDie : Option Nat
  /-- The other die: none (takes no further part), candidate or standby. -/
  candidate : Bool
  standby   : Bool
  /-- Stage that may run next, 0 to 6; 7 when bring-up has ended; none while unpowered or stopped. -/
  next      : Option Nat
  started   : Nat
  /-- Time stamps count from here (R349); none before stage 1. -/
  stamp0    : Option Nat
  /-- Units trained in full, units trained from records (R573), of stages 1 to 3. -/
  trainFull : Bool
  trainWarm : Bool
  clearMarks : Bool
  recovery  : Bool
  halted    : Bool
  /-- Instant of power-good (OD 0xB000.05), and the management dies that have failed since then. -/
  goodAt    : Nat
  dead      : List Nat
  /-- The items of stage 5 while it waits under R565: place, code, result and value of each; none while it does not wait. -/
  held5     : Option (List (Nat × Nat × Nat × Nat))
  deriving DecidableEq, Repr

/-- A checkpoint being written (R595, R596): context, commit set, step, and its writes. -/
structure Checkpoint where
  ctx    : Nat
  set    : Nat
  step   : Nat
  copies : CopyWork
  deriving DecidableEq, Repr

/-- A composition from step 3 to step 6 of R611: context, the receipt of its INK, the rebound import windows, whether the host port
changes and the old one. -/
structure Composition where
  ctx      : Nat
  start    : Nat
  wids     : List Nat
  hostPort : Bool
  oldPort  : Nat
  deriving DecidableEq, Repr

/-- Where the requests of a rebound import window go (R609): node, WID, first page, window epoch. -/
structure ImportTarget where
  node  : Nat
  wid   : Nat
  page  : Nat
  epoch : Nat
  deriving DecidableEq, Repr

/-- Steps and composition. -/
structure StepSt where
  checkpoints  : List Checkpoint
  compositions : List Composition
  /-- Targets of import windows that a rebind has moved: key WID. -/
  targets      : Tbl ImportTarget
  deriving DecidableEq, Repr

/-- Power and pins (R620-R641). -/
structure PowerSt where
  /-- Every rail is in regulation. -/
  on        : Bool
  /-- A restart needs a power cycle (R620, R630). -/
  locked    : Bool
  pfailLow  : Bool
  resetLow  : Bool
  fspiLow   : Bool
  faultLow  : Bool
  clamped   : Bool
  /-- Dies that a thermal trip holds, with the sensor (R629). -/
  tripped   : Tbl Nat
  /-- Each governor's own voltage request in mV (R540); 720 where none is listed (R558). -/
  request   : Tbl Nat
  /-- The engine-die voltage ceiling in half millivolts (R625); OD 0xD000.04 shows it in millivolts. -/
  ceiling   : Nat
  /-- A shutdown or a reset that follows the flush under way (R630, R635). -/
  after     : Nat
  deriving DecidableEq, Repr

/-- The state of the device. -/
structure State where
  /-- The commands that wait, first in, first out. -/
  pending : List Instr
  /-- The reference oscillator in nanoseconds (R3, R349). -/
  now     : Nat
  /-- The model's own counter of free values (log entry 5); no value rests on it. -/
  free    : Nat
  /-- Numbers of the dictionary in force, where they differ from the map's default or have been written. -/
  od      : Tbl Nat
  /-- Bytes of STR and BLOB entries. -/
  blobs   : Tbl Bytes
  dict    : Dict
  mem     : MemSt
  tier    : TierSt
  xlat    : XlatSt
  feed    : FeedSt
  coh     : CohSt
  q       : QueueSt
  cart    : CartSt
  fab     : FabricSt
  iso     : IsoSt
  fw      : FwSt
  boot    : BootSt
  step    : StepSt
  power   : PowerSt
  /-- The event log, newest first (OD 0xF000.01). -/
  log     : List Event
  /-- What the device has sent, oldest first. -/
  out     : List Msg
  deriving DecidableEq, Repr

/-- No command of the block stops it: every outcome the spec gives is a next state. -/
inductive Fault where
  /-- Raised by nobody: kept so that the type has a value. Safe. -/
  | none
  deriving DecidableEq, Repr

/-- Why a command has no meaning. -/
inductive Refusal where
  /-- The command's meaning is not written yet: raised by its arm in Dispatch.lean alone. Safe. -/
  | notModelled (mnemonic : String)
  deriving DecidableEq, Repr

/-- An empty journal half. -/
def emptyJournal : JournalHalf := ⟨.none, 0, 0, []⟩

/-- Journal halves of a device that leaves the factory (log entry 6: a clean marker). -/
def factoryJournal : JournalHalf := ⟨.clean, 0, 0, []⟩

/-- An idle dictionary window (R76). -/
def idleWindow : DictWindow := ⟨[], [], 0, false, false, 0⟩

/-- An empty slot (R411). -/
def emptySlot : Slot := ⟨false, 0, 0, 0, [], none, none, none, .none, none, none, false, false, false, false⟩

/-- The slots of the positions 0 to 9 of groups A, B and C in service (R393). -/
def groupSlots : List (List Nat) :=
  [[0, 1, 4, 5, 8, 12, 16, 20, 24, 28], [2, 6, 9, 10, 13, 14, 17, 21, 25, 29], [3, 7, 11, 15, 18, 19, 22, 23, 26, 30]]

/-- The slot of each position in service, by key. -/
def nominalServing : Tbl Nat := (List.range 30).map (fun k => (k, (groupSlots.getD (k / 10) []).getD (k % 10) 0))

/-- A link that has not trained. -/
def idleLink : LinkSt := ⟨0, 0, [], 0, none, [0, 0, 0, 0, 0], [], []⟩

/-- The device after reset: unpowered rails in regulation not yet reached, nothing admitted, every entry at its default
(R14, R53), memory with nothing listed (R206). -/
def State.reset : State where
  pending := []
  now := 0
  free := 0
  od := []
  blobs := []
  dict := ⟨[], 0, none, false, [], [], [], [], 0, [], [], []⟩
  mem := ⟨[], [], [], [], 0, [], [], 0⟩
  tier := ⟨[], [], [], [], [], [], [], [], [], factoryJournal, factoryJournal, 0, .idle, [], false⟩
  xlat := ⟨[], [], [], [], [], []⟩
  feed := ⟨[], 0, []⟩
  coh := ⟨0, [], [], [], [], 0, [], [], [], [], [], [], [], []⟩
  q := ⟨[], [], [], [], [], [], [], [], [], 0, [], [], [], []⟩
  cart := ⟨[], nominalServing, [], 0, 0, false⟩
  fab := ⟨[], [], [], [], [], [], [], [], [], [], [], [], [], []⟩
  iso := ⟨[], [], [], [], [], [], [], [], [], none, [], []⟩
  fw := ⟨⟨⟨true, 0, []⟩, ⟨false, 0, []⟩⟩, ⟨0, 0, true⟩, ⟨0, 0, true⟩, ⟨false, 0, 0, ⟨[], [], [], []⟩, []⟩, ⟨false, 0, 0, ⟨[], [], [], []⟩, []⟩, ⟨[], [], [], []⟩, [], [], [], [], [], none, 0, [], 0, 0,
    0, 0, 0, none, [], [], []⟩
  boot := ⟨none, false, false, none, 0, none, false, false, false, false, false, 0, [], none⟩
  step := ⟨[], [], []⟩
  power := ⟨false, false, false, false, false, false, false, [], [], 1700, 0⟩
  log := []
  out := []

end Sys2Proof.Machine
end

