-- ==== Sys2Proof/Machine/OdMap.lean ====
section
/-! DEFINITION. The entry map of the dictionary: one row per entry or run of entries of R93 and of the map of each chapter. -/

namespace Sys2Proof.Machine

/-- Entries of the range 0x1000. -/
def odRows1 : List OdRow := [
  /- Vendor (R93) -/ ⟨0x1000, 0x1000, 0x01, 0x01, .str, .ro, false, false, 0, [0x46#8, 0x65#8, 0x6E#8, 0x75#8, 0x76#8, 0x79#8, 0x20#8, 0x53#8, 0x79#8, 0x73#8, 0x74#8, 0x65#8, 0x6D#8, 0x73#8], .upTo 256⟩,
  /- Part number (R93) -/ ⟨0x1000, 0x1000, 0x02, 0x02, .str, .ro, false, false, 0, [0x46#8, 0x4E#8, 0x56#8, 0x2D#8, 0x41#8, 0x34#8, 0x30#8, 0x2D#8, 0x31#8], .upTo 256⟩,
  /- Serial number (R93) -/ ⟨0x1000, 0x1000, 0x03, 0x03, .str, .ro, false, false, 0, [], .upTo 256⟩,
  /- Hardware revision (R93) -/ ⟨0x1000, 0x1000, 0x04, 0x04, .u16, .ro, false, false, 0, [], .ivs [(0, 2 ^ 16 - 1)]⟩,
  /- Dictionary layout version (R93) -/ ⟨0x1000, 0x1000, 0x05, 0x05, .u32, .ro, false, false, 65536, [], .ivs [(0, 2 ^ 32 - 1)]⟩,
  /- Field-network MAC address (R93) -/ ⟨0x1001, 0x1001, 0x01, 0x01, .u64, .ro, false, false, 0, [], .ivs [(0, 2 ^ 64 - 1)]⟩,
  /- PLCA enable (R93) -/ ⟨0x1010, 0x1010, 0x01, 0x01, .bool, .rw, true, false, 0, [], .ivs [(0, 1)]⟩,
  /- PLCA local node ID (R93) -/ ⟨0x1010, 0x1010, 0x02, 0x02, .u8, .rw, true, false, 1, [], .ivs [(0, 254)]⟩,
  /- PLCA node count (R93) -/ ⟨0x1010, 0x1010, 0x03, 0x03, .u8, .rw, true, false, 8, [], .ivs [(1, 255)]⟩,
  /- PLCA transmit-opportunity timer, bit times (R93) -/ ⟨0x1010, 0x1010, 0x04, 0x04, .u8, .rw, true, false, 32, [], .ivs [(1, 255)]⟩]

/-- Entries of the range 0x2000. -/
def odRows2 : List OdRow := [
  /- Shadow-check sample interval, tiles (R145, R93) -/ ⟨0x2100, 0x2100, 0x01, 0x01, .u16, .rw, true, false, 64, [], .ivs [(1, 4096)]⟩,
  /- Error-norm floor exponent f (R145) -/ ⟨0x2100, 0x2100, 0x02, 0x02, .u8, .rw, true, false, 20, [], .ivs [(0, 126)]⟩,
  /- Sampling mode (R145) -/ ⟨0x2100, 0x2100, 0x03, 0x03, .enum, .rw, true, false, 0, [], .codes [0, 1]⟩,
  /- Saturation limit, units of 2^−16 of converted outputs (R145) -/ ⟨0x2100, 0x2100, 0x04, 0x04, .u16, .rw, true, false, 16, [], .ivs [(0, 65535)]⟩,
  /- Tensor-scale margin exponent g (R145) -/ ⟨0x2100, 0x2100, 0x05, 0x05, .u8, .rw, true, false, 1, [], .ivs [(0, 4)]⟩,
  /- Output tiles computed (R145) -/ ⟨0x2101, 0x2101, 0x01, 0x01, .u64, .ro, false, false, 0, [], .ivs [(0, 2 ^ 64 - 1)]⟩,
  /- Output tiles sampled (R145) -/ ⟨0x2101, 0x2101, 0x02, 0x02, .u64, .ro, false, false, 0, [], .ivs [(0, 2 ^ 64 - 1)]⟩,
  /- Sampled tiles failed (R145) -/ ⟨0x2101, 0x2101, 0x03, 0x03, .u64, .ro, false, false, 0, [], .ivs [(0, 2 ^ 64 - 1)]⟩,
  /- Descriptors promoted (R145) -/ ⟨0x2101, 0x2101, 0x04, 0x04, .u64, .ro, false, false, 0, [], .ivs [(0, 2 ^ 64 - 1)]⟩,
  /- Saturations (R145) -/ ⟨0x2101, 0x2101, 0x05, 0x05, .u64, .ro, false, false, 0, [], .ivs [(0, 2 ^ 64 - 1)]⟩,
  /- Escaped elements consumed (R145) -/ ⟨0x2101, 0x2101, 0x06, 0x06, .u64, .ro, false, false, 0, [], .ivs [(0, 2 ^ 64 - 1)]⟩,
  /- Non-finite outputs (R145) -/ ⟨0x2101, 0x2101, 0x07, 0x07, .u64, .ro, false, false, 0, [], .ivs [(0, 2 ^ 64 - 1)]⟩,
  /- Malformed blocks (R145) -/ ⟨0x2101, 0x2101, 0x08, 0x08, .u64, .ro, false, false, 0, [], .ivs [(0, 2 ^ 64 - 1)]⟩,
  /- Rolls performed (R145) -/ ⟨0x2101, 0x2101, 0x09, 0x09, .u64, .ro, false, false, 0, [], .ivs [(0, 2 ^ 64 - 1)]⟩,
  /- Default threshold for F4, units of 2^−16 (R145) -/ ⟨0x2110, 0x2110, 0x01, 0x01, .u16, .rw, true, false, 16384, [], .ivs [(1, 65535)]⟩,
  /- Default threshold for I4 (R145) -/ ⟨0x2110, 0x2110, 0x02, 0x02, .u16, .rw, true, false, 16384, [], .ivs [(1, 65535)]⟩,
  /- Default threshold for T2 (R145) -/ ⟨0x2110, 0x2110, 0x03, 0x03, .u16, .rw, true, false, 32768, [], .ivs [(1, 65535)]⟩,
  /- Default threshold for B1 (R145) -/ ⟨0x2110, 0x2110, 0x04, 0x04, .u16, .rw, true, false, 49152, [], .ivs [(1, 65535)]⟩,
  /- Layer-window depth, layers (R193, R93) -/ ⟨0x2200, 0x2200, 0x01, 0x01, .u8, .rwd, true, false, 12, [], .ivs [(2, 64)]⟩,
  /- Largest slot, MiB (R193) -/ ⟨0x2200, 0x2200, 0x02, 0x02, .u32, .rwd, true, false, 8192, [], .ivs [(64, 65536)]⟩,
  /- Fills in flight per window (R193) -/ ⟨0x2200, 0x2200, 0x03, 0x03, .u8, .rw, true, false, 2, [], .ivs [(1, 8)]⟩,
  /- Window stall report time, ms (R193) -/ ⟨0x2200, 0x2200, 0x04, 0x04, .u16, .rw, true, false, 1000, [], .ivs [(10, 60000)]⟩,
  /- Fills completed (R193) -/ ⟨0x2201, 0x2201, 0x01, 0x01, .u64, .ro, false, false, 0, [], .ivs [(0, 2 ^ 64 - 1)]⟩,
  /- Bytes filled (R193) -/ ⟨0x2201, 0x2201, 0x02, 0x02, .u64, .ro, false, false, 0, [], .ivs [(0, 2 ^ 64 - 1)]⟩]

/-- Entries of the range 0x2000, continued. -/
def odRows2a : List OdRow := [
  /- Fills failed (R193) -/ ⟨0x2201, 0x2201, 0x03, 0x03, .u64, .ro, false, false, 0, [], .ivs [(0, 2 ^ 64 - 1)]⟩,
  /- Window stalls (R193) -/ ⟨0x2201, 0x2201, 0x04, 0x04, .u64, .ro, false, false, 0, [], .ivs [(0, 2 ^ 64 - 1)]⟩,
  /- Open windows (R193) -/ ⟨0x2201, 0x2201, 0x05, 0x05, .u16, .ro, false, false, 0, [], .ivs [(0, 256)]⟩,
  /- Sequence slots per context (R49) (R193) -/ ⟨0x2210, 0x221F, 0x00, 0xFF, .u16, .rwd, true, true, 0, [], .ivs [(0, 4096)]⟩,
  /- Nib share weight per context (R49) (R193) -/ ⟨0x2220, 0x222F, 0x00, 0xFF, .u8, .rw, true, true, 16, [], .ivs [(0, 255)]⟩,
  /- Quill widening limit, candidate-queue entries (R392, R93) -/ ⟨0x2800, 0x2800, 0x01, 0x01, .u16, .rw, true, false, 256, [], .ivs [(16, 256)]⟩,
  /- Default visit limit, evaluations per walk (R392) -/ ⟨0x2800, 0x2800, 0x02, 0x02, .u32, .rw, true, false, 4096, [], .ivs [(64, 1048575)]⟩,
  /- Queries completed (R392) -/ ⟨0x2801, 0x2801, 0x01, 0x01, .u64, .ro, false, false, 0, [], .ivs [(0, 2 ^ 64 - 1)]⟩,
  /- Queries ended SHORT (R392) -/ ⟨0x2801, 0x2801, 0x02, 0x02, .u64, .ro, false, false, 0, [], .ivs [(0, 2 ^ 64 - 1)]⟩,
  /- Widenings (R392) -/ ⟨0x2801, 0x2801, 0x03, 0x03, .u64, .ro, false, false, 0, [], .ivs [(0, 2 ^ 64 - 1)]⟩,
  /- Distance evaluations (R392) -/ ⟨0x2801, 0x2801, 0x04, 0x04, .u64, .ro, false, false, 0, [], .ivs [(0, 2 ^ 64 - 1)]⟩,
  /- Stale edges met (R392) -/ ⟨0x2801, 0x2801, 0x05, 0x05, .u64, .ro, false, false, 0, [], .ivs [(0, 2 ^ 64 - 1)]⟩,
  /- Malformed cases (R392) -/ ⟨0x2801, 0x2801, 0x06, 0x06, .u64, .ro, false, false, 0, [], .ivs [(0, 2 ^ 64 - 1)]⟩,
  /- Queries restarted (R392) -/ ⟨0x2801, 0x2801, 0x07, 0x07, .u64, .ro, false, false, 0, [], .ivs [(0, 2 ^ 64 - 1)]⟩,
  /- Edges examined by STALE_SCAN (R392) -/ ⟨0x2801, 0x2801, 0x08, 0x08, .u64, .ro, false, false, 0, [], .ivs [(0, 2 ^ 64 - 1)]⟩,
  /- Hardware contexts in use (R392) -/ ⟨0x2802, 0x2802, 0x01, 0x01, .u16, .ro, false, false, 0, [], .ivs [(0, 24576)]⟩,
  /- Quill share weight per context (R392) -/ ⟨0x2820, 0x282F, 0x00, 0xFF, .u8, .rw, true, true, 16, [], .ivs [(0, 255)]⟩]

/-- Entries of the range 0x3000. -/
def odRows3 : List OdRow := [
  /- T1 placed region, GiB (R236, R93) -/ ⟨0x3000, 0x3000, 0x01, 0x01, .u32, .rwd, true, false, 256, [], .ivs [(0, 384)]⟩,
  /- Dirty-data cap, GiB (R236, R93) -/ ⟨0x3001, 0x3001, 0x01, 0x01, .u32, .rwd, true, false, 64, [], .ivs [(1, 64)]⟩,
  /- Demotion rate for over-quota holders, MB/s (R236, R93) -/ ⟨0x3002, 0x3002, 0x01, 0x01, .u32, .rw, true, false, 4000, [], .ivs [(100, 64000)]⟩,
  /- Short mark, T1 placed, per mille (R236) -/ ⟨0x3003, 0x3003, 0x01, 0x01, .u16, .rw, true, false, 20, [], .ivs [(0, 200)]⟩,
  /- Short mark, T2, per mille (R236) -/ ⟨0x3003, 0x3003, 0x02, 0x02, .u16, .rw, true, false, 20, [], .ivs [(0, 200)]⟩,
  /- Short mark, T3, per mille (R236) -/ ⟨0x3003, 0x3003, 0x03, 0x03, .u16, .rw, true, false, 20, [], .ivs [(0, 200)]⟩,
  /- T1 placed free, MiB (R236) -/ ⟨0x3004, 0x3004, 0x01, 0x01, .u32, .ro, false, false, 0, [], .ivs [(0, 2 ^ 32 - 1)]⟩,
  /- T2 free, MiB (R236) -/ ⟨0x3004, 0x3004, 0x02, 0x02, .u32, .ro, false, false, 0, [], .ivs [(0, 2 ^ 32 - 1)]⟩,
  /- T3 pool lent, MiB (R236) -/ ⟨0x3004, 0x3004, 0x03, 0x03, .u32, .ro, false, false, 0, [], .ivs [(0, 2 ^ 32 - 1)]⟩,
  /- T3 free, MiB (R236) -/ ⟨0x3004, 0x3004, 0x04, 0x04, .u32, .ro, false, false, 0, [], .ivs [(0, 2 ^ 32 - 1)]⟩,
  /- End of highest allocated placed frame, MiB (R236) -/ ⟨0x3004, 0x3004, 0x05, 0x05, .u32, .ro, false, false, 0, [], .ivs [(0, 2 ^ 32 - 1)]⟩,
  /- Dirty charge, MiB (R236) -/ ⟨0x3004, 0x3004, 0x06, 0x06, .u32, .ro, false, false, 0, [], .ivs [(0, 2 ^ 32 - 1)]⟩,
  /- Effective dirty cap C, MiB (R236) -/ ⟨0x3004, 0x3004, 0x07, 0x07, .u32, .ro, false, false, 65536, [], .ivs [(0, 2 ^ 32 - 1)]⟩,
  /- Journal width W (R236) -/ ⟨0x3004, 0x3004, 0x08, 0x08, .u8, .ro, false, false, 0, [], .ivs [(0, 32)]⟩,
  /- QUOTA completions (R236) -/ ⟨0x3005, 0x3005, 0x01, 0x01, .u64, .ro, false, false, 0, [], .ivs [(0, 2 ^ 64 - 1)]⟩,
  /- THROTTLED completions from short pools (R236) -/ ⟨0x3005, 0x3005, 0x02, 0x02, .u64, .ro, false, false, 0, [], .ivs [(0, 2 ^ 64 - 1)]⟩,
  /- Bytes demoted (R236) -/ ⟨0x3005, 0x3005, 0x03, 0x03, .u64, .ro, false, false, 0, [], .ivs [(0, 2 ^ 64 - 1)]⟩,
  /- DEMOTE_BLOCKED events (R236) -/ ⟨0x3005, 0x3005, 0x04, 0x04, .u64, .ro, false, false, 0, [], .ivs [(0, 2 ^ 64 - 1)]⟩,
  /- Writes held at the dirty cap (R236) -/ ⟨0x3005, 0x3005, 0x05, 0x05, .u64, .ro, false, false, 0, [], .ivs [(0, 2 ^ 64 - 1)]⟩,
  /- Last power-off outcome (R236) -/ ⟨0x3006, 0x3006, 0x01, 0x01, .enum, .ro, false, false, 0, [], .codes []⟩,
  /- Duration of the last flush, µs (R236) -/ ⟨0x3006, 0x3006, 0x02, 0x02, .u32, .ro, false, false, 0, [], .ivs [(0, 2 ^ 32 - 1)]⟩,
  /- Lines poisoned at the last replay (R236) -/ ⟨0x3006, 0x3006, 0x03, 0x03, .u64, .ro, false, false, 0, [], .ivs [(0, 2 ^ 64 - 1)]⟩,
  /- Stop for power-off (R236) -/ ⟨0x3006, 0x3006, 0x04, 0x04, .bool, .wo, false, false, 0, [], .ivs [(0, 1)]⟩,
  /- Flushes completed (R236) -/ ⟨0x3006, 0x3006, 0x05, 0x05, .u64, .ro, false, false, 0, [], .ivs [(0, 2 ^ 64 - 1)]⟩]

/-- Entries of the range 0x3000, continued. -/
def odRows3a : List OdRow := [
  /- Stopped for power-off (R236) -/ ⟨0x3006, 0x3006, 0x06, 0x06, .bool, .ro, false, false, 0, [], .ivs [(0, 1)]⟩,
  /- T1 placed quota per context, MiB (R49) (R93) -/ ⟨0x3100, 0x310F, 0x00, 0xFF, .u32, .rw, true, true, 0, [], .ivs [(0, 393216)]⟩,
  /- T1 cache share per context, MiB (R93) -/ ⟨0x3110, 0x311F, 0x00, 0xFF, .u32, .rw, true, true, 0, [], .ivs [(0, 393216)]⟩,
  /- T2 quota per context, MiB (R93) -/ ⟨0x3120, 0x312F, 0x00, 0xFF, .u32, .rw, true, true, 0, [], .ivs [(0, 100663296)]⟩,
  /- T3 quota per context, MiB (R93) -/ ⟨0x3130, 0x313F, 0x00, 0xFF, .u32, .rw, true, true, 0, [], .ivs [(0, 4294967295)]⟩,
  /- T1 placed charge per context, MiB (R236) -/ ⟨0x3140, 0x314F, 0x00, 0xFF, .u32, .ro, false, true, 0, [], .ivs [(0, 2 ^ 32 - 1)]⟩,
  /- T1 cache occupancy per context, MiB (R236) -/ ⟨0x3150, 0x315F, 0x00, 0xFF, .u32, .ro, false, true, 0, [], .ivs [(0, 2 ^ 32 - 1)]⟩,
  /- T2 charge per context, MiB (R236) -/ ⟨0x3160, 0x316F, 0x00, 0xFF, .u32, .ro, false, true, 0, [], .ivs [(0, 2 ^ 32 - 1)]⟩,
  /- T3 charge per context, MiB (R236) -/ ⟨0x3170, 0x317F, 0x00, 0xFF, .u32, .ro, false, true, 0, [], .ivs [(0, 2 ^ 32 - 1)]⟩,
  /- T1 placed pinned per context, MiB (R236) -/ ⟨0x3180, 0x318F, 0x00, 0xFF, .u32, .ro, false, true, 0, [], .ivs [(0, 2 ^ 32 - 1)]⟩,
  /- Tier flags per context (R236) -/ ⟨0x3190, 0x319F, 0x00, 0xFF, .u8, .ro, false, true, 0, [], .ivs [(0, 2 ^ 8 - 1)]⟩]

/-- Entries of the range 0x4000. -/
def odRows4 : List OdRow := [
  /- Withdrawal deadline, µs (R283, R93) -/ ⟨0x4000, 0x4000, 0x01, 0x01, .u32, .rw, true, false, 10000, [], .ivs [(100, 1000000)]⟩,
  /- Fault resolution deadline, ms (R283) -/ ⟨0x4000, 0x4000, 0x02, 0x02, .u32, .rw, true, false, 1000, [], .ivs [(1, 600000)]⟩,
  /- Faults posted (R283) -/ ⟨0x4001, 0x4001, 0x01, 0x01, .u64, .ro, false, false, 0, [], .ivs [(0, 2 ^ 64 - 1)]⟩,
  /- Faults parked (R283) -/ ⟨0x4001, 0x4001, 0x02, 0x02, .u64, .ro, false, false, 0, [], .ivs [(0, 2 ^ 64 - 1)]⟩,
  /- Streams ended FAULT_UNRESOLVED (R283) -/ ⟨0x4001, 0x4001, 0x03, 0x03, .u64, .ro, false, false, 0, [], .ivs [(0, 2 ^ 64 - 1)]⟩,
  /- Withdrawals completed (R283) -/ ⟨0x4001, 0x4001, 0x04, 0x04, .u64, .ro, false, false, 0, [], .ivs [(0, 2 ^ 64 - 1)]⟩,
  /- Transfers aborted at a deadline (R283) -/ ⟨0x4001, 0x4001, 0x05, 0x05, .u64, .ro, false, false, 0, [], .ivs [(0, 2 ^ 64 - 1)]⟩,
  /- Range-cache misses (R283) -/ ⟨0x4001, 0x4001, 0x06, 0x06, .u64, .ro, false, false, 0, [], .ivs [(0, 2 ^ 64 - 1)]⟩,
  /- Pointers not converted (R283) -/ ⟨0x4001, 0x4001, 0x07, 0x07, .u64, .ro, false, false, 0, [], .ivs [(0, 2 ^ 64 - 1)]⟩,
  /- Range-table bytes in use (R283) -/ ⟨0x4001, 0x4001, 0x08, 0x08, .u64, .ro, false, false, 0, [], .ivs [(0, 2 ^ 64 - 1)]⟩,
  /- Fault group per context (R283) -/ ⟨0x4020, 0x402F, 0x00, 0xFF, .u8, .rw, true, true, 0, [], .ivs [(0, 63)]⟩,
  /- Resolver context per group (R283) -/ ⟨0x4100, 0x4100, 0x00, 0x3F, .u16, .rwd, true, false, 0, [], .ivs [(0, 4095)]⟩,
  /- Fault queue CVA per group (R283) -/ ⟨0x4101, 0x4101, 0x00, 0x3F, .u64, .rwd, true, false, 0, [], .ivs [(0, 2 ^ 64 - 1)]⟩,
  /- Notify mordant per group (R283) -/ ⟨0x4102, 0x4102, 0x00, 0x3F, .u32, .rw, true, false, 0, [], .mask 0x1FFFF⟩,
  /- Faults parked now, per group (R283) -/ ⟨0x4103, 0x4103, 0x00, 0x3F, .u32, .ro, false, false, 0, [], .ivs [(0, 49152)]⟩,
  /- Parking events per group (R283) -/ ⟨0x4104, 0x4104, 0x00, 0x3F, .u64, .ro, false, false, 0, [], .ivs [(0, 2 ^ 64 - 1)]⟩]

/-- Entries of the range 0x5000. -/
def odRows5 : List OdRow := [
  /- Hot-line threshold, requests per 100 µs (R313) -/ ⟨0x5000, 0x5000, 0x01, 0x01, .u32, .rw, true, false, 4096, [], .ivs [(256, 65536)]⟩,
  /- Hot-line pacing interval, ns (R313) -/ ⟨0x5000, 0x5000, 0x02, 0x02, .u16, .rw, true, false, 100, [], .ivs [(0, 10000)]⟩,
  /- Adapter snoop timeout, µs (R313) -/ ⟨0x5000, 0x5000, 0x03, 0x03, .u32, .rw, true, false, 1000, [], .ivs [(100, 100000)]⟩,
  /- Atomic combining (R313) -/ ⟨0x5000, 0x5000, 0x04, 0x04, .bool, .rw, true, false, 1, [], .ivs [(0, 1)]⟩,
  /- RETRY count (R313, R93) -/ ⟨0x5001, 0x5001, 0x01, 0x01, .u64, .ro, false, false, 0, [], .ivs [(0, 2 ^ 64 - 1)]⟩,
  /- Writebacks taken (R313) -/ ⟨0x5001, 0x5001, 0x02, 0x02, .u64, .ro, false, false, 0, [], .ivs [(0, 2 ^ 64 - 1)]⟩,
  /- Stale writebacks (R313) -/ ⟨0x5001, 0x5001, 0x03, 0x03, .u64, .ro, false, false, 0, [], .ivs [(0, 2 ^ 64 - 1)]⟩,
  /- Back-invalidations (R313) -/ ⟨0x5001, 0x5001, 0x04, 0x04, .u64, .ro, false, false, 0, [], .ivs [(0, 2 ^ 64 - 1)]⟩,
  /- Snoops sent (R313) -/ ⟨0x5001, 0x5001, 0x05, 0x05, .u64, .ro, false, false, 0, [], .ivs [(0, 2 ^ 64 - 1)]⟩,
  /- Atomics executed (R313) -/ ⟨0x5001, 0x5001, 0x06, 0x06, .u64, .ro, false, false, 0, [], .ivs [(0, 2 ^ 64 - 1)]⟩,
  /- Atomics combined (R313) -/ ⟨0x5001, 0x5001, 0x07, 0x07, .u64, .ro, false, false, 0, [], .ivs [(0, 2 ^ 64 - 1)]⟩,
  /- HOT_LINE events (R313) -/ ⟨0x5001, 0x5001, 0x08, 0x08, .u64, .ro, false, false, 0, [], .ivs [(0, 2 ^ 64 - 1)]⟩,
  /- Requests paced (R313) -/ ⟨0x5001, 0x5001, 0x09, 0x09, .u64, .ro, false, false, 0, [], .ivs [(0, 2 ^ 64 - 1)]⟩,
  /- Lines poisoned by failed caches (R313) -/ ⟨0x5001, 0x5001, 0x0A, 0x0A, .u64, .ro, false, false, 0, [], .ivs [(0, 2 ^ 64 - 1)]⟩,
  /- Longest ticket wait, ns (R313) -/ ⟨0x5001, 0x5001, 0x0B, 0x0B, .u32, .ro, false, false, 0, [], .ivs [(0, 2 ^ 32 - 1)]⟩,
  /- Requests accepted per Inkwell (R313) -/ ⟨0x5002, 0x5002, 0x00, 0x17, .u64, .ro, false, false, 0, [], .ivs [(0, 2 ^ 64 - 1)]⟩,
  /- Scope mismatches (R350) -/ ⟨0x5003, 0x5003, 0x01, 0x01, .u64, .ro, false, false, 0, [], .ivs [(0, 2 ^ 64 - 1)]⟩,
  /- SCOPE_MISMATCH events logged per second (R350) -/ ⟨0x5003, 0x5003, 0x02, 0x02, .u16, .rw, true, false, 100, [], .ivs [(0, 10000)]⟩,
  /- Mordant updates (R350) -/ ⟨0x5003, 0x5003, 0x03, 0x03, .u64, .ro, false, false, 0, [], .ivs [(0, 2 ^ 64 - 1)]⟩,
  /- Waits satisfied (R350) -/ ⟨0x5003, 0x5003, 0x04, 0x04, .u64, .ro, false, false, 0, [], .ivs [(0, 2 ^ 64 - 1)]⟩,
  /- Cluster-store-buffer lines drained by ageing (R350) -/ ⟨0x5003, 0x5003, 0x05, 0x05, .u64, .ro, false, false, 0, [], .ivs [(0, 2 ^ 64 - 1)]⟩,
  /- First mordant ID per context (R350) -/ ⟨0x5010, 0x501F, 0x00, 0xFF, .u16, .rwd, true, true, 0, [], .ivs [(0, 65279)]⟩,
  /- Mordant count per context (R350) -/ ⟨0x5020, 0x502F, 0x00, 0xFF, .u16, .rwd, true, true, 0, [], .ivs [(0, 65280)]⟩]

/-- Entries of the range 0x6000. -/
def odRows6 : List OdRow := [
  /- Fabric node number (R462, R93) -/ ⟨0x6000, 0x6000, 0x01, 0x01, .u16, .ro, false, false, 4095, [], .ivs [(0, 2 ^ 16 - 1)]⟩,
  /- Node number assigned (R462) -/ ⟨0x6000, 0x6000, 0x02, 0x02, .bool, .ro, false, false, 0, [], .ivs [(0, 1)]⟩,
  /- Peer request timeout, µs (R462) -/ ⟨0x6000, 0x6000, 0x03, 0x03, .u32, .rw, true, false, 2000, [], .ivs [(100, 100000)]⟩,
  /- Corrected-symbol limit per lane per ms (R462) -/ ⟨0x6000, 0x6000, 0x04, 0x04, .u32, .rw, true, false, 100000, [], .ivs [(1000, 10000000)]⟩,
  /- Group number reported by the switch (R462) -/ ⟨0x6000, 0x6000, 0x05, 0x05, .u8, .ro, false, false, 0, [], .ivs [(0, 63)]⟩,
  /- Peer requests answered RANGE (R462) -/ ⟨0x6010, 0x6010, 0x01, 0x01, .u64, .ro, false, false, 0, [], .ivs [(0, 2 ^ 64 - 1)]⟩,
  /- Peer requests completed POISON (R462) -/ ⟨0x6010, 0x6010, 0x02, 0x02, .u64, .ro, false, false, 0, [], .ivs [(0, 2 ^ 64 - 1)]⟩,
  /- Messages delivered (R462) -/ ⟨0x6010, 0x6010, 0x03, 0x03, .u64, .ro, false, false, 0, [], .ivs [(0, 2 ^ 64 - 1)]⟩,
  /- Messages refused THROTTLED (R462) -/ ⟨0x6010, 0x6010, 0x04, 0x04, .u64, .ro, false, false, 0, [], .ivs [(0, 2 ^ 64 - 1)]⟩,
  /- Teardowns performed (R462) -/ ⟨0x6010, 0x6010, 0x05, 0x05, .u64, .ro, false, false, 0, [], .ivs [(0, 2 ^ 64 - 1)]⟩,
  /- Expected neighbour per fabric port (R462, R93) -/ ⟨0x6100, 0x6100, 0x00, 0x0F, .u64, .rwd, true, false, 0, [], .mask (2 ^ 60 - 1)⟩,
  /- Port state (R462) -/ ⟨0x6101, 0x6101, 0x00, 0x0F, .enum, .ro, false, false, 0, [], .codes []⟩,
  /- Port width, lanes (R462) -/ ⟨0x6102, 0x6102, 0x00, 0x0F, .u8, .ro, false, false, 0, [], .ivs [(0, 2 ^ 8 - 1)]⟩,
  /- Discovered neighbour per port (R462) -/ ⟨0x6103, 0x6103, 0x00, 0x0F, .u64, .ro, false, false, 0, [], .ivs [(0, 2 ^ 64 - 1)]⟩,
  /- Spare switch-ins and narrowings per port (R462) -/ ⟨0x6104, 0x6104, 0x00, 0x0F, .u32, .ro, false, false, 0, [], .ivs [(0, 2 ^ 32 - 1)]⟩,
  /- Flits replayed per port (R462) -/ ⟨0x6105, 0x6105, 0x00, 0x0F, .u64, .ro, false, false, 0, [], .ivs [(0, 2 ^ 64 - 1)]⟩,
  /- Job per context (R462) -/ ⟨0x6200, 0x620F, 0x00, 0xFF, .u32, .rwd, true, true, 0, [], .ivs [(0, 2 ^ 32 - 1)]⟩,
  /- Window record per WID (R462) -/ ⟨0x6300, 0x630F, 0x00, 0xFF, .blob, .ro, false, false, 0, [], .upTo 48⟩]

/-- Entries of the range 0x7000. -/
def odRows7 : List OdRow := [
  /- Dictionary window open (R486, R93) -/ ⟨0x7000, 0x7000, 0x01, 0x01, .bool, .rw, true, false, 1, [], .ivs [(0, 1)]⟩,
  /- T3 request timeout, µs (R486) -/ ⟨0x7000, 0x7000, 0x02, 0x02, .u32, .rw, true, false, 10000, [], .ivs [(100, 1000000)]⟩,
  /- Corrected-symbol limit per lane per ms (R486) -/ ⟨0x7000, 0x7000, 0x03, 0x03, .u32, .rw, true, false, 100000, [], .ivs [(1000, 10000000)]⟩,
  /- Expected adapter per Urzen port (R486, R93) -/ ⟨0x7100, 0x7100, 0x00, 0x07, .u64, .rwd, true, false, 0, [], .mask (2 ^ 60 - 1)⟩,
  /- Port state (R486) -/ ⟨0x7101, 0x7101, 0x00, 0x07, .enum, .ro, false, false, 0, [], .codes []⟩,
  /- Port width, lanes (R486) -/ ⟨0x7102, 0x7102, 0x00, 0x07, .u8, .ro, false, false, 0, [], .ivs [(0, 2 ^ 8 - 1)]⟩,
  /- Discovered adapter per port (R486) -/ ⟨0x7103, 0x7103, 0x00, 0x07, .u64, .ro, false, false, 0, [], .ivs [(0, 2 ^ 64 - 1)]⟩,
  /- Adapter cache size, KiB (R486) -/ ⟨0x7104, 0x7104, 0x00, 0x07, .u32, .ro, false, false, 0, [], .ivs [(0, 2 ^ 32 - 1)]⟩,
  /- Flits replayed per port (R486) -/ ⟨0x7105, 0x7105, 0x00, 0x07, .u64, .ro, false, false, 0, [], .ivs [(0, 2 ^ 64 - 1)]⟩,
  /- Spare switch-ins per port (R486) -/ ⟨0x7106, 0x7106, 0x00, 0x07, .u32, .ro, false, false, 0, [], .ivs [(0, 2 ^ 32 - 1)]⟩,
  /- Doorbells ignored as behind (R486) -/ ⟨0x7110, 0x7110, 0x01, 0x01, .u64, .ro, false, false, 0, [], .ivs [(0, 2 ^ 64 - 1)]⟩,
  /- Host requests answered RANGE (R486) -/ ⟨0x7110, 0x7110, 0x02, 0x02, .u64, .ro, false, false, 0, [], .ivs [(0, 2 ^ 64 - 1)]⟩,
  /- T3 requests completed POISON (R486) -/ ⟨0x7110, 0x7110, 0x03, 0x03, .u64, .ro, false, false, 0, [], .ivs [(0, 2 ^ 64 - 1)]⟩,
  /- FLAG_NOTE packets sent (R486) -/ ⟨0x7110, 0x7110, 0x04, 0x04, .u64, .ro, false, false, 0, [], .ivs [(0, 2 ^ 64 - 1)]⟩,
  /- Port binding per context (R486) -/ ⟨0x7200, 0x720F, 0x00, 0xFF, .u16, .rwd, true, true, 0, [], .mask 0x7FF⟩,
  /- T3 extents (R486) -/ ⟨0x7300, 0x7300, 0x00, 0x3F, .blob, .rwd, false, false, 0, [], .exact 16 true⟩,
  /- Host window record per HWID (R486) -/ ⟨0x7400, 0x740F, 0x00, 0xFF, .blob, .rwd, true, false, 0, [], .exact 32 true⟩]

/-- Entries of the range 0x8000. -/
def odRows8 : List OdRow := [
  /- Rebuild, evacuation and re-silver rate, MB/s (R423) -/ ⟨0x8000, 0x8000, 0x01, 0x01, .u32, .rw, true, false, 32000, [], .ivs [(1000, 64000)]⟩,
  /- Command timeout, ms (R423) -/ ⟨0x8000, 0x8000, 0x02, 0x02, .u16, .rw, true, false, 100, [], .ivs [(10, 10000)]⟩,
  /- Low-life threshold, per mille (R423) -/ ⟨0x8000, 0x8000, 0x03, 0x03, .u16, .rw, true, false, 100, [], .ivs [(0, 1000)]⟩,
  /- Scrub rate, MB/s (R423) -/ ⟨0x8000, 0x8000, 0x04, 0x04, .u32, .rw, true, false, 2000, [], .ivs [(0, 16000)]⟩,
  /- Retire at zero life (R423) -/ ⟨0x8000, 0x8000, 0x05, 0x05, .bool, .rw, true, false, 1, [], .ivs [(0, 1)]⟩,
  /- Slot state (R423) -/ ⟨0x8001, 0x8001, 0x00, 0x1F, .enum, .ro, false, false, 0, [], .codes []⟩,
  /- Slot command (R423) -/ ⟨0x8002, 0x8002, 0x00, 0x1F, .enum, .wo, false, false, 0, [], .codes [1, 2, 3, 4]⟩,
  /- Last command result (R423) -/ ⟨0x8003, 0x8003, 0x00, 0x1F, .enum, .ro, false, false, 0, [], .codes []⟩,
  /- Cartridge serial (R423) -/ ⟨0x8004, 0x8004, 0x00, 0x1F, .str, .ro, false, false, 0, [], .upTo 32⟩,
  /- Identity outcome (R423) -/ ⟨0x8005, 0x8005, 0x00, 0x1F, .enum, .ro, false, false, 0, [], .codes []⟩,
  /- Group state (R423) -/ ⟨0x8010, 0x8010, 0x00, 0x02, .enum, .ro, false, false, 0, [], .codes []⟩,
  /- Group generation (R423) -/ ⟨0x8011, 0x8011, 0x00, 0x02, .u32, .ro, false, false, 0, [], .ivs [(0, 2 ^ 32 - 1)]⟩,
  /- Cartridge remaining life per slot, per mille (R423, R93) -/ ⟨0x8100, 0x8100, 0x00, 0x1F, .u16, .ro, false, false, 0, [], .ivs [(0, 1000)]⟩,
  /- Media bytes written, reported by the cartridge (R423) -/ ⟨0x8101, 0x8101, 0x00, 0x1F, .u64, .ro, false, false, 0, [], .ivs [(0, 2 ^ 64 - 1)]⟩,
  /- Bytes written by the device (R423) -/ ⟨0x8102, 0x8102, 0x00, 0x1F, .u64, .ro, false, false, 0, [], .ivs [(0, 2 ^ 64 - 1)]⟩,
  /- Rows done in the current rebuild, evacuation or re-silver (R423) -/ ⟨0x8103, 0x8103, 0x00, 0x1F, .u32, .ro, false, false, 0, [], .ivs [(0, 2)]⟩,
  /- Revoked cartridge certificates (R423) -/ ⟨0x8200, 0x8200, 0x01, 0x01, .blob, .rw, true, false, 0, [], .records 32 1024⟩,
  /- Degraded reads (R423) -/ ⟨0x8201, 0x8201, 0x01, 0x01, .u64, .ro, false, false, 0, [], .ivs [(0, 2 ^ 64 - 1)]⟩,
  /- Units repaired (R423) -/ ⟨0x8201, 0x8201, 0x02, 0x02, .u64, .ro, false, false, 0, [], .ivs [(0, 2 ^ 64 - 1)]⟩,
  /- Rebuilds and evacuations completed (R423) -/ ⟨0x8201, 0x8201, 0x03, 0x03, .u64, .ro, false, false, 0, [], .ivs [(0, 2 ^ 64 - 1)]⟩,
  /- Re-silvers completed (R423) -/ ⟨0x8201, 0x8201, 0x04, 0x04, .u64, .ro, false, false, 0, [], .ivs [(0, 2 ^ 64 - 1)]⟩,
  /- Cartridges refused (R423) -/ ⟨0x8201, 0x8201, 0x05, 0x05, .u64, .ro, false, false, 0, [], .ivs [(0, 2 ^ 64 - 1)]⟩]

/-- Entries of the range 0x9000. -/
def odRows9 : List OdRow := [
  /- Key-hash slot state (R519, R93) -/ ⟨0x9000, 0x9000, 0x01, 0x04, .enum, .ro, false, false, 0, [], .codes []⟩,
  /- Device certificate hash (R519) -/ ⟨0x9001, 0x9001, 0x01, 0x01, .blob, .ro, false, false, 0, [], .upTo 32⟩,
  /- Debug fuse open (R519) -/ ⟨0x9002, 0x9002, 0x01, 0x01, .bool, .ro, false, false, 0, [], .ivs [(0, 1)]⟩,
  /- Standby key mirror (R519) -/ ⟨0x9003, 0x9003, 0x01, 0x01, .enum, .ro, false, false, 0, [], .codes []⟩,
  /- Context state (R519) -/ ⟨0x9100, 0x910F, 0x00, 0xFF, .enum, .ro, false, true, 0, [], .codes []⟩,
  /- Context command (R519) -/ ⟨0x9110, 0x911F, 0x00, 0xFF, .enum, .wo, false, true, 0, [], .codes [1, 2, 3]⟩,
  /- Last context command result (R519) -/ ⟨0x9120, 0x912F, 0x00, 0xFF, .enum, .ro, false, true, 0, [], .codes []⟩,
  /- Key generation (R519) -/ ⟨0x9130, 0x913F, 0x00, 0xFF, .u32, .ro, false, true, 0, [], .ivs [(0, 2 ^ 32 - 1)]⟩,
  /- Queue records (R519) -/ ⟨0x9200, 0x920F, 0x00, 0xFF, .blob, .rwd, true, true, 0, [], .exact 512 true⟩,
  /- SPDM request (R519) -/ ⟨0x9300, 0x9300, 0x01, 0x01, .blob, .wo, false, false, 0, [], .upTo 1024⟩,
  /- SPDM response (R519) -/ ⟨0x9300, 0x9300, 0x02, 0x02, .blob, .ro, false, false, 0, [], .upTo 1024⟩,
  /- SPDM requests served (R519) -/ ⟨0x9301, 0x9301, 0x01, 0x01, .u64, .ro, false, false, 0, [], .ivs [(0, 2 ^ 64 - 1)]⟩,
  /- Signatures made (R519) -/ ⟨0x9301, 0x9301, 0x02, 0x02, .u64, .ro, false, false, 0, [], .ivs [(0, 2 ^ 64 - 1)]⟩,
  /- Measurement values (R519) -/ ⟨0x9400, 0x9400, 0x01, 0x08, .blob, .ro, false, false, 0, [], .upTo 32⟩,
  /- Measurement log (R519) -/ ⟨0x9401, 0x9401, 0x00, 0x3F, .blob, .ro, false, false, 0, [], .upTo 1024⟩,
  /- Log entries (R519) -/ ⟨0x9402, 0x9402, 0x01, 0x01, .u16, .ro, false, false, 0, [], .ivs [(0, 1024)]⟩,
  /- Log overflowed (R519) -/ ⟨0x9402, 0x9402, 0x02, 0x02, .bool, .ro, false, false, 0, [], .ivs [(0, 1)]⟩]

/-- Entries of the range 0xA000. -/
def odRowsA : List OdRow := [
  /- Boot image preference (R554, R93) -/ ⟨0xA000, 0xA000, 0x01, 0x01, .enum, .rw, true, false, 0, [], .codes [0, 1]⟩,
  /- Slot booted (R554) -/ ⟨0xA000, 0xA000, 0x02, 0x02, .enum, .ro, false, false, 0, [], .codes []⟩,
  /- Fused security version (R554) -/ ⟨0xA000, 0xA000, 0x03, 0x03, .u8, .ro, false, false, 0, [], .ivs [(0, 64)]⟩,
  /- Commit security state (R554) -/ ⟨0xA000, 0xA000, 0x04, 0x04, .bool, .wo, false, false, 0, [], .ivs [(0, 1)]⟩,
  /- Commit outcome (R554) -/ ⟨0xA000, 0xA000, 0x05, 0x05, .enum, .ro, false, false, 0, [], .codes []⟩,
  /- Firmware version per processor (R554, R93) -/ ⟨0xA100, 0xA100, 0x00, 0x3F, .u32, .ro, false, false, 0, [], .ivs [(0, 2 ^ 32 - 1)]⟩,
  /- Processor state (R554) -/ ⟨0xA101, 0xA101, 0x00, 0x3F, .enum, .ro, false, false, 0, [], .codes []⟩,
  /- Restarts (R554) -/ ⟨0xA102, 0xA102, 0x00, 0x3F, .u32, .ro, false, false, 0, [], .ivs [(0, 2 ^ 32 - 1)]⟩,
  /- Consecutive failed restarts (R554) -/ ⟨0xA103, 0xA103, 0x00, 0x3F, .u8, .ro, false, false, 0, [], .ivs [(0, 3)]⟩,
  /- Processor command (R554) -/ ⟨0xA110, 0xA110, 0x00, 0x3F, .enum, .wo, false, false, 0, [], .codes [1]⟩,
  /- Image target slot (R554) -/ ⟨0xA200, 0xA200, 0x01, 0x01, .enum, .rw, false, false, 0, [], .codes [0, 1, 2]⟩,
  /- Image store command (R554) -/ ⟨0xA200, 0xA200, 0x02, 0x02, .enum, .wo, false, false, 0, [], .codes [1, 2]⟩,
  /- Image chunk (R554) -/ ⟨0xA200, 0xA200, 0x03, 0x03, .blob, .wo, false, false, 0, [], .upTo 1024⟩,
  /- Image store outcome (R554) -/ ⟨0xA200, 0xA200, 0x04, 0x04, .enum, .ro, false, false, 0, [], .codes []⟩,
  /- Verified version in slots A, B, recovery (R554) -/ ⟨0xA201, 0xA201, 0x01, 0x03, .u32, .ro, false, false, 0, [], .ivs [(0, 2 ^ 32 - 1)]⟩,
  /- Live update (R554) -/ ⟨0xA210, 0xA210, 0x01, 0x01, .u8, .wo, false, false, 0, [], .ivs [(0, 63), (255, 255)]⟩,
  /- Live update outcome (R554) -/ ⟨0xA210, 0xA210, 0x02, 0x02, .enum, .ro, false, false, 0, [], .codes []⟩,
  /- Processor at which the update stopped (R554) -/ ⟨0xA210, 0xA210, 0x03, 0x03, .u8, .ro, false, false, 255, [], .ivs [(0, 2 ^ 8 - 1)]⟩,
  /- Scribe slice length, µs (R554) -/ ⟨0xA300, 0xA300, 0x01, 0x01, .u16, .rw, true, false, 50, [], .ivs [(5, 10000)]⟩,
  /- Fall-back loop per die (R554) -/ ⟨0xA301, 0xA301, 0x00, 0x27, .enum, .ro, false, false, 0, [], .codes []⟩]

/-- Entries of the range 0xB000. -/
def odRowsB : List OdRow := [
  /- Device state (R582, R93) -/ ⟨0xB000, 0xB000, 0x01, 0x01, .enum, .ro, false, false, 0, [], .codes []⟩,
  /- Last stage completed (R582, R93) -/ ⟨0xB000, 0xB000, 0x02, 0x02, .u8, .ro, false, false, 0, [], .ivs [(0, 6)]⟩,
  /- Degradation causes (R582) -/ ⟨0xB000, 0xB000, 0x03, 0x03, .u32, .ro, false, false, 0, [], .ivs [(0, 2 ^ 32 - 1)]⟩,
  /- Start kind (R582) -/ ⟨0xB000, 0xB000, 0x04, 0x04, .enum, .ro, false, false, 0, [], .codes []⟩,
  /- Duration of the last bring-up, ms (R582) -/ ⟨0xB000, 0xB000, 0x05, 0x05, .u32, .ro, false, false, 0, [], .ivs [(0, 2 ^ 32 - 1)]⟩,
  /- Force full training (R582) -/ ⟨0xB001, 0xB001, 0x01, 0x01, .bool, .rw, true, false, 0, [], .ivs [(0, 1)]⟩,
  /- Clear repair marks at next bring-up (R582) -/ ⟨0xB001, 0xB001, 0x02, 0x02, .bool, .wo, false, false, 0, [], .ivs [(0, 1)]⟩,
  /- Fail physical engine (R582) -/ ⟨0xB001, 0xB001, 0x03, 0x03, .u64, .wo, false, false, 0, [], .mask 0xFFF1FFF3F07⟩,
  /- Run-time known-answer interval, s (R582) -/ ⟨0xB001, 0xB001, 0x04, 0x04, .u32, .rw, true, false, 3600, [], .ivs [(0, 86400)]⟩,
  /- Minimum AGREED fabric ports (R582) -/ ⟨0xB001, 0xB001, 0x05, 0x05, .u8, .rw, true, false, 0, [], .ivs [(0, 16)]⟩,
  /- Minimum AGREED Urzen ports (R582) -/ ⟨0xB001, 0xB001, 0x06, 0x06, .u8, .rw, true, false, 0, [], .ivs [(0, 8)]⟩,
  /- Saved-settings half in use (R582) -/ ⟨0xB002, 0xB002, 0x01, 0x01, .enum, .ro, false, false, 0, [], .codes []⟩,
  /- Saved-settings generation (R582) -/ ⟨0xB002, 0xB002, 0x02, 0x02, .u32, .ro, false, false, 0, [], .ivs [(0, 2 ^ 32 - 1)]⟩,
  /- Stage reports 0–6 (R582, R93) -/ ⟨0xB010, 0xB016, 0x01, 0x01, .blob, .ro, false, false, 0, [], .upTo 1024⟩,
  /- Repair map per die, subindex per cluster (R582) -/ ⟨0xB100, 0xB117, 0x00, 0x11, .u64, .ro, false, false, 0x76543210, [], .ivs [(0, 2 ^ 64 - 1)]⟩,
  /- Run-time switch-ins (R582) -/ ⟨0xB200, 0xB200, 0x01, 0x01, .u64, .ro, false, false, 0, [], .ivs [(0, 2 ^ 64 - 1)]⟩,
  /- Logical engines withdrawn (R582) -/ ⟨0xB200, 0xB200, 0x02, 0x02, .u16, .ro, false, false, 0, [], .ivs [(0, 3456)]⟩,
  /- Run-time known-answer runs (R582) -/ ⟨0xB200, 0xB200, 0x03, 0x03, .u64, .ro, false, false, 0, [], .ivs [(0, 2 ^ 64 - 1)]⟩,
  /- Run-time known-answer failures (R582) -/ ⟨0xB200, 0xB200, 0x04, 0x04, .u64, .ro, false, false, 0, [], .ivs [(0, 2 ^ 64 - 1)]⟩,
  /- Streams moved between Feeds (R582) -/ ⟨0xB200, 0xB200, 0x05, 0x05, .u64, .ro, false, false, 0, [], .ivs [(0, 2 ^ 64 - 1)]⟩]

/-- Entries of the range 0xC000. -/
def odRowsC : List OdRow := [
  /- Checkpoint interval K, steps (R619, R93) -/ ⟨0xC000, 0xC000, 0x01, 0x01, .u8, .rw, true, false, 16, [], .ivs [(1, 64)]⟩,
  /- Shadowing length M, steps (R619, R93) -/ ⟨0xC000, 0xC000, 0x02, 0x02, .u8, .rw, true, false, 8, [], .ivs [(1, 64)]⟩,
  /- Composition deadline, µs (R619) -/ ⟨0xC000, 0xC000, 0x03, 0x03, .u16, .rw, true, false, 150, [], .ivs [(10, 150)]⟩,
  /- Default shadow threshold, units of 2^−16 (R619) -/ ⟨0xC000, 0xC000, 0x04, 0x04, .u16, .rw, true, false, 655, [], .ivs [(1, 65535)]⟩,
  /- Commits completed (R619) -/ ⟨0xC001, 0xC001, 0x01, 0x01, .u64, .ro, false, false, 0, [], .ivs [(0, 2 ^ 64 - 1)]⟩,
  /- Full mirror copies (R619) -/ ⟨0xC001, 0xC001, 0x02, 0x02, .u64, .ro, false, false, 0, [], .ivs [(0, 2 ^ 64 - 1)]⟩,
  /- Checkpoints completed (R619) -/ ⟨0xC001, 0xC001, 0x03, 0x03, .u64, .ro, false, false, 0, [], .ivs [(0, 2 ^ 64 - 1)]⟩,
  /- Shadow mismatches (R619) -/ ⟨0xC001, 0xC001, 0x04, 0x04, .u64, .ro, false, false, 0, [], .ivs [(0, 2 ^ 64 - 1)]⟩,
  /- Compositions completed (R619) -/ ⟨0xC001, 0xC001, 0x05, 0x05, .u64, .ro, false, false, 0, [], .ivs [(0, 2 ^ 64 - 1)]⟩,
  /- Requests held by compositions (R619) -/ ⟨0xC001, 0xC001, 0x06, 0x06, .u64, .ro, false, false, 0, [], .ivs [(0, 2 ^ 64 - 1)]⟩,
  /- Requests aborted and reissued by compositions (R619) -/ ⟨0xC001, 0xC001, 0x07, 0x07, .u64, .ro, false, false, 0, [], .ivs [(0, 2 ^ 64 - 1)]⟩,
  /- Messages suppressed for shadows (R619) -/ ⟨0xC001, 0xC001, 0x08, 0x08, .u64, .ro, false, false, 0, [], .ivs [(0, 2 ^ 64 - 1)]⟩,
  /- Shadow state per context (R619) -/ ⟨0xC100, 0xC10F, 0x00, 0xFF, .enum, .ro, false, true, 0, [], .codes []⟩,
  /- Shadow command per context (R619) -/ ⟨0xC110, 0xC11F, 0x00, 0xFF, .enum, .wo, false, true, 0, [], .codes [1, 2]⟩,
  /- Shadow command outcome (R619) -/ ⟨0xC120, 0xC12F, 0x00, 0xFF, .enum, .ro, false, true, 0, [], .codes []⟩,
  /- Shadow run count per context (R619) -/ ⟨0xC130, 0xC13F, 0x00, 0xFF, .u32, .ro, false, true, 0, [], .ivs [(0, 2 ^ 32 - 1)]⟩,
  /- Rebind record per context (R619) -/ ⟨0xC200, 0xC20F, 0x00, 0xFF, .blob, .rwd, false, true, 0, [], .records 16 256⟩,
  /- Import target per WID (R619) -/ ⟨0xC210, 0xC21F, 0x00, 0xFF, .u64, .ro, false, false, 0, [], .ivs [(0, 2 ^ 64 - 1)]⟩,
  /- Duration of the last composition per context, µs (R619) -/ ⟨0xC220, 0xC22F, 0x00, 0xFF, .u32, .ro, false, true, 0, [], .ivs [(0, 2 ^ 32 - 1)]⟩]

/-- Entries of the range 0xD000. -/
def odRowsD : List OdRow := [
  /- Configured module power limit, W (R642, R93) -/ ⟨0xD000, 0xD000, 0x01, 0x01, .u16, .rwd, true, false, 2600, [], .ivs [(1200, 2800)]⟩,
  /- Input power, 1 ms average, W (R642) -/ ⟨0xD000, 0xD000, 0x02, 0x02, .u16, .ro, false, false, 0, [], .ivs [(0, 2 ^ 16 - 1)]⟩,
  /- Input voltage, mV (R642) -/ ⟨0xD000, 0xD000, 0x03, 0x03, .u16, .ro, false, false, 0, [], .ivs [(0, 2 ^ 16 - 1)]⟩,
  /- Engine-die voltage ceiling, mV (R642) -/ ⟨0xD000, 0xD000, 0x04, 0x04, .u16, .ro, false, false, 850, [], .ivs [(600, 850)]⟩,
  /- Pace governor mode (R642, R93) -/ ⟨0xD001, 0xD001, 0x01, 0x01, .enum, .rw, true, false, 0, [], .codes [0, 1]⟩,
  /- Manual voltage request, mV (R642) -/ ⟨0xD001, 0xD001, 0x02, 0x02, .u16, .rw, true, false, 720, [], .ivs [(600, 850)]⟩,
  /- Junction limit, °C (R642) -/ ⟨0xD002, 0xD002, 0x01, 0x01, .u8, .rw, true, false, 90, [], .ivs [(70, 95)]⟩,
  /- Hottest sensor per die, 0.01 °C (R642) -/ ⟨0xD003, 0xD003, 0x00, 0x27, .i32, .ro, false, false, 0, [], .ivs [(0, 2 ^ 32 - 1)]⟩,
  /- Pace per die, Mbeat/s (R642) -/ ⟨0xD004, 0xD004, 0x00, 0x27, .u32, .ro, false, false, 0, [], .ivs [(0, 2 ^ 32 - 1)]⟩,
  /- Core voltage per die, mV (R642) -/ ⟨0xD005, 0xD005, 0x00, 0x27, .u16, .ro, false, false, 0, [], .ivs [(0, 2 ^ 16 - 1)]⟩,
  /- Coolant inlet, 0.01 °C (R642) -/ ⟨0xD006, 0xD006, 0x01, 0x01, .i32, .ro, false, false, 0, [], .ivs [(0, 2 ^ 32 - 1)]⟩,
  /- Coolant outlet, 0.01 °C (R642) -/ ⟨0xD006, 0xD006, 0x02, 0x02, .i32, .ro, false, false, 0, [], .ivs [(0, 2 ^ 32 - 1)]⟩,
  /- Thermal voltage reductions (R642) -/ ⟨0xD007, 0xD007, 0x01, 0x01, .u64, .ro, false, false, 0, [], .ivs [(0, 2 ^ 64 - 1)]⟩,
  /- Fast clamps (R642) -/ ⟨0xD007, 0xD007, 0x02, 0x02, .u64, .ro, false, false, 0, [], .ivs [(0, 2 ^ 64 - 1)]⟩,
  /- Thermal trips (R642) -/ ⟨0xD007, 0xD007, 0x03, 0x03, .u64, .ro, false, false, 0, [], .ivs [(0, 2 ^ 64 - 1)]⟩,
  /- Thermal shutdowns (R642) -/ ⟨0xD007, 0xD007, 0x04, 0x04, .u64, .ro, false, false, 0, [], .ivs [(0, 2 ^ 64 - 1)]⟩,
  /- Unsignalled PFAILs (R642) -/ ⟨0xD007, 0xD007, 0x05, 0x05, .u64, .ro, false, false, 0, [], .ivs [(0, 2 ^ 64 - 1)]⟩,
  /- Cause of the last FAULT_L (R642) -/ ⟨0xD008, 0xD008, 0x01, 0x01, .enum, .ro, false, false, 0, [], .codes []⟩]

/-- Entries of the range 0xE000. -/
def odRowsE : List OdRow := [
  /- Dictionary generation (R93) -/ ⟨0xE000, 0xE000, 0x01, 0x01, .u32, .ro, false, false, 0, [], .ivs [(0, 2 ^ 32 - 1)]⟩,
  /- Last inked draft ID (R93) -/ ⟨0xE000, 0xE000, 0x02, 0x02, .u32, .ro, false, false, 0, [], .ivs [(0, 2 ^ 32 - 1)]⟩,
  /- Draft idle timeout, s (R93) -/ ⟨0xE000, 0xE000, 0x03, 0x03, .u16, .rw, true, false, 60, [], .ivs [(5, 3600)]⟩,
  /- Open drafts (R93) -/ ⟨0xE000, 0xE000, 0x04, 0x04, .u8, .ro, false, false, 0, [], .ivs [(0, 8)]⟩,
  /- Restore defaults (R93) -/ ⟨0xE000, 0xE000, 0x05, 0x05, .bool, .wo, false, false, 0, [], .ivs [(0, 1)]⟩]

/-- Entries of the range 0xF000. -/
def odRowsF : List OdRow := [
  /- Event log (R93) -/ ⟨0xF000, 0xF000, 0x01, 0x01, .blob, .ro, false, false, 0, [], .upTo 1024⟩,
  /- Dictionary counters: requests, clamps, refusals, ignored window GOs (R93) -/ ⟨0xF001, 0xF001, 0x01, 0x04, .u64, .ro, false, false, 0, [], .ivs [(0, 2 ^ 64 - 1)]⟩]

/-- The entry map (R93 and the map of each chapter). -/
def odRows : List OdRow :=
  odRows1 ++ odRows2 ++ odRows2a ++ odRows3 ++ odRows3a ++ odRows4 ++ odRows5 ++ odRows6 ++ odRows7 ++ odRows8 ++ odRows9 ++ odRowsA ++ odRowsB ++ odRowsC ++ odRowsD ++ odRowsE ++ odRowsF


end Sys2Proof.Machine
end

