-- ==== Sys2Proof/Machine/Ops.lean ====
section
/-! DEFINITION. Operations that every family uses: the dictionary's numbers and bytes, counters, the event log, what the device
sends, free values, location codes and the device's readiness. -/

namespace Sys2Proof.Machine

/-! ## What a command answers -/

/-- A state that a command leaves: the queue of waiting commands and the reference oscillator's count are none of its business. -/
def keepQueue (s t : State) : State := { t with pending := s.pending, now := s.now }

/-- A command's outcome. -/
def effect (s t : State) : Host.Outcome State Fault Refusal := .next (keepQueue s t)

/-- The outcome of a command that needs power: a device whose rails are off does nothing (R556, R620, R630; log entry 3). -/
def effectOn (s t : State) : Host.Outcome State Fault Refusal := effect s (if s.power.on then t else s)

/-! ## Entries of the dictionary -/

/-- Table key of OD index.sub. -/
def odKey (idx sub : Nat) : Nat := idx * 256 + sub

/-- Table key of a per-context table's entry (R49), and of the tables keyed by a window number. -/
def odCtx (base c : Nat) : Nat := odKey (base + c / 256) (c % 256)

/-- The row of the entry map for a key (R50). -/
def odRow (key : Nat) : Option OdRow :=
  odRows.find? (fun r => decide (r.i0 ≤ key / 256) && decide (key / 256 ≤ r.i1) && decide (r.s0 ≤ key % 256) && decide (key % 256 ≤ r.s1))

/-- Default of a number entry (R53). -/
def odDefault (key : Nat) : Nat :=
  match odRow key with
  | some r => r.dflt
  | none => 0

/-- The number an entry holds. -/
def odGet (s : State) (key : Nat) : Nat := (tblFind s.od key).getD (odDefault key)

/-- Set the number of an entry. -/
def odSet (s : State) (key v : Nat) : State := { s with od := tblSet s.od key v }

/-- Add to a counter entry of 64 bits. -/
def odBump (s : State) (key n : Nat) : State := odSet s key ((odGet s key + n) % 2 ^ 64)

/-- The bytes of a STR or BLOB entry. -/
def blobGet (s : State) (key : Nat) : Bytes :=
  (tblFind s.blobs key).getD (match odRow key with | some r => r.dbytes | none => [])

/-- Set the bytes of an entry. -/
def blobSet (s : State) (key : Nat) (b : Bytes) : State := { s with blobs := tblSet s.blobs key b }

/-! ## Generations (R87, R89) -/

/-- The dictionary generation in force (R92). -/
def genNow (s : State) : Nat := odGet s (odKey 0xE000 1)

/-- The numbers that a generation had of the entries that have changed since: for each the one of the earliest change. -/
def genView (s : State) (g : Nat) : Tbl (Option Nat) :=
  (s.dict.before.dropWhile (fun b => decide (b.1 ≠ g))).foldr (fun b v => b.2.foldl (fun v e => tblSet v e.1 e.2) v) []

/-- Put numbers into entries, none for the default. -/
def putNums (od : Tbl Nat) (v : Tbl (Option Nat)) : Tbl Nat :=
  v.foldl (fun od e => match e.2 with | some n => tblSet od e.1 n | none => tblErase od e.1) od

/-- The number of an entry under a generation. -/
def odAt (s : State) (g key : Nat) : Nat :=
  match tblFind (genView s g) key with
  | some v => v.getD (odDefault key)
  | none => odGet s key

/-- The state as a request of a generation finds it (R87): the entries that have changed since stand at their numbers of then. -/
def inGen (s : State) (g : Nat) : State :=
  if genView s g = [] then s else { s with od := putNums s.od (genView s g) }

/-- What a request has left, with the entries that have changed since its generation at their numbers in force before it. -/
def outGen (s : State) (g : Nat) (t : State) : State :=
  if genView s g = [] then t else { t with od := putNums t.od ((genView s g).map (fun e => (e.1, tblFind s.od e.1))) }

/-- What a request does under the generation stamped on it (R87). -/
def underGen (s : State) (g : Nat) (act : State → State) : State := outGen s g (act (inGen s g))

/-! ## Log, output, free values -/

/-- Time stamp: nanoseconds since the start of stage 1, 0 before it (R349, R569). -/
def stampNow (s : State) : Nat :=
  match s.boot.stamp0 with
  | some t => s.now - t
  | none => 0

/-- Write an event to the event log. -/
def logEv (s : State) (name : String) (args : List Nat) : State := { s with log := ⟨name, stampNow s, args⟩ :: s.log }

/-- Send something. -/
def emit (s : State) (m : Msg) : State := { s with out := s.out ++ [m] }

/-- The next free value (log entry 5). -/
def draw (s : State) : Nat × State := (Config.freeNat s.free, { s with free := s.free + 1 })

/-- A number that stands for an event's name in `Config.eventBytes`. -/
def nameCode (name : String) : Nat := name.toList.foldl (fun n c => n * 256 + c.toNat) 0

/-- Header of a Vervo message (R64). -/
def vervoHeader (op count seq draft status reason gen : Nat) : Bytes :=
  natLe 1 1 ++ natLe 1 op ++ natLe 2 count ++ natLe 4 seq ++ natLe 2 draft ++ natLe 1 status ++ natLe 1 reason ++ natLe 4 gen

/-! ## The field network (R61, R62) -/

/-- The device's address: fe80::/64 with the modified EUI-64 of its MAC address (R61). DESIGN CHOICE (log entry 94): bits [47:40] of OD
0x1001.01 are the address's first octet. -/
def ownAddress : Ip6 :=
  let m := Config.mac.toNat
  BitVec.ofNat 128 (0xFE80 * 2 ^ 112 + ((m / 2 ^ 24) ^^^ 0x020000) * 2 ^ 40 + 0xFFFE * 2 ^ 24 + m % 2 ^ 24)

/-- The address to which NOTIFY goes: ff02::1 (R74). -/
def allNodes : Ip6 := BitVec.ofNat 128 (0xFF02 * 2 ^ 112 + 1)

/-- The UDP port of Vervo (R61). -/
def vervoPort : Nat := 48816

/-- The sum of the 16-bit words of a string, its first byte the higher half. -/
def wordSum (b : Bytes) : Nat := (b.zipIdx.map (fun x => x.1.toNat * (if x.2 % 2 = 0 then 256 else 1))).sum

/-- A UDP checksum over IPv6 (R61): the complement of the ones' complement sum of the pseudo-header, the UDP header and the data; 0
stands as all ones. -/
def udpSum (src dst : Ip6) (b : Bytes) : Nat :=
  let n := 8 + b.length
  let t := wordSum (natBe 16 src.toNat) + wordSum (natBe 16 dst.toNat) + 2 * n + 17 + 2 * vervoPort + wordSum b
  let r := 0xFFFF - (if t = 0 then 0 else (t - 1) % 0xFFFF + 1)
  if r = 0 then 0xFFFF else r

/-- A datagram of the device: hop limit 255, port 48,816, with checksum (R61, R62). -/
def datagram (dst : Ip6) (b : Bytes) : Msg := .udp dst 255 vervoPort (udpSum ownAddress dst b) b

/-- Send a NOTIFY to ff02::1 in the device's own SEQ series and keep it for its repeats (R74). -/
def sendNotify (s : State) (items : Nat) (body : Bytes) : State :=
  let b := vervoHeader 0x10 items s.dict.notifySeq 0 0 0 0 ++ body
  let s := emit s (datagram allNodes b)
  { s with dict.notifies := s.dict.notifies ++ [⟨s.dict.notifySeq, b, 3⟩],
           dict.notifySeq := (s.dict.notifySeq + 1) % 2 ^ 32 }

/-- Log an event that is also sent as a NOTIFY (R74): one item (R65), the event as OD 0xF000.01 holds it, of at most 1,024 bytes
(log entry 95). -/
def logNotify (s : State) (name : String) (args : List Nat) : State :=
  let s := logEv s name args
  let b := (Config.eventBytes (nameCode name) (stampNow s) args).take 1024
  sendNotify s 1 (natLe 2 0xF000 ++ natLe 1 1 ++ natLe 1 9 ++ natLe 2 b.length ++ natLe 2 0 ++ padTo (roundUp b.length 4) b)

/-! ## Places (R25, R35) -/

/-- A location code of this node (R25): NODE is the node number of OD 0x6000.01, 0 until one is assigned. -/
def locCode (s : State) (level die kind cluster engine phys : Nat) : Nat :=
  level + die * 2 ^ 8 + kind * 2 ^ 16 + cluster * 2 ^ 19 + engine * 2 ^ 24 + phys * 2 ^ 28 + field (odGet s (odKey 0x6000 1)) 0 12 * 2 ^ 32

/-- Location code of a die (level 3). -/
def locDie (s : State) (d : Nat) : Nat := locCode s 3 d 0 0 0 0

/-- Location code of the device (level 4). -/
def locDevice (s : State) : Nat := locCode s 4 0 0 0 0 0

/-- Code of an engine kind (R25). -/
def engKindCode : EngKind → Nat
  | .nib => 0
  | .quill => 1
  | .feed => 2
  | .inkwell => 3
  | .scribe => 4
  | .mgmt => 5

/-- Location code of an engine. -/
def locEngine (s : State) (e : Eng) : Nat := locCode s 1 e.die.val (engKindCode e.kind) e.cluster.val e.engine.val 0

/-- Does an engine belong to a cluster (R318)? -/
def inCluster (e : Eng) : Bool :=
  match e.kind with
  | .nib => true
  | .quill => true
  | .feed => true
  | _ => false

/-- The caching agent of an engine's cluster (R288), none where its cluster has no cache (R27). -/
def cacheAgent (e : Eng) : Option Nat :=
  match e.kind with
  | .nib => some (e.die.val * 14 + e.cluster.val)
  | .quill => some (e.die.val * 14 + 12 + e.cluster.val % 2)
  | _ => none

/-- Die of a firmware processor (R520). -/
def procDie (p : Nat) : Nat := if p < 48 then p / 2 else if p < 56 then 24 + (p - 48) else if p < 62 then 32 + (p - 56) else 38 + (p - 62)

/-- Optical die of a fabric port (R32). -/
def portDie (p : Nat) : Nat := if p < 12 then 32 + p / 3 else if p < 14 then 36 else 37

/-- Optical die of an Urzen port (R32). -/
def urzenDie (p : Nat) : Nat := if p < 4 then 32 + p else if p < 6 then 36 else 37

/-! ## The repair map (R575) -/

/-- The repair-map record of a cluster: Nib clusters 0 to 11, Quill clusters 12 and 13, Feed clusters 14 to 17. -/
def mapRecord (s : State) (die cluster : Nat) : Nat := odGet s (odKey (0xB100 + die) cluster)

/-- Physical index of a logical engine, 15 where it is withdrawn. -/
def physOf (s : State) (die cluster e : Nat) : Nat := field (mapRecord s die cluster) (4 * e) 4

/-- A whole cluster is withdrawn. -/
def clusterGone (s : State) (die cluster : Nat) : Bool := bitOf (mapRecord s die cluster) 41

/-- A logical engine takes work. -/
def engineUp (s : State) (die cluster e : Nat) : Bool := !clusterGone s die cluster && decide (physOf s die cluster e ≠ 15)

/-- Some engine of a cluster takes work. -/
def clusterUp (s : State) (die cluster : Nat) : Bool := (List.range 8).any (engineUp s die cluster)

/-! ## Readiness -/

/-- Stage 0 has closed and a management die serves the dictionary (R555, R581). -/
def dictUp (s : State) : Bool :=
  s.power.on && !s.boot.halted && (match s.boot.next with | some n => decide (1 ≤ n) | none => false) && s.boot.activeDie.isSome

/-- State of a context (R490): 0 FREE, 1 ACTIVE, 2 TORN, 3 RELEASING. -/
def ctxState (s : State) (c : Nat) : Nat := if c = 0 then 0 else odGet s (odCtx 0x9100 c)

/-- Is the context ACTIVE? -/
def ctxActive (s : State) (c : Nat) : Bool := ctxState s c = 1

/-- The device state of OD 0xB000.01: 0 BRINGUP, 1 READY, 2 READY_DEGRADED, 3 FAILED. -/
def devState (s : State) : Nat := odGet s (odKey 0xB000 1)

/-- Admission is open (R567, R229, R233). -/
def admitting (s : State) : Bool := s.power.on && s.tier.admitting

/-- The cut of a flush or of a planned stop is over: no write is acknowledged any more (R229, R233). -/
def cutOver (s : State) : Bool :=
  decide (odGet s (odKey 0x3006 6) = 1) ||
    (match s.tier.pfail with
     | .idle => false
     | .asserted => false
     | _ => true)

/-- Set or clear FAULT_L with its cause: 1 RECOVERY_FAILED, 2 THERMAL, 3 LEAK, 4 DEVICE_FAILED; once asserted it stays (R636). -/
def assertFault (s : State) (cause : Nat) : State :=
  odSet { s with power.faultLow := true } (odKey 0xD008 1) cause

/-- The device becomes FAILED: it admits nothing more, and FAULT_L is asserted (R47, R567, R636). -/
def deviceFailed (s : State) : State :=
  let s := odSet s (odKey 0xB000 1) 3
  let s := { s with tier.admitting := false }
  if s.power.faultLow then s else assertFault s 4

/-- Bring OD 0xB000.01 to READY or READY_DEGRADED under the causes of OD 0xB000.03 (R568). -/
def settleState (s : State) : State :=
  if devState s = 1 ∨ devState s = 2 then
    odSet s (odKey 0xB000 1) (if odGet s (odKey 0xB000 3) = 0 then 1 else 2)
  else s

/-- Set or clear one cause of degradation (R568). -/
def setCause (s : State) (bit : Nat) (on : Bool) : State :=
  let v := odGet s (odKey 0xB000 3)
  let cleared := if v.testBit bit then v - 2 ^ bit else v
  settleState (odSet s (odKey 0xB000 3) (if on then cleared + 2 ^ bit else cleared))

end Sys2Proof.Machine
end

