-- ==== Sys2Proof/Machine/Flags.lean ====
section
/-! DEFINITION. Status codes and their precedence (R18, R20), reasons (R68), the status flags of a context (R342-R347) and the
completion records (R169, R207, R265, R337, R375, R450). -/

namespace Sys2Proof.Machine

/-- The code of a status (R18). -/
def statusCode : Status → Nat
  | .ok => 0x00
  | .short => 0x01
  | .clamped => 0x02
  | .promoted => 0x03
  | .range => 0x10
  | .faultUnresolved => 0x11
  | .withdrawn => 0x12
  | .reservedLength => 0x13
  | .poison => 0x20
  | .torn => 0x21
  | .orphaned => 0x22
  | .quota => 0x30
  | .throttled => 0x31
  | .scopeMismatch => 0x40
  | .retry => 0x50

/-- Place of a status in the order of R20; SCOPE_MISMATCH and RETRY never complete anything (R21). -/
def statusRank : Status → Nat
  | .torn => 0
  | .poison => 1
  | .orphaned => 2
  | .reservedLength => 3
  | .range => 4
  | .quota => 5
  | .throttled => 6
  | .withdrawn => 7
  | .faultUnresolved => 8
  | .promoted => 9
  | .short => 10
  | .clamped => 11
  | .ok => 12
  | .scopeMismatch => 13
  | .retry => 14

/-- The first of two statuses in the order of R20. -/
def statusFirst (a b : Status) : Status := if statusRank a ≤ statusRank b then a else b

/-- The first of several statuses, OK where there is none (R19, R20). -/
def statusOf (l : List Status) : Status := l.foldl statusFirst .ok

/-- The status that a code names; a code outside R18 is taken as a failure (R22): POISON. -/
def statusFromCode (n : Nat) : Status :=
  match [Status.ok, .short, .clamped, .promoted, .range, .faultUnresolved, .withdrawn, .reservedLength, .poison, .torn,
    .orphaned, .quota, .throttled].find? (fun x => statusCode x = n) with
  | some x => x
  | none => .poison

/-- The code of a reason (R68). -/
def reasonCode : Reason → Nat
  | .none => 0x00
  | .noEntry => 0x01
  | .access => 0x02
  | .draftOnly => 0x03
  | .type => 0x04
  | .enumValue => 0x05
  | .encoding => 0x06
  | .tooLong => 0x07
  | .draftFull => 0x08
  | .noDraft => 0x09
  | .crossField => 0x0A
  | .inkAborted => 0x0B
  | .busy => 0x0C
  | .frame => 0x0D
  | .gap => 0x0E
  | .noRoom => 0x0F

/-! ## Packets on links -/

/-- Header of an Urzen packet (R470). -/
def urzenHdr (utype status slots ctx tag addr lenm1 xarg ticket : Nat) : Nat :=
  utype + status * 2 ^ 8 + slots * 2 ^ 16 + ctx * 2 ^ 24 + tag * 2 ^ 40 + addr * 2 ^ 64 + lenm1 * 2 ^ 128 +
    xarg * 2 ^ 152 + ticket * 2 ^ 176

/-- Data slots of 16 bytes that carry a byte string, and the string padded to them. -/
def slotsOf (b : Bytes) : Nat := ceilDiv b.length 16

/-- Class of an Urzen packet (R465, R471): 0 REQ, 1 RSP, 2 SNP, 3 WB, 4 CTL. -/
def urzenClass (utype : Nat) : Nat :=
  if utype = 0x30 ∨ utype = 0x31 ∨ (1 ≤ utype ∧ utype ≤ 6) then 0
  else if 0x10 ≤ utype ∧ utype ≤ 0x14 then 2
  else if utype = 8 ∨ utype = 9 then 3
  else if 0x40 ≤ utype ∧ utype ≤ 0x43 then 4
  else 1

/-- A link of the device. -/
def linkOf (s : State) (l : Nat) : LinkSt := tblGet idleLink s.fab.links l

/-- Put back a link. -/
def setLink (s : State) (l : Nat) (x : LinkSt) : State := { s with fab.links := tblSet s.fab.links l x }

/-- Change one number of a list. -/
def listSet (l : List Nat) (i v : Nat) : List Nat := l.take i ++ [v] ++ l.drop (i + 1)

/-- State of a fabric port and of an Urzen port (R435): 2 is AGREED. -/
def portState (s : State) (p : Nat) : Nat := odGet s (odKey 0x6101 p)

/-- State of an Urzen port. -/
def urzenState (s : State) (p : Nat) : Nat := odGet s (odKey 0x7101 p)

/-- FTYPE of a flit with the credits that it returns, as they stand in its first 8 bytes (R426). -/
def flitHead (ftype cls count : Nat) : Nat := ftype + cls * 2 ^ 40 + count * 2 ^ 44

/-- A flit leaves: it takes the next SEQ, and the last 4,096 are kept for replay (R427). -/
def keepFlit (x : LinkSt) (head : Nat) (payload : Bytes) : LinkSt :=
  { x with replay := ((x.txSeq, head, payload) :: x.replay).take 4096, txSeq := (x.txSeq + 1) % 65536 }

/-- A packet leaves on a link in a flit of its own (R427). -/
def linkSend (s : State) (link hdr : Nat) (data : Bytes) : State :=
  emit (setLink s link (keepFlit (linkOf s link) (flitHead 1 0 0) (natLe 32 hdr ++ data))) (.packet link hdr data)

/-- Hand a packet to an Urzen link: a packet of d data slots costs 2 + d credits of its class, RSP is never credited, and a
packet without credits waits behind the earlier ones of its class (R466). -/
def sendPacket (s : State) (link cls hdr : Nat) (data : Bytes) : State :=
  let x := linkOf s link
  let cost := 2 + slotsOf data
  if cls = 1 then linkSend s link hdr data
  else if x.waiting.any (fun w => decide (w.1 = cls)) ∨ x.credits.getD cls 0 < cost then
    setLink s link { x with waiting := x.waiting ++ [(cls, hdr, data)] }
  else linkSend (setLink s link { x with credits := listSet x.credits cls (x.credits.getD cls 0 - cost) }) link hdr data

/-- Send an Urzen packet on a port that is AGREED (R469); links 16 to 23 are the Urzen ports. -/
def sendUrzen (s : State) (port utype status ctx tag addr lenm1 xarg ticket : Nat) (data : Bytes) : State :=
  if urzenState s port = 2 then
    sendPacket s (16 + port) (urzenClass utype) (urzenHdr utype status (slotsOf data) ctx tag addr lenm1 xarg ticket)
      (padTo (16 * slotsOf data) data)
  else s

/-- The mask of ports whose hosts may reach a context, and its host port (R472). -/
def ctxMask (s : State) (c : Nat) : Nat := odGet s (odCtx 0x7200 c) % 256

/-- The host port of a context (R472). -/
def ctxHostPort (s : State) (c : Nat) : Nat := field (odGet s (odCtx 0x7200 c)) 8 3

/-- AGREED Urzen ports of a context's mask. -/
def ctxPorts (s : State) (c : Nat) : List Nat :=
  (List.range 8).filter (fun p => (ctxMask s c).testBit p && urzenState s p = 2)

/-! ## Status flags (R342-R347) -/

/-- The flag state of flag `n` of a context. -/
def flagGet (s : State) (c n : Nat) : FlagSt := tblGet ⟨0, 0, none⟩ s.q.flags (c * 16 + n)

/-- A flag is set while its event count differs from its acknowledged count (R342). -/
def flagSetB (f : FlagSt) : Bool := f.count != f.ack

/-- CW_FLAGS of a context (R342). -/
def cwFlags (s : State) (c : Nat) : Nat :=
  ((List.range 16).filter (fun n => flagSetB (flagGet s c n))).foldl (fun v n => v + 2 ^ n) 0

/-- Send FLAG_NOTE to every AGREED port of the context's mask (R481). -/
def sendFlagNotes (s : State) (c : Nat) : State :=
  (ctxPorts s c).foldl (fun s p =>
    odBump (sendUrzen s p 0x42 0 c 0 0 0 0 0 (natLe 4 (cwFlags s c))) (odKey 0x7110 4) 1) s

/-- Instant used by the merging rule, whether an event counts (R344). -/
def flagCounts (f : FlagSt) (now : Nat) : Bool :=
  match f.last with
  | none => true
  | some t => decide (t + 40 ≤ now)

/-- An event of flag `n` of a context (R344); when a clear flag sets, FLAG_NOTE is sent (R481). -/
def flagEvent (s : State) (c n : Nat) : State :=
  let f := flagGet s c n
  if flagCounts f s.now then
    let f' : FlagSt := ⟨(f.count + 1) % 2 ^ 32, f.ack, some s.now⟩
    let s' := { s with q.flags := tblSet s.q.flags (c * 16 + n) f' }
    if !flagSetB f && flagSetB f' then sendFlagNotes s' c else s'
  else s

/-- A write of a count to CW_FLAGCOUNT: it clears the flag only while the count still matches (R343, R345). -/
def flagClearAt (s : State) (c n v : Nat) : State :=
  let f := flagGet s c n
  if f.count = v then { s with q.flags := tblSet s.q.flags (c * 16 + n) ⟨f.count, v, f.last⟩ } else s

/-! ## Completion records -/

/-- The fields that every completion record has: STATUS, OPCODE, TAG. -/
def recHead (st : Status) (op tag : Nat) : Nat := statusCode st + op * 2 ^ 8 + tag * 2 ^ 16

/-- BYTES of a record of R207: a count of 2^40 bytes or more, which 2^28 pages and more give, does not fit it, and what it then holds is
not stated (log entry 82). -/
def bytesField (n : Nat) : Nat := if n < 2 ^ 40 then n else (Config.wideBytes n).toNat

/-- Tier- and translation-queue record (R207): BYTES, 0 unless STATUS is OK. -/
def recBytes (st : Status) (op tag bytes : Nat) : Nat :=
  recHead st op tag + (if st = .ok then bytesField bytes * 2 ^ 32 else 0)

/-- Feed-queue record (R265). -/
def recFeed (st : Status) (op tag bytes stop streams noconv faults : Nat) : Nat :=
  recHead st op tag + bytes * 2 ^ 32 + stop * 2 ^ 72 + streams * 2 ^ 112 + noconv * 2 ^ 128 + faults * 2 ^ 160

/-- Sync-queue record (R337). -/
def recSync (st : Status) (op tag value lscope : Nat) : Nat := recHead st op tag + value * 2 ^ 64 + lscope * 2 ^ 128

/-- Fabric-queue record (R450). -/
def recFabric (st : Status) (op tag result : Nat) : Nat := recHead st op tag + result * 2 ^ 64

/-- A count held at all ones of its field: of Quill results (R375), of tile counters (R146), and, by the model's choice, of the 32-bit fields
of a MATMUL record (log entry 89). -/
def capTo (w n : Nat) : Nat := min n (2 ^ w - 1)

/-- Status of a record. -/
def recStatus (r : Nat) : Nat := r % 256

/-- A record with its status replaced. -/
def recWithStatus (r : Nat) (st : Status) : Nat := r - r % 256 + statusCode st

end Sys2Proof.Machine
end

