-- ==== Sys2Proof/Machine/Places.lean ====
section
/-! DEFINITION. Where things are in the package: octants (R29), what attaches to what (R26, R32, R36), the numbers of engines (R35),
the parts of T0 (R28), the stack of a T1 address (R30), the network's links, routes and traffic classes (R36, R39, R40, R572). -/

namespace Sys2Proof.Machine

/-! ## Dies and octants -/

/-- Octant of an engine die: octant k holds E(3k) to E(3k+2) (R29). -/
def octantOf (engineDie : Nat) : Nat := engineDie / 3

/-- The media die Mk of octant k (R26, R29). -/
def mediaDie (octant : Nat) : Nat := 24 + octant

/-- Octant of a cartridge slot: C(4k) to C(4k+3) (R29). -/
def slotOctant (slot : Nat) : Nat := slot / 4

/-- The optical die to which an engine die is attached (R32). -/
def opticalOf (engineDie : Nat) : Nat := 32 + engineDie / 4

/-- The engine dies to which a management die is attached: S0 to E00 and E01, S1 to E22 and E23 (R36). -/
def mgmtAttach (die : Nat) : List Nat := if die = 38 then [0, 1] else [22, 23]

/-! ## Numbers of engines (R35) -/

/-- Device-wide number of a logical Nib. -/
def nibNumber (die cluster engine : Nat) : Nat := die * 96 + cluster * 8 + engine

/-- Device-wide number of a logical Quill. -/
def quillNumber (die cluster engine : Nat) : Nat := die * 16 + cluster * 8 + engine

/-- Device-wide number of a logical Feed. -/
def feedNumber (die cluster engine : Nat) : Nat := die * 32 + cluster * 8 + engine

/-- Die, cluster and engine of a logical Nib by its number. -/
def nibPlace (n : Nat) : Nat × Nat × Nat := (n / 96, n % 96 / 8, n % 8)

/-! ## T0 (R28) -/

/-- What a part of an engine die's T0 is for. -/
inductive T0Part where
  | nibBuffer | nibCache | quillCache | quillStore | feedBuffer | scribeMemory
  deriving DecidableEq, Repr

/-- How many there are of a part, spares included, and the KiB of each. -/
def T0Part.size : T0Part → Nat × Nat
  | .nibBuffer => (104, 384)
  | .nibCache => (12, 2048)
  | .quillCache => (2, 2048)
  | .quillStore => (18, 1024)
  | .feedBuffer => (32, 256)
  | .scribeMemory => (2, 1536)

/-- The parts of T0. -/
def t0Parts : List T0Part := [.nibBuffer, .nibCache, .quillCache, .quillStore, .feedBuffer, .scribeMemory]

/-- Bytes of T0 of one engine die: 96 MiB. -/
def t0Size : Nat := (t0Parts.map (fun p => p.size.1 * p.size.2 * 1024)).sum

/-- Lines that one instance of a part holds. -/
def T0Part.lines (p : T0Part) : Nat := p.size.2 * 1024 / 128

/-! ## T1 (R30) -/

/-- The HBM4 stack Hk of an address of T1, by its offset: eight stacks in units of 4 KiB. Which stack holds the first unit is not
stated: H0 (log entry 79). -/
def stackOf (offset : Nat) : Nat := offset / 4096 % 8

/-! ## The network (R36, R572) -/

/-- The two dies that a link joins, by its number, the lower one first. -/
def linkEnds (l : Nat) : Nat × Nat :=
  if l < 20 then (l / 5 * 6 + l % 5, l / 5 * 6 + l % 5 + 1)
  else if l < 38 then ((l - 20) % 3 * 6 + (l - 20) / 3, ((l - 20) % 3 + 1) * 6 + (l - 20) / 3)
  else if l < 62 then (l - 38, mediaDie (octantOf (l - 38)))
  else if l < 86 then (l - 62, opticalOf (l - 62))
  else ([0, 1, 22, 23].getD (l - 86) 0, if l < 88 then 38 else 39)

/-- The mesh die one hop from `a` towards `b`: along the row to the column first, then along the column (R36). -/
def meshStep (a b : Nat) : Nat :=
  if a % 6 < b % 6 then a + 1 else if b % 6 < a % 6 then a - 1 else if a < b then a + 6 else if b < a then a - 6 else a

/-- The engine dies that a message crosses from `a` to `b`. -/
def meshRoute : (hops a b : Nat) → List Nat
  | 0, a, _ => [a]
  | n + 1, a, b => if a = b then [a] else a :: meshRoute n (meshStep a b) b

/-- The engine dies by which a die joins the mesh. -/
def gates (die : Nat) : List Nat :=
  if die < 24 then [die]
  else if die < 32 then [3 * (die - 24), 3 * (die - 24) + 1, 3 * (die - 24) + 2]
  else if die < 38 then [4 * (die - 32), 4 * (die - 32) + 1, 4 * (die - 32) + 2, 4 * (die - 32) + 3]
  else mgmtAttach die

/-- Hops of the mesh between two engine dies. -/
def meshDistance (a b : Nat) : Nat :=
  (max (a % 6) (b % 6) - min (a % 6) (b % 6)) + (max (a / 6) (b / 6) - min (a / 6) (b / 6))

/-- The gate of a die nearest to an engine die; of several the lowest (log entry 79). -/
def gateTo (die near : Nat) : Nat :=
  (gates die).foldl (fun b g => if meshDistance g near < meshDistance b near then g else b) ((gates die).headD 0)

/-- The dies that a message crosses from one die to another, both ends among them. -/
def route (a b : Nat) : List Nat :=
  let ga := if a < 24 then a else gateTo a (if b < 24 then b else (gates b).headD 0)
  let gb := if b < 24 then b else gateTo b ga
  (if a < 24 then [] else [a]) ++ meshRoute 8 ga gb ++ (if b < 24 then [] else [b])

/-- The traffic classes (R39). -/
inductive NetClass where
  | req | snp | rsp | wb | ctl
  deriving DecidableEq, Repr

/-- The class of a message between homes and agents (R291). -/
def netClass : NetKind → NetClass
  | .rdS => .req
  | .rdM => .req
  | .upg => .req
  | .rdNc => .req
  | .wrNc => .req
  | .wb => .wb
  | .evict => .wb
  | .fwdS => .snp
  | .fwdM => .snp
  | .fwdNc => .snp
  | .inv => .snp
  | .recall => .snp
  | _ => .rsp

/-- A caching agent, or another, sends this message; the others are sent by a home. -/
def fromAgent : NetKind → Bool
  | .rdS => true
  | .rdM => true
  | .upg => true
  | .rdNc => true
  | .wrNc => true
  | .wb => true
  | .evict => true
  | .fwdAck => true
  | .invAck => true
  | .recallAck => true
  | .compack => true
  | _ => false

/-- The die of an agent (R288): an adapter's link ends at the optical die of its Urzen port (R32). -/
def agentDie (agent : Nat) : Nat :=
  if agent < 336 then agent / 14 else if agent < 344 then urzenDie (agent - 336) else if agent < 368 then agent - 344 else 32 + (agent - 368)

end Sys2Proof.Machine
end

