-- ==== Sys2Proof/Machine/Network.lean ====
section
/-! DEFINITION. Homes (R284), the on-package network between homes and agents (R39-R41, R291), and the counting and pacing of
requests for a line (R310, R311). -/

namespace Sys2Proof.Machine

/-! ## Homes (R284) -/

/-- Inkwell of a line: bits [69:64] of H × 24. -/
def homeOf (s : State) (line : Nat) : Nat := (Config.homeHash s.coh.hashKey line).toNat * 24 / 2 ^ 64

/-- Bank of a line within its Inkwell: H[2:0]. -/
def bankOf (s : State) (line : Nat) : Nat := (Config.homeHash s.coh.hashKey line).toNat % 8

/-- A home has accepted a request for a line (OD 0x5002). -/
def homeAccepts (s : State) (line : Nat) : State := odBump s (odKey 0x5002 (homeOf s line)) 1

/-! ## Messages -/

/-- A message with nothing but its kind, agent and line. -/
def plainMsg (k : NetKind) (agent line : Nat) : NetMsg := ⟨k, agent, line, 0, .s, false, none, false, false, none, 0⟩

/-- Put a message on the network. -/
def netSend (s : State) (m : NetMsg) : State := { s with coh.net := s.coh.net ++ [m] }

/-- The dies that a message leaves and reaches (R40): a home's die is its Inkwell's, and an owner sends DATA from its own. -/
def msgEnds (s : State) (m : NetMsg) : Nat × Nat :=
  let home := homeOf s m.line
  if fromAgent m.kind then (agentDie m.agent, home)
  else (if (m.kind = .data ∨ m.kind = .copy) ∧ m.peer ≠ 0 then agentDie (m.peer - 1) else home, agentDie m.agent)

/-- Two messages travel in one class between the same two dies, so that they arrive in the order in which they were sent (R40). -/
def sameWay (s : State) (a b : NetMsg) : Bool := decide (netClass a.kind = netClass b.kind) && decide (msgEnds s a = msgEnds s b)

/-- A message can arrive now: none of its class and its way was sent before it (R40). -/
def mayArrive (s : State) (m : NetMsg) : Bool := !(s.coh.net.takeWhile (fun x => decide (x ≠ m))).any (fun x => sameWay s x m)

/-- The message of a kind for an agent and a line that can arrive now. -/
def netFind (s : State) (k : NetKind) (agent line : Nat) : Option NetMsg :=
  match s.coh.net.find? (fun m => decide (m.kind = k) && decide (m.agent = agent) && decide (m.line = line)) with
  | some m => if mayArrive s m then some m else none
  | none => none

/-- Take the first message equal to `m` off the network. -/
def netDrop (s : State) (m : NetMsg) : State := { s with coh.net := s.coh.net.erase m }

/-- Firmware processors are no agents of R288; their requests are counted under this number (log entry 80), and those that firmware
makes for no context carry context 0x000 (R41). -/
def firmwareAgent : Nat := 374

/-- Is an agent an adapter cache (R288)? -/
def isAdapter (agent : Nat) : Bool := decide (336 ≤ agent) && decide (agent < 344)

/-! ## Hot lines (R310, R311) -/

/-- Interval that paces a pair reached by `n` agents. -/
def paceInterval (s : State) (n : Nat) : Nat := odGet s (odKey 0x5000 2) * max n 1

/-- HOT to one agent; a requester without an agent ID takes none. -/
def sendHot (s : State) (c line interval agent : Nat) : State :=
  if firmwareAgent ≤ agent then s
  else if isAdapter agent then sendUrzen s (agent - 336) 0x29 0 c 0 (line * 128) 0 0 0 (natLe 4 interval)
  else netSend s { plainMsg .hot agent line with ctx := c, ticket := some interval }

/-- HOT to every agent of a pair, unless pacing is disabled. -/
def sendHots (s : State) (c line : Nat) (agents : List Nat) : State :=
  if odGet s (odKey 0x5000 2) = 0 then s
  else agents.foldl (fun s a => sendHot s c line (paceInterval s agents.length) a) s

/-- An agent paces a pair of context and line, or a HOT for it is on its way. Of an adapter the bank knows what it has sent; a requester
without an agent ID takes no HOT. -/
def pacesPair (s : State) (agent ctx line : Nat) : Bool :=
  decide (firmwareAgent ≤ agent) || isAdapter agent ||
    s.coh.pacing.any (fun p => decide (p.agent = agent) && decide (p.ctx = ctx) && decide (p.line = line)) ||
    s.coh.net.any (fun m => decide (m.kind = .hot) && decide (m.agent = agent) && decide (m.ctx = ctx) && decide (m.line = line))

/-- A bank counts a request for a line by the context it carries (R41) and its agent. A request of a paced pair from an agent that does
not pace it: the agent is counted if it is new, and every agent of the pair is sent HOT (R311). -/
def countReq (s : State) (line ctx agent : Nat) : State :=
  let mine (e : Nat × Nat × Nat × Nat) : Bool := decide (e.1 = line) && decide (e.2.1 = ctx) && decide (e.2.2.1 = agent)
  let counts := if s.coh.counts.any mine then
      mapWhere mine (fun x => (x.1, x.2.1, x.2.2.1, x.2.2.2 + 1)) s.coh.counts
    else s.coh.counts ++ [(line, ctx, agent, 1)]
  let s := { s with coh.counts := counts }
  match s.coh.paced.find? (fun (p : Nat × Nat × List Nat) => decide (p.1 = ctx) && decide (p.2.1 = line)) with
  | some p =>
    if p.2.2.contains agent && pacesPair s agent ctx line then s
    else
      let agents := addOnce p.2.2 agent
      sendHots { s with coh.paced := mapWhere (fun x => decide (x = p)) (fun x => (x.1, x.2.1, agents)) s.coh.paced } ctx line agents
  | none => s

/-- Tickets that an agent holds at the home of a line (R301). -/
def ticketsAt (s : State) (agent line : Nat) : Nat :=
  (s.coh.tickets.filter (fun k => decide (k.agent = agent) && decide (homeOf s k.line = homeOf s line))).length

/-- An agent may send a request for a line now: fewer than four tickets at the home (R301), and its pacing allows it (R311). -/
def maySend (s : State) (agent c line : Nat) : Bool :=
  decide (ticketsAt s agent line < 4) &&
    (match s.coh.pacing.find? (fun p => decide (p.agent = agent) && decide (p.ctx = c) && decide (p.line = line)) with
     | some p => decide (p.last + p.interval ≤ s.now)
     | none => true)

/-- A paced request is issued. -/
def notePaced (s : State) (agent c line : Nat) : State :=
  let mine (p : Pacing) : Bool := decide (p.agent = agent) && decide (p.ctx = c) && decide (p.line = line)
  if s.coh.pacing.any mine then
    let l := mapWhere mine (fun p => { p with last := s.now }) s.coh.pacing
    odBump { s with coh.pacing := l } (odKey 0x5001 9) 1
  else s

/-- A request of an agent for a context, served at once, is accepted at the home of its line. -/
def homeAsked (s : State) (agent c line : Nat) : State := homeAccepts (countReq s line c agent) line

end Sys2Proof.Machine
end

