-- ==== Sys2Proof/Machine/Store.lean ====
section
/-! DEFINITION. Memory behind the homes: the layout of store addresses (R195), frames and their owners, the T1 cache region
(R198-R200, R224-R226), poison (R312), homes (R284), and whole reads and writes at the home (R296, R305). -/

namespace Sys2Proof.Machine

/-! ## Store addresses (R195) -/

/-- First store address of the T1 placed region. -/
def t1Base : Nat := 0x8000000000000

/-- Bytes of T2: 96 TiB. -/
def t2Size : Nat := 0x600000000000

/-- First store address of T0. -/
def t0Base : Nat := 0xC000000000000

/-- Bytes of the T1 placed region (R197). -/
def placedBytes (s : State) : Nat := odGet s (odKey 0x3000 1) * 2 ^ 30

/-- Does `[sa, sa + n)` lie wholly in T2? -/
def inT2 (sa n : Nat) : Bool := decide (sa + n ≤ t2Size)

/-- Does `[sa, sa + n)` lie wholly in the T1 placed region? -/
def inT1 (s : State) (sa n : Nat) : Bool := decide (t1Base ≤ sa) && decide (sa + n ≤ t1Base + placedBytes s)

/-- Distance of the T0 of one engine die from the next. -/
def t0Stride : Nat := 0x8000000

/-- Does `[sa, sa + n)` lie wholly in the T0 of one engine die (R28, R195)? -/
def inT0 (sa n : Nat) : Bool :=
  decide (t0Base ≤ sa) && decide (sa < t0Base + 24 * t0Stride) && decide ((sa - t0Base) % t0Stride + n ≤ t0Size)

/-- May an engine reach `[sa, sa + n)`? T0 is for firmware and diagnostics only (R195). -/
def firmwareReach (k : EngKind) (sa n : Nat) : Bool :=
  match k with
  | .scribe => inT0 sa n
  | .mgmt => inT0 sa n
  | _ => false

/-- Does `[sa, sa + n)` lie where a context can reach (R195, R196)? -/
def inStore (s : State) (sa n : Nat) : Bool := inT2 sa n || inT1 s sa n

/-- Tier of a frame by its store page: 1 T1 placed, 2 T2. -/
def tierOfPage (page : Nat) : Nat := if page < t2Size / 4096 then 2 else 1

/-- Owner of a page in a list of runs. -/
def runOwner (l : List Run) (page : Nat) : Option Nat :=
  (l.find? (fun r => decide (r.start ≤ page) && decide (page < r.start + r.count))).map (·.ctx)

/-- The context that owns a frame, by its store page. -/
def frameOwner (s : State) (page : Nat) : Option Nat :=
  if tierOfPage page = 2 then runOwner s.tier.t2 page else runOwner s.tier.t1 page

/-- The line numbers that `[sa, sa + n)` touches. -/
def linesOf (sa n : Nat) : List Nat :=
  if n = 0 then [] else (List.range ((sa + n - 1) / 128 - sa / 128 + 1)).map (· + sa / 128)

/-- An old frame forwards every access to the new one (R221 step 3). -/
def fwdSa (s : State) (sa : Nat) : Nat :=
  match tblFind s.mem.forward (sa / 4096) with
  | some p => p * 4096 + sa % 4096
  | none => sa

/-- A line after forwarding. -/
def fwdLine (s : State) (line : Nat) : Nat := fwdSa s (line * 128) / 128

/-! ## Cartridge slots that take journal data (R225, R411) -/

/-- The device counts a slot state in W: MEMBER, SPARE, STANDIN, REBUILDING, RESILVERING, RETIRING (R411). -/
def slotCounts (code : Nat) : Bool := decide (4 ≤ code) && decide (code ≤ 9)

/-- State code of a slot (R411). -/
def slotState (s : State) (n : Nat) : Nat := odGet s (odKey 0x8001 n)

/-- W (R225). -/
def journalWidth (s : State) : Nat := ((List.range 32).filter (fun n => slotCounts (slotState s n))).length

/-- The effective cap C in GiB (R225). -/
def dirtyCapGiB (s : State) : Nat :=
  min (odGet s (odKey 0x3001 1)) (((journalWidth s - 2) * 2496000000 - 805306368) / 2 ^ 30)

/-- The cap C in bytes. -/
def dirtyCap (s : State) : Nat := dirtyCapGiB s * 2 ^ 30

/-! ## The T1 cache region -/

/-- The dirty charge in bytes (R224). -/
def dirtyCharge (s : State) : Nat :=
  (s.mem.cache.map (fun f => if f.dirty = [] then 0 else 16 + 128 * f.dirty.length)).sum

/-- Frames of the cache region, and its sets of 16 ways (R198). -/
def cacheFrames (s : State) : Nat := (384 - odGet s (odKey 0x3000 1)) * 262144

/-- Set of a T2 frame. -/
def setOf (s : State) (frame : Nat) : Nat := Config.cacheSet frame (cacheFrames s / 16)

/-- Frames of T1: 384 GiB; the cache region lies above the placed region (R197). -/
def t1Frames : Nat := 384 * 262144

/-- The set of a place of the cache region: the sets are counted from the top of T1 down, so that those below the boundary are the last
(log entry 74). -/
def placeSet (place : Nat) : Nat := (t1Frames - 1 - place) / 16

/-- The place of a way of a set. -/
def wayPlace (set way : Nat) : Nat := t1Frames - 1 - (16 * set + way)

/-- The frames in a set. -/
def waysOf (s : State) (set : Nat) : List CacheFrame := s.mem.cache.filter (fun f => decide (placeSet f.place = set))

/-- A free place of a set. -/
def freePlace (s : State) (set : Nat) : Nat :=
  (((List.range 16).map (wayPlace set)).find? (fun p => !s.mem.cache.any (fun f => decide (f.place = p)))).getD (wayPlace set 0)

/-- Cache frames that lie below the boundary and are to become placed frames (R202). -/
def toDrain (s : State) : List CacheFrame := s.mem.cache.filter (fun f => decide (f.place < placedBytes s / 4096))

/-- Frames of the placed region from the lowest one still to be drained on, which are not yet allocatable (R202). -/
def drainLeft (s : State) : Nat :=
  (toDrain s).foldl (fun n f => max n (placedBytes s / 4096 - f.place)) 0

/-- Frames of the cache region that hold a context's lines (R199). -/
def occupancy (s : State) (c : Nat) : Nat := (s.mem.cache.filter (fun f => frameOwner s f.frame = some c)).length

/-- The T1 cache share of a context, in frames (R199). -/
def shareFrames (s : State) (c : Nat) : Nat := odGet s (odCtx 0x3110 c) * 256

/-- Replace the frames of the cache region. -/
def setCache (s : State) (l : List CacheFrame) : State := { s with mem.cache := l }

/-! ## Rows and their units (R393-R395, R403)

`mem.media` is what the cartridges hold of T2 as the homes would read it, decrypted; the units that go out are ciphertext. -/

/-- Group of a T2 frame (R394). -/
def grpOf (frame : Nat) : Nat := frame / 8 % 3

/-- Row of a T2 frame. -/
def rowOf2 (frame : Nat) : Nat := frame / 24

/-- The T2 frame of data unit u of a row. -/
def unitFrame (g row u : Nat) : Nat := (row * 3 + g) * 8 + u

/-- Position of data unit u of a row; 8 stands for P and 9 for Q. -/
def posOf (row u : Nat) : Nat := (u + row) % 10

/-- The slot recorded at a position. -/
def slotAt (s : State) (g p : Nat) : Option Nat := tblFind s.cart.serving (g * 10 + p)

/-- A slot. -/
def cartSlot (s : State) (n : Nat) : Slot := tblGet emptySlot s.cart.slots n

/-- Rows done in a slot's rebuild, evacuation or re-silver (R423). -/
def rowsDone (s : State) (n : Nat) : Nat := odGet s (odKey 0x8103 n)

/-- The slot recorded at a position reads a row: it is in service, or its rebuild has passed the row (R416). -/
def slotReads (s : State) (n row : Nat) : Bool :=
  [4, 6, 9].contains (slotState s n) || (decide (slotState s n = 7) && decide (row < rowsDone s n))

/-- A position can be read at a row. -/
def posReads (s : State) (g row p : Nat) : Bool :=
  match slotAt s g p with
  | some n => slotReads s n row
  | none => false

/-- Positions of a row that are missing. -/
def missingAt (s : State) (g row : Nat) : List Nat := (List.range 10).filter (fun p => !posReads s g row p)

/-- The slots that a unit write of a position goes to (R416, R417): the one in service, and a target that has passed the row. -/
def unitSlots (s : State) (g row p : Nat) : List Nat :=
  (List.range 32).filter (fun n =>
    (decide (slotAt s g p = some n) && slotReads s n row) ||
      (decide ((cartSlot s n).pos = some (g, p)) && (decide (slotState s n = 7) || decide (slotState s n = 8)) && decide (row < rowsDone s n)))

/-! ## Encryption (R501-R504) -/

/-- Key1 and Key2 in the key slot of a context on the media die of an octant (R501). -/
def keySlot (s : State) (octant c : Nat) : Bytes × Bytes := tblGet ([], []) s.iso.slots (octant * 4096 + c)

/-- The context whose keys a line is under: the one to which its frame is charged; 0x000, whose slot holds the device key, for the
device's own frames and where no context is charged (R503). -/
def lineCtx (s : State) (line : Nat) : Nat := (frameOwner s (line / 32)).getD 0

/-- A line as the media die of an octant encrypts it on its way out (R502, R503). -/
def cipherLine (s : State) (octant line : Nat) (data : Bytes) : Bytes := xtsEnc (keySlot s octant (lineCtx s line)) line data

/-- A line as the media die of an octant decrypts it on its way back. -/
def plainLine (s : State) (octant line : Nat) (data : Bytes) : Bytes := xtsDec (keySlot s octant (lineCtx s line)) line data

/-- Octant through which a line of T1 is reached (R30). -/
def lineOctant (line : Nat) : Nat := stackOf (line * 128 - t1Base)

/-- What the HBM4 stack of a line of the T1 placed region holds of it. -/
def hbmLine (s : State) (line : Nat) : Bytes := cipherLine s (lineOctant line) line (memRead s.mem.mem (line * 128) 128)

/-- A T2 frame as the cartridge of a slot holds it: each line as ciphertext (R503, R504). -/
def cipherFrame (s : State) (slot frame : Nat) (content : Bytes) : Bytes :=
  ((List.range 32).map (fun j => cipherLine s (slotOctant slot) (frame * 32 + j) ((content.drop (128 * j)).take 128))).flatten

/-- The data unit of a row as the cartridges hold it. -/
def rowUnit (s : State) (g row u : Nat) : Bytes :=
  let frame := unitFrame g row u
  cipherFrame s ((slotAt s g (posOf row u)).getD 0) frame (memRead s.mem.media (frame * 4096) 4096)

/-- The unit of a position of a row: data, P or Q (R394, R395). -/
def unitAt (s : State) (g row p : Nat) : Bytes :=
  let u := (p + 10 - row % 10) % 10
  let units := (List.range 8).map (rowUnit s g row)
  if u < 8 then units.getD u [] else if u = 8 then parityP units else parityQ units

/-- KIND of a position's unit of a row (R399). -/
def unitKind (row p : Nat) : Nat := (p + 10 - row % 10) % 10 - 7

/-- The metadata of a unit (R399). -/
def unitMeta (content : Bytes) (kind num seq : Nat) : Bytes := natLe 16 (crc32c content + kind * 2 ^ 32 + num * 2 ^ 34 + seq * 2 ^ 64)

/-- WRITEU of a unit to a slot, counted in OD 0x8102 (R397, R419). -/
def sendUnit (s : State) (n row p : Nat) (content : Bytes) : State :=
  let s := { s with cart.writeSeq := (s.cart.writeSeq + 1) % 2 ^ 64 }
  odBump (emit s (.cart n .writeu row (content ++ unitMeta content (unitKind row p) row s.cart.writeSeq))) (odKey 0x8102 n) 4096

/-- The positions that the write of a data unit rewrites: its own, P's and Q's (R403). -/
def writtenPos (row u : Nat) : List Nat := [posOf row u, posOf row 8, posOf row 9]

/-- Write the unit of a frame with P and Q of its row to the cartridges. -/
def unitOut (s : State) (frame : Nat) : State :=
  let g := grpOf frame
  let row := rowOf2 frame
  (writtenPos row (frame % 8)).foldl (fun s p => (unitSlots s g row p).foldl (fun s n => sendUnit s n row p (unitAt s g row p)) s) s

/-- A line of T2 as its cartridges will hold it. -/
def lineToMedia (s : State) (line : Nat) : State :=
  { s with mem.media := memCopy s.mem.mem (line * 128) 128 s.mem.media (line * 128) }

/-- Give a dirty line to the cartridges; it stays valid. -/
def cleanLine (s : State) (frame j : Nat) : State :=
  let s := lineToMedia s (frame * 32 + j)
  setCache s (mapWhere (fun f => f.frame = frame) (fun f => { f with dirty := tblErase f.dirty j }) s.mem.cache)

/-- Write back one dirty line (R403). -/
def writeBack (s : State) (frame j : Nat) : State := unitOut (cleanLine s frame j) frame

/-- Write back every dirty line of a frame as one unit (R403). -/
def writeBackFrame (s : State) (f : CacheFrame) : State :=
  if f.dirty = [] then s else unitOut (f.dirty.foldl (fun s d => cleanLine s f.frame d.1) s) f.frame

/-- The over-quota bit of the T1 cache of a context (OD 0x3190 bit 1) clears once its occupancy is within its share (R219). -/
def settleShare (s : State) (c : Nat) : State :=
  let k := odCtx 0x3190 c
  if (odGet s k).testBit 1 && decide (occupancy s c ≤ shareFrames s c) then odSet s k (odGet s k - 2) else s

/-- Drop a frame of the cache region, its dirty lines written back first. -/
def dropFrame (s : State) (f : CacheFrame) : State :=
  let c := frameOwner s f.frame
  let s := writeBackFrame s f
  let s := setCache s (s.mem.cache.filter (fun g => g.frame != f.frame))
  let s := { s with mem.draining := drainLeft s }
  match c with
  | some c => settleShare s c
  | none => s

/-- The least recently used of some frames. -/
def leastUsed : List CacheFrame → Option CacheFrame
  | [] => none
  | f :: fs =>
    match leastUsed fs with
    | none => some f
    | some g => if f.used ≤ g.used then some f else some g

/-- The least recently written dirty line of some frames: frame and line. -/
def leastDirty (fs : List CacheFrame) : Option (Nat × Nat) :=
  let all : List (Nat × Nat × Nat) := (fs.map (fun f => f.dirty.map (fun d => (d.2, f.frame, d.1)))).flatten
  (all.foldl (fun (b : Option (Nat × Nat × Nat)) x =>
    match b with
    | none => some x
    | some y => if x.1 < y.1 then some x else some y) none).map (·.2)

/-- Make room for a fill by the owner of a T2 frame (R199): at its share the owner's own least recently used frame gives way;
then the least recently used frame of a set that is full. -/
def cacheRoom (s : State) (c frame : Nat) : State :=
  let s :=
    if shareFrames s c ≤ occupancy s c then
      match leastUsed (s.mem.cache.filter (fun f => frameOwner s f.frame = some c)) with
      | some f => dropFrame s f
      | none => s
    else s
  let ways := waysOf s (setOf s frame)
  if 16 ≤ ways.length then
    match leastUsed ways with
    | some f => dropFrame s f
    | none => s
  else s

/-- The cache region holds line `line` of T2 for its owner, unless the owner is uncached (R198, R200). -/
def cacheFill (s : State) (line : Nat) : State :=
  let frame := line / 32
  match frameOwner s frame with
  | none => s
  | some c =>
    if shareFrames s c = 0 ∨ cacheFrames s = 0 then s
    else
      let s := { s with mem.useCtr := s.mem.useCtr + 1 }
      if s.mem.cache.any (fun f => f.frame = frame) then
        setCache s (mapWhere (fun f => f.frame = frame)
          (fun f => { f with valid := addOnce f.valid (line % 32), used := s.mem.useCtr }) s.mem.cache)
      else
        let s := cacheRoom s c frame
        setCache s (s.mem.cache ++ [⟨freePlace s (setOf s frame), frame, [line % 32], [], s.mem.useCtr⟩])

/-- What the dirty charge becomes when a line becomes dirty (R224): nothing more where it is dirty already. -/
def chargeWith (s : State) (line : Nat) : Nat :=
  match s.mem.cache.find? (fun f => decide (f.frame = line / 32)) with
  | some f => if (tblFind f.dirty (line % 32)).isSome then dirtyCharge s else dirtyCharge s + (if f.dirty = [] then 16 else 0) + 128
  | none => dirtyCharge s + 144

/-- Write back until a line can become dirty within the cap: the least recently used dirty line of the context that owns the written
frame, or else of the set (R226). -/
def underCap (s : State) (c line : Nat) : (fuel : Nat) → State
  | 0 => s
  | fuel + 1 =>
    if chargeWith s line ≤ dirtyCap s then s
    else
      let own := s.mem.cache.filter (fun f => frameOwner s f.frame = some c)
      let set := waysOf s (setOf s (line / 32))
      match leastDirty own with
      | some (f, j) => underCap (writeBack s f j) c line fuel
      | none =>
        match leastDirty set with
        | some (f, j) => underCap (writeBack s f j) c line fuel
        | none => s

/-- The owner of a frame has no share of the cache region, so that its writes go straight to the media die (R200). -/
def uncached (s : State) (frame : Nat) : Bool :=
  match frameOwner s frame with
  | some c => decide (shareFrames s c = 0)
  | none => true

/-- A T2 line has been written: it is dirty in the cache region, or on the cartridges where its owner is uncached (R200). A write that
would raise the charge over the cap is held at its home, and counted, until room has been made (R226). -/
def lineDirty (s : State) (line : Nat) : State :=
  let frame := line / 32
  let s := cacheFill s line
  if s.mem.cache.any (fun f => f.frame = frame) && !uncached s frame then
    let s := if dirtyCap s < chargeWith s line then
        underCap (odBump s (odKey 0x3005 5) 1) ((frameOwner s frame).getD 0) line (s.mem.cache.length * 32 + 1)
      else s
    setCache s (mapWhere (fun f => f.frame = frame)
      (fun f => { f with dirty := tblSet f.dirty (line % 32) s.mem.useCtr }) s.mem.cache)
  else writeBack s frame (line % 32)

/-! ## Poison (R312) -/

/-- Is a line poisoned? Every line of a FAILED device is (R47). -/
def poisoned (s : State) (line : Nat) : Bool := s.mem.poison.contains line || decide (devState s = 3)

/-- Poison a line. -/
def poisonLine (s : State) (line : Nat) : State := { s with mem.poison := addOnce s.mem.poison line }

/-- Clear the poison of a line. -/
def clearPoison (s : State) (line : Nat) : State := { s with mem.poison := s.mem.poison.filter (· != line) }

/-- Event LINE_POISONED for a line of a failed cache (R312). -/
def poisonEvent (s : State) (line : Nat) : State :=
  odBump (logEv (poisonLine s line) "LINE_POISONED" [line * 128]) (odKey 0x5001 0x0A) 1

/-! ## Memory's side of a line -/

/-- All 128 bytes. -/
def fullMask : Nat := 2 ^ 128 - 1

/-- The runs of bytes of a line that a mask sets: offset and length. -/
def maskRuns (mask : Nat) : List (Nat × Nat) :=
  (List.range 128).filterMap (fun i =>
    if mask.testBit i ∧ (i = 0 ∨ mask.testBit (i - 1) = false) then
      some (i, ((List.range (128 - i)).takeWhile (fun k => mask.testBit (i + k))).length)
    else none)

/-- A write to the old frame of a page that has moved to T3 goes on to the host (R221 step 3). -/
def passAway (s : State) (line mask : Nat) (data : Bytes) : State :=
  match tblFind s.mem.away (line / 32) with
  | none => s
  | some (port, page) =>
    (maskRuns mask).foldl (fun s r =>
      match (List.range 65536).find? (fun t => (tblFind s.fab.t3 (port * 65536 + t)).isNone) with
      | some t =>
        sendUrzen { s with fab.t3 := tblSet s.fab.t3 (port * 65536 + t) .home } port 0x31 0 ((frameOwner s (line / 32)).getD 0) t
          (page * 4096 + line % 32 * 128 + r.1) (r.2 - 1) 0 0 ((data.drop r.1).take r.2)
      | none => s) s

/-- Memory takes a write of a line under a byte mask; a write of every byte clears the line's poison (R312). -/
def memTake (s : State) (line mask : Nat) (data : Bytes) : State :=
  let l := fwdLine s line
  let s := passAway { s with mem.mem := memWriteMask s.mem.mem (l * 128) mask data } l mask data
  let s := if mask = fullMask then clearPoison s l else s
  if inT2 (l * 128) 128 then lineDirty s l else s

/-- The bytes that memory holds of a line. -/
def memLine (s : State) (line : Nat) : Bytes := memRead s.mem.mem (fwdLine s line * 128) 128

/-! ## Whole reads and writes at the home -/

/-- Key of a line in a cluster cache. -/
def cacheKey (agent line : Nat) : Nat := agent * 2 ^ 45 + line

/-- Does a holder in this state have the duty of the line's dirty data (R292)? -/
def dirtySt : CState → Bool
  | .m => true
  | .o => true
  | .om => true
  | .mi => true
  | .oi => true
  | _ => false

/-- The dirty copy that an owning cluster cache holds of a line. -/
def dirtyCopy (s : State) (line : Nat) : Option CLine :=
  match tblFind s.coh.shadow line with
  | some e =>
    match e.owner with
    | some a =>
      match tblFind s.coh.caches (cacheKey a line) with
      | some c => if dirtySt c.st && c.hasData then some c else none
      | none => none
    | none => none
  | none => none

/-- The line as its home orders it: from the owner's dirty copy or from memory, and whether it is poisoned. -/
def lineNow (s : State) (line : Nat) : Bytes × Bool :=
  let l := fwdLine s line
  match dirtyCopy s l with
  | some c => (c.data, c.poison || decide (devState s = 3))
  | none => (memLine s l, poisoned s l)

/-- Bytes `[sa, sa + n)` as the homes order them; true where a line of them is poisoned. -/
def homeBytes (s : State) (sa n : Nat) : Bytes × Bool :=
  let ls := linesOf sa n
  let all : Bytes := (ls.map (fun l => (lineNow s l).1)).flatten
  ((all.drop (sa % 128)).take n, ls.any (fun l => (lineNow s l).2))

/-- The cache region holds a line. -/
def lineCached (s : State) (line : Nat) : Bool := s.mem.cache.any (fun f => decide (f.frame = line / 32) && f.valid.contains (line % 32))

/-- A T2 line is read from its cartridge (R402): decoded where its position is missing, which counts in OD 0x8201.01. -/
def readSectors (s : State) (line : Nat) : State :=
  let frame := line / 32
  let s := if posReads s (grpOf frame) (rowOf2 frame) (posOf (rowOf2 frame) (frame % 8)) then s else odBump s (odKey 0x8201 1) 1
  cacheFill s line

/-- RD_NC of an agent for a context over `[sa, sa + n)`: an owner keeps its state (R305), and a T2 line read from memory fills the
cache region (R198). -/
def homeRead (s : State) (agent c sa n : Nat) : (Bytes × Bool) × State :=
  (homeBytes s sa n, (linesOf sa n).foldl (fun s l =>
    let s := homeAsked s agent c l
    if inT2 (l * 128) 128 && (dirtyCopy s l).isNone then (if lineCached s (fwdLine s l) then cacheFill s l else readSectors s l) else s) s)

/-- Take every copy of a line out of the cluster caches, with the owner's dirty data given to memory (R296, R305). -/
def recallLine (s : State) (line : Nat) : State :=
  match tblFind s.coh.shadow line with
  | none => s
  | some e =>
    let holders := e.sharers ++ e.owner.toList
    let s1 :=
      match dirtyCopy s line with
      | some c =>
        let s' := memTake s line (if c.poison && c.written != fullMask then 0 else fullMask) c.data
        if c.poison && c.written != fullMask then
          poisonLine { s' with mem.mem := memWrite s'.mem.mem (line * 128) c.data } line
        else s'
      | none => s
    { s1 with coh.caches := holders.foldl (fun t a => tblErase t (cacheKey a line)) s1.coh.caches,
              coh.shadow := tblErase s1.coh.shadow line }

/-! ## Lines that a home cannot serve at once -/

/-- The Urzen port of an adapter cache that owns a line, so that only the adapter has its data (R288). -/
def adapterOwner (s : State) (line : Nat) : Option Nat :=
  match tblFind s.coh.shadow line with
  | some e =>
    match e.owner with
    | some a => if 336 ≤ a then some (a - 336) else none
    | none => none
  | none => none

/-- The page of a place. -/
def pageOf : Target → Target
  | .dev a => .dev (a / 4096 * 4096)
  | .host p a => .host p (a / 4096 * 4096)
  | t => t

/-- Writes to a place are held while its page moves (R221, R305). -/
def targetHeld (s : State) (t : Target) : Bool := s.tier.moves.any (fun m => m.stream.isSome && decide (m.src = pageOf t))

/-- Writes to a store address are held while its page moves. -/
def writesHeld (s : State) (sa : Nat) : Bool := targetHeld s (.dev sa)

/-- The home can serve a request of the device for this line at once: no transaction is open on it (R297, R300), and no adapter
must be asked for its data. -/
def lineFree (s : State) (line : Nat) : Bool :=
  let l := fwdLine s line
  (tblFind s.coh.busy l).isNone && (adapterOwner s l).isNone

/-- Ask the adapter that owns a line for it: RECALL (R296), once. -/
def askRecall (s : State) (line : Nat) : State :=
  match adapterOwner s line with
  | some p =>
    if s.fab.snoops.contains (p, line) then s
    else
      let s := odBump s (odKey 0x5001 5) 1
      { sendUrzen s p 0x14 0 0 0 (line * 128) 0 0 0 [] with fab.snoops := s.fab.snoops ++ [(p, line)] }
  | none => s

/-- The Urzen ports of the adapter caches that share a line. -/
def adapterSharers (s : State) (line : Nat) : List Nat :=
  match tblFind s.coh.shadow line with
  | some e => (e.sharers.filter (336 ≤ ·)).map (· - 336)
  | none => []

/-- The home can take a write of the device to this line at once: nothing stands in the way of a read, no adapter must be told, and the
page is not under move (R221, R305). -/
def lineTakes (s : State) (line : Nat) : Bool :=
  lineFree s line && decide (adapterSharers s line = []) && !writesHeld s (line * 128)

/-- Ask for a line that is to be written: RECALL to an adapter that owns it, INV to those that share it (R296), once. -/
def askHolders (s : State) (line : Nat) : State :=
  (adapterSharers s line).foldl (fun s p =>
    if s.fab.snoops.contains (p, line) then s
    else
      let s := odBump s (odKey 0x5001 5) 1
      { sendUrzen s p 0x13 0 0 0 (line * 128) 0 0 0 [] with fab.snoops := s.fab.snoops ++ [(p, line)] }) (askRecall s line)

/-! ## Whole writes -/

/-- A write of the device that its home cannot serve yet waits in a reserved place, and is served in its turn (R300, R302). -/
def waitWrite (s : State) (agent c line mask : Nat) (data : Bytes) : State :=
  let t : Txn := ⟨.wrNc, agent, c, genNow s, line * 128, 128, padTo 128 data, mask, 0, false, false, 0, 0, [], none, false, false, .agent, none⟩
  let n := s.coh.nextTick
  { s with coh.nextTick := (n + 1) % 65536, coh.tickets := s.coh.tickets ++ [⟨n, agent, line, s.now, some t⟩] }

/-- WR_NC of an agent for a context to one line under a byte mask: cached copies are recalled first (R296); it waits while the home is
busy with the line, an adapter owns it, or its page is under move. -/
def homeWriteLine (s : State) (agent c line mask : Nat) (data : Bytes) : State :=
  let l := fwdLine s line
  if lineTakes s l then memTake (recallLine (homeAsked s agent c l) l) l mask data
  else waitWrite (askHolders (countReq s l c agent) l) agent c l mask data

/-- WR_NC over `[sa, sa + data.length)`. -/
def homeWrite (s : State) (agent c sa : Nat) (data : Bytes) : State :=
  (linesOf sa data.length).foldl (fun s l =>
    let lo := max sa (l * 128)
    let hi := min (sa + data.length) (l * 128 + 128)
    let part := (data.drop (lo - sa)).take (hi - lo)
    homeWriteLine s agent c l ((2 ^ (hi - lo) - 1) * 2 ^ (lo - l * 128)) (List.replicate (lo - l * 128) 0#8 ++ part)) s

/-! ## Ranges that the homes can serve -/

/-- Every line of some ranges can be served at once. -/
def rangesFree (s : State) (rs : List (Nat × Nat)) : Bool :=
  rs.all (fun r => (linesOf r.1 r.2).all (lineFree s))

/-- Every line of some ranges can be written at once. -/
def rangesTake (s : State) (rs : List (Nat × Nat)) : Bool :=
  rs.all (fun r => (linesOf r.1 r.2).all (fun l => lineTakes s (fwdLine s l)))

/-- Ask for the lines of some ranges that are to be written. -/
def askWrites (s : State) (rs : List (Nat × Nat)) : State :=
  rs.foldl (fun s r => (linesOf r.1 r.2).foldl (fun s l => askHolders s (fwdLine s l)) s) s

/-- Ask for the lines of some ranges that an adapter owns. -/
def askRanges (s : State) (rs : List (Nat × Nat)) : State :=
  rs.foldl (fun s r => (linesOf r.1 r.2).foldl (fun s l => askRecall s (fwdLine s l)) s) s

/-! ## Recency (R214) -/

/-- An access to a context's page counts for its 64 KiB unit. -/
def touchCva (s : State) (c cva : Nat) : State :=
  { s with mem.useCtr := s.mem.useCtr + 1,
           tier.recency := tblSet s.tier.recency (c * 2 ^ 41 + cva / 65536) (s.mem.useCtr + 1) }

end Sys2Proof.Machine
end

