-- ==== Sys2Proof/Machine/Operands.lean ====
section
/-! DEFINITION. Operands: the range table and its edits (R237-R246), context virtual addresses, host windows (R473, R474),
fabric windows (R439, R444), the descriptor header (R156) and the atomic operations (R307). -/

namespace Sys2Proof.Machine

/-! ## Range tables -/

/-- The range table of a context, entries in rising order of VPN (R240). -/
def rangeTable (s : State) (c : Nat) : List RangeEntry := tblGet [] s.xlat.tables c

/-- Put back a range table. -/
def setTable (s : State) (c : Nat) (t : List RangeEntry) : State := { s with xlat.tables := tblSet s.xlat.tables c t }

/-- The range epoch of a context (R244). -/
def epochOf (s : State) (c : Nat) : Nat := tblGet 0 s.xlat.epochs c

/-- Set the range epoch of a context. -/
def setEpoch (s : State) (c e : Nat) : State := { s with xlat.epochs := tblSet s.xlat.epochs c e }

/-- Bytes of the CVA space (R15). -/
def cvaEnd : Nat := 2 ^ 57

/-- The entry that holds a page. -/
def entryAt (t : List RangeEntry) (vpn : Nat) : Option RangeEntry :=
  t.find? (fun e => decide (e.vpn ≤ vpn) && decide (vpn < e.vpn + e.pages))

/-- The base of a part of an entry that begins `k` pages into it; ABSENT entries have none. -/
def baseAfter (e : RangeEntry) (k : Nat) : Nat := if e.ty = .absent then 0 else e.base + k

/-- The part of an entry within pages `[v, v + n)`. -/
def clipEntry (e : RangeEntry) (v n : Nat) : Option RangeEntry :=
  let lo := max e.vpn v
  let hi := min (e.vpn + e.pages) (v + n)
  if lo < hi then some { e with vpn := lo, pages := hi - lo, base := baseAfter e (lo - e.vpn) } else none

/-- The parts of a table within pages `[v, v + n)`. -/
def piecesOf (t : List RangeEntry) (v n : Nat) : List RangeEntry := t.filterMap (fun e => clipEntry e v n)

/-- Every page of `[v, v + n)` lies in some entry. -/
def covered (t : List RangeEntry) (v n : Nat) : Bool := ((piecesOf t v n).map (·.pages)).sum = n

/-- The part of an entry within pages `[v, v + n)`, as an entry of its own: one that is cut is written under epoch `ep` (R238). -/
def cutEntry (ep : Nat) (e : RangeEntry) (v n : Nat) : Option RangeEntry :=
  (clipEntry e v n).map (fun x => if x = e then x else { x with epoch := ep })

/-- The table without pages `[v, v + n)`: entries are split at the edges (R242). -/
def cutTable (ep : Nat) (t : List RangeEntry) (v n : Nat) : List RangeEntry :=
  t.filterMap (fun e => cutEntry ep e 0 v) ++ t.filterMap (fun e => cutEntry ep e (v + n) (2 ^ 45 - (v + n)))

/-- Two adjacent entries are one (R240), while PAGES can hold it (R238). -/
def mergeable (a b : RangeEntry) : Bool :=
  decide (a.vpn + a.pages = b.vpn) && decide (a.pages + b.pages ≤ 2 ^ 40) && decide (a.ty = b.ty) && a.rd == b.rd && a.wr == b.wr && a.at_ == b.at_ &&
    a.pin == b.pin && a.t3 == b.t3 && (decide (a.ty = .absent) || decide (a.base + a.pages = b.base))

/-- Merge neighbours from the left; a merged entry is written under epoch `ep`. -/
def mergeTable (ep : Nat) : List RangeEntry → List RangeEntry
  | [] => []
  | e :: t =>
    match mergeTable ep t with
    | [] => [e]
    | f :: r => if mergeable e f then { e with pages := e.pages + f.pages, epoch := ep } :: r else e :: f :: r

/-- Insert entries in order of VPN. -/
def insertEntry (e : RangeEntry) : List RangeEntry → List RangeEntry
  | [] => [e]
  | f :: t => if e.vpn < f.vpn then e :: f :: t else f :: insertEntry e t

/-- Exchange pages `[v, v + n)` of a table for other entries, and merge (R240-R242), as a write under epoch `ep`. -/
def replaceRange (ep : Nat) (t : List RangeEntry) (v n : Nat) (new : List RangeEntry) : List RangeEntry :=
  mergeTable ep (new.foldl (fun t e => insertEntry e t) (cutTable ep t v n))

/-- At most 65,536 entries (R240). -/
def tableFits (t : List RangeEntry) : Bool := decide (t.length ≤ 65536)

/-- A right an access needs. -/
inductive Right where
  | read | write | atomic
  deriving DecidableEq, Repr

/-- Does an entry hold a right? -/
def hasRight (e : RangeEntry) : Right → Bool
  | .read => e.rd
  | .write => e.wr
  | .atomic => e.at_

/-! ## Context virtual addresses -/

/-- First page and number of pages of `[cva, cva + n)`. -/
def pagesOf (cva n : Nat) : Nat × Nat := if n = 0 then (cva / 4096, 0) else (cva / 4096, (cva + n - 1) / 4096 - cva / 4096 + 1)

/-- Every page of `[cva, cva + n)` is a pinned DEVICE page with a right (R157, R251). -/
def pinnedOk (s : State) (c cva n : Nat) (r : Right) : Bool :=
  let (v, k) := pagesOf cva n
  let ps := piecesOf (rangeTable s c) v k
  decide (cva + n ≤ cvaEnd) && decide ((ps.map (·.pages)).sum = k) && ps.all (fun e => decide (e.ty = .device) && e.pin && hasRight e r)

/-- Store address of a CVA in a DEVICE entry. -/
def cvaSa (s : State) (c cva : Nat) : Option Nat :=
  match entryAt (rangeTable s c) (cva / 4096) with
  | some e => if e.ty = .device then some ((e.base + (cva / 4096 - e.vpn)) * 4096 + cva % 4096) else none
  | none => none

/-- An access to a store address counts for the page of the context to which its frame is charged (R214). -/
def touchSa (s : State) (sa : Nat) : State :=
  match frameOwner s (sa / 4096) with
  | some c =>
    match (rangeTable s c).find? (fun e => decide (e.ty = .device) && decide (e.base ≤ sa / 4096) && decide (sa / 4096 < e.base + e.pages)) with
    | some e => touchCva s c ((e.vpn + (sa / 4096 - e.base)) * 4096 + sa % 4096)
    | none => s
  | none => s

/-- The bytes `[cva, cva + n)` page by page: offset from the start, CVA and length of each part. -/
def cvaParts (cva n : Nat) : List (Nat × Nat) :=
  let (v, k) := pagesOf cva n
  (List.range k).map (fun i =>
    let lo := max cva ((v + i) * 4096)
    let hi := min (cva + n) ((v + i + 1) * 4096)
    (lo, hi - lo))

/-- Store addresses and lengths behind `[cva, cva + n)`; pages that are not DEVICE pages are left out. -/
def saParts (s : State) (c cva n : Nat) : List (Nat × Nat) :=
  (cvaParts cva n).filterMap (fun p => (cvaSa s c p.1).map (fun a => (a, p.2)))

/-- Bytes of `[cva, cva + n)` through DEVICE pages, and whether a line is poisoned (R312). -/
def cvaBytes (s : State) (c cva n : Nat) : Bytes × Bool :=
  let rs := (saParts s c cva n).map (fun p => homeBytes s p.1 p.2)
  ((rs.map (·.1)).flatten, rs.any (·.2))

/-- An access to `[cva, cva + n)` of a context counts for every 64 KiB unit it touches (R214). -/
def touchRange (s : State) (c cva n : Nat) : State :=
  if n = 0 then s
  else (List.range ((cva + n - 1) / 65536 - cva / 65536 + 1)).foldl (fun s i => touchCva s c (cva + i * 65536)) s

/-- Reads of `[cva, cva + n)` for a context at the homes, by an agent. -/
def cvaRead (s : State) (agent c cva n : Nat) : (Bytes × Bool) × State :=
  (cvaBytes s c cva n, (saParts s c cva n).foldl (fun s p => (homeRead s agent c p.1 p.2).2) (touchRange s c cva n))

/-- Writes of `[cva, cva + data.length)` for a context at the homes, by an agent. -/
def cvaWrite (s : State) (agent c cva : Nat) (data : Bytes) : State :=
  (cvaParts cva data.length).foldl (fun s p =>
    match cvaSa s c p.1 with
    | some a => homeWrite s agent c a ((data.drop (p.1 - cva)).take p.2)
    | none => s) (touchRange s c cva data.length)

/-- The homes can serve `[cva, cva + n)` of a context at once. -/
def cvaFree (s : State) (c cva n : Nat) : Bool := rangesFree s (saParts s c cva n)

/-- The homes can take a write of `[cva, cva + n)` at once: no page of it is under move (R221). -/
def cvaTakes (s : State) (c cva n : Nat) : Bool := rangesTake s (saParts s c cva n)

/-! ## Windows -/

/-- Rows of a per-number table of BLOBs that hold something. -/
def blobRows (s : State) (base : Nat) : List (Nat × Bytes) :=
  s.blobs.filterMap (fun e =>
    if base * 256 ≤ e.1 ∧ e.1 < (base + 16) * 256 ∧ e.2 ≠ [] then some (e.1 - base * 256, e.2) else none)

/-- A host window (R473). -/
structure HostWin where
  hbase : Nat
  pages : Nat
  ctx   : Nat
  port  : Nat
  cached : Bool
  rd    : Bool
  wr    : Bool
  at_   : Bool
  cva   : Nat
  deriving DecidableEq, Repr

/-- The fields of a host-window record (R473). -/
def hostWin (b : Bytes) : HostWin :=
  let n := leNat b
  ⟨field n 0 64, field n 64 40, field n 104 12, field n 116 3, bitOf n 119, bitOf n 120, bitOf n 121, bitOf n 122, field n 128 64⟩

/-- Host windows in use. -/
def hostWins (s : State) : List HostWin :=
  ((blobRows s 0x7400).map (fun r => hostWin r.2)).filter (fun w => decide (w.pages ≠ 0))

/-- A fabric window (R439). -/
structure FabWin where
  wid   : Nat
  role  : Nat
  rd    : Bool
  wr    : Bool
  at_   : Bool
  ctx   : Nat
  rnode : Nat
  rctx  : Nat
  rwid  : Nat
  base  : Nat
  pages : Nat
  epoch : Nat
  job   : Nat
  deriving DecidableEq, Repr

/-- The fields of a fabric-window record (R439). -/
def fabWin (b : Bytes) : FabWin :=
  let n := leNat b
  ⟨field n 0 12, field n 12 2, bitOf n 14, bitOf n 15, bitOf n 16, field n 32 12, field n 44 12, field n 64 12, field n 80 12,
    field n 96 64, field n 160 40, field n 224 32, field n 256 32⟩

/-- The fabric window of a number, none where it is not open. -/
def fabWinAt (s : State) (wid : Nat) : Option FabWin :=
  let b := blobGet s (odCtx 0x6300 wid)
  if b = [] then none else some (fabWin b)

/-- Open fabric windows. -/
def fabWins (s : State) : List FabWin := (blobRows s 0x6300).map (fun r => fabWin r.2)

/-- This node's number (R437). -/
def nodeNo (s : State) : Nat := odGet s (odKey 0x6000 1)

/-- Node of a fabric address (R16). -/
def faNode (fa : Nat) : Nat := field fa 52 12

/-- Offset of a fabric address. -/
def faOff (fa : Nat) : Nat := field fa 0 52

/-- The import window of a context that covers `[fa, fa + n)` with a right; CTX of the window is the context (R439). -/
def importWin (s : State) (c fa n : Nat) (r : Right) : Option FabWin :=
  (fabWins s).find? (fun w => decide (w.role = 2) && decide (w.ctx = c) && decide (w.base ≤ fa) &&
    decide (fa + n ≤ w.base + w.pages * 4096) && (match r with | .read => w.rd | .write => w.wr | .atomic => w.at_))

/-- Any import window of a context that covers pages of a peer (R255). -/
def importCovers (s : State) (c fa n : Nat) : Bool :=
  (fabWins s).any (fun w => decide (w.role = 2) && decide (w.ctx = c) && decide (w.base ≤ fa) && decide (fa + n ≤ w.base + w.pages * 4096))

/-- A node lies in the device's own group (R657). -/
def inGroup (s : State) (node : Nat) : Bool :=
  decide (odGet s (odKey 0x6000 2) = 1) && (List.range 16).any (fun p => decide (portState s p = 2)) &&
    decide (node / 64 = odGet s (odKey 0x6000 5))

/-! ## The place behind a CVA -/

/-- The place of an entry's byte: what a chunk or an access reaches (R238). -/
def entryTarget (s : State) (c : Nat) (e : RangeEntry) (cva : Nat) : Target :=
  let a := (e.base + (cva / 4096 - e.vpn)) * 4096 + cva % 4096
  match e.ty with
  | .absent => .none
  | .device => .dev a
  | .host => .host (ctxHostPort s c) a
  | .peer => .peer a

/-! ## Atomic operations (R307) -/

/-- The new value of an atomic of `w` bytes: code, old value, operands. -/
def atomicNew (code w old op1 op2 : Nat) : Nat :=
  let b := 8 * w
  let m := 2 ^ b
  let a := op1 % m
  let o := old % m
  match code with
  | 0x01 => (o + a) % m
  | 0x02 => o &&& a
  | 0x03 => o ||| a
  | 0x04 => o ^^^ a
  | 0x05 => max o a
  | 0x06 => min o a
  | 0x07 => if toSigned b o < toSigned b a then a else o
  | 0x08 => if toSigned b a < toSigned b o then a else o
  | 0x09 => a
  | 0x0A => if o = a then op2 % m else o
  | _ => o

/-- ROLL on an amax slot of 16 bytes (R125, R127): AMAX_CUR takes AMAX_NEXT, AMAX_NEXT becomes zero, ROLLS rises by one. -/
def rollNew (old : Nat) : Nat :=
  field old 0 32 * 2 ^ 32 + ((field old 64 32 + 1) % 2 ^ 32) * 2 ^ 64 + field old 96 32 * 2 ^ 96

/-- Codes of R307 that combine (R309). -/
def combinable (code : Nat) : Bool := decide (1 ≤ code) && decide (code ≤ 8)

end Sys2Proof.Machine
end

