-- ==== Sys2Proof/Machine/Mordants.lean ====
section
/-! DEFINITION. Mordants (R330-R338), location codes as instances of scopes (R318, R325) and scope mismatches (R340, R341). -/

namespace Sys2Proof.Machine

/-! ## Ownership and values -/

/-- A mordant belongs to a context: it lies in the range of OD 0x5010 and 0x5020 (R331, R338). -/
def mordOwned (s : State) (c m : Nat) : Bool :=
  decide (c ≠ 0) && decide (odGet s (odCtx 0x5010 c) ≤ m) && decide (m < odGet s (odCtx 0x5010 c) + odGet s (odCtx 0x5020 c))

/-- The record of a mordant. -/
def mordGet (s : State) (m : Nat) : Mordant := tblGet ⟨0, 0, 0, 0⟩ s.q.mordants m

/-- Put back the record of a mordant. -/
def mordSet (s : State) (m : Nat) (r : Mordant) : State := { s with q.mordants := tblSet s.q.mordants m r }

/-- An update of a mordant at its home: the value, and the scope and place of the release (R332). -/
def mordUpdate (s : State) (m v lscope lloc : Nat) : State :=
  odBump (mordSet s m { mordGet s m with value := v % 2 ^ 64, lscope := lscope, lloc := lloc }) (odKey 0x5003 3) 1

/-! ## Instances of scopes -/

/-- Level of a location code (R25). -/
def locLevel (l : Nat) : Nat := field l 0 3

/-- Die of a location code. -/
def locDieOf (l : Nat) : Nat := field l 8 6

/-- Kind and cluster of a location code. -/
def locCluster (l : Nat) : Nat × Nat := (field l 16 3, field l 19 5)

/-- The instance named by `outer` contains the place named by `inner`, both places of this node. -/
def locContains (outer inner : Nat) : Bool :=
  if locLevel outer = 4 then true
  else if locLevel inner = 4 then false
  else if locLevel outer = 3 then decide (locDieOf outer = locDieOf inner)
  else if locLevel outer = 2 then
    decide (locDieOf outer = locDieOf inner) && decide (locCluster outer = locCluster inner) && decide (locLevel inner ≤ 2)
  else decide (outer % 2 ^ 32 = inner % 2 ^ 32)

/-- The instance of a scope that contains an engine (R318): an engine that belongs to no cluster has its die as the instance
of cluster scope. -/
def scopeInstance (s : State) (e : Eng) (scope : Nat) : Nat :=
  if scope = 1 then locEngine s e
  else if scope = 2 then
    (if inCluster e then locCode s 2 e.die.val (engKindCode e.kind) e.cluster.val 0 0 else locDie s e.die.val)
  else if scope = 3 then locDie s e.die.val
  else locDevice s

/-- The check of R340 fails for an acquire at an instance `inst` of its scope, by an engine at `loc`. -/
def mismatched (r : Mordant) (inst loc : Nat) : Bool :=
  decide (r.lscope ≠ 0) && (!locContains r.lloc loc || !locContains inst r.lloc)

/-- A scope mismatch of a context: counted, flagged and, within the limit, logged (R341). -/
def scopeMismatch (s : State) (c m scope loc : Nat) : State :=
  let r := mordGet s m
  let s := flagEvent (odBump s (odKey 0x5003 1) 1) c 4
  let recent := s.q.mismatches.filter (fun t => decide (s.now < t + 1000000000))
  if recent.length < odGet s (odKey 0x5003 2) then
    logEv { s with q.mismatches := recent ++ [s.now] } "SCOPE_MISMATCH" [m, c, scope, loc, r.lscope, r.lloc]
  else { s with q.mismatches := recent }

/-- An acquire of a context on a mordant: the check of R340; the acquire completes in any case. -/
def mordAcquire (s : State) (c m scope inst loc : Nat) : State :=
  if mismatched (mordGet s m) inst loc then scopeMismatch s c m scope loc else s

/-! ## Firmware processors as engines -/

/-- Location code of a firmware processor (R520): a scribe core, or a management core on dies 38 and 39. -/
def locProc (s : State) (p : Nat) : Nat :=
  locCode s 1 (procDie p) (if p < 62 then 4 else 5) 0 (if p < 48 then p % 2 else 0) 0

/-- Number of the active management core: 62 on S0, 63 on S1 (R520). -/
def activeCore (s : State) : Nat := 62 + s.boot.activeDie.getD 0

/-- A firmware processor is RUNNING (OD 0xA101). -/
def procRunning (s : State) (p : Nat) : Bool := decide (odGet s (odKey 0xA101 p) = 0)

end Sys2Proof.Machine
end

