-- ==== Sys2Proof/Machine/Holding.lean ====
section
/-! DEFINITION. Lines of cluster caches and tag shadows (R289, R290, R294), reads of clusters (R45, R46), the holding points of stores (R319-R321), releases (R320, R328) and acquires
(R322), by an engine and by the engines of a descriptor. -/

namespace Sys2Proof.Machine

/-- A line of an agent; none is state I. -/
def cacheLine (s : State) (agent line : Nat) : Option CLine := tblFind s.coh.caches (cacheKey agent line)

/-- Put a line of an agent. -/
def setCacheLine (s : State) (agent line : Nat) (c : CLine) : State :=
  { s with coh.caches := tblSet s.coh.caches (cacheKey agent line) c }

/-- A line of an agent becomes I. -/
def dropCacheLine (s : State) (agent line : Nat) : State :=
  { s with coh.caches := tblErase s.coh.caches (cacheKey agent line) }

/-- The shadow entry of a line; none is home state I. -/
def shadowOf (s : State) (line : Nat) : Option ShadowEnt := tblFind s.coh.shadow line

/-- Record a home state: an entry with no holder is no entry. -/
def setShadow (s : State) (line : Nat) (st : HomeSt) (owner : Option Nat) (sharers : List Nat) : State :=
  let s := { s with mem.useCtr := s.mem.useCtr + 1 }
  if st = .i ∨ (owner = none ∧ sharers = []) then { s with coh.shadow := tblErase s.coh.shadow line }
  else { s with coh.shadow := tblSet s.coh.shadow line ⟨st, owner, sharers, s.mem.useCtr⟩ }

/-- Take an agent out of a line's shadow entry: the state that is left (R296). -/
def leaveShadow (s : State) (line agent : Nat) : State :=
  match shadowOf s line with
  | none => s
  | some e =>
    let sh := e.sharers.filter (· != agent)
    if e.owner = some agent then setShadow s line (if sh = [] then .i else .s) none sh
    else setShadow s line (if e.st = .s ∧ sh = [] then .i else e.st) e.owner sh

/-- Does a poisoned line of a cache stay poisoned (R312)? -/
def clinePoison (c : CLine) : Bool := c.poison && decide (c.written ≠ fullMask)

/-- States in which a load hits (R294). -/
def loadHits : CState → Bool
  | .m => true
  | .o => true
  | .e => true
  | .s => true
  | _ => false

/-! ## The tag shadow (R289, R290) -/

/-- Lines an agent holds or waits for. -/
def linesHeld (s : State) (agent : Nat) : Nat := (s.coh.caches.filter (fun e => decide (e.1 / 2 ^ 45 = agent))).length

/-- Set of a line: home, bank and set of the bank's tag shadow (R289). -/
def shadowSetOf (s : State) (line : Nat) : Nat × Nat × Nat := (homeOf s line, bankOf s line, (Config.shadowSet line).toNat)

/-- Requests that bring a line into the tag shadow. -/
def takesState : ReqKind → Bool
  | .rdS => true
  | .rdM => true
  | .upg => true
  | _ => false

/-- The number that stands for a place in a full shadow set among what a transaction waits for (R290). -/
def roomAgent : Nat := 375

/-- A transaction waits for a place in its shadow set. -/
def blocked (t : Txn) : Bool := decide (t.waitFor = [roomAgent])

/-- Lines with a place in the shadow set of a line: those tracked, and those whose open transaction will track them (R289). -/
def setLines (s : State) (line : Nat) : List Nat :=
  ((s.coh.shadow.map (·.1)) ++ (s.coh.busy.filter (fun e => takesState e.2.kind && !blocked e.2)).map (·.1)).eraseDups.filter
    (fun l => decide (shadowSetOf s l = shadowSetOf s line))

/-- A line that is not tracked can enter its shadow set (R289). -/
def setHasRoom (s : State) (line : Nat) : Bool := (shadowOf s line).isSome || decide ((setLines s line).length < 16)

/-- The entry of a full set to back-invalidate: the least recently used one without a transaction (R290). -/
def shadowVictim (s : State) (line : Nat) : Option Nat :=
  ((s.coh.shadow.filter (fun e => decide (shadowSetOf s e.1 = shadowSetOf s line) && (tblFind s.coh.busy e.1).isNone)).foldl
    (fun (b : Option (Nat × ShadowEnt)) e =>
      match b with
      | none => some e
      | some f => if e.2.used < f.2.used then some e else some f) none).map (·.1)

/-! ## Reads through a cluster cache (R45, R46) -/

/-- State of an owner after it supplied a shared copy; a victim stays in its buffer (R294, R295). -/
def afterFwdS : CState → CState
  | .m => .o
  | .e => .s
  | x => x

/-- A place for a line in its shadow set: of a full set the least recently used entry is back-invalidated (R289, R290). None while that
needs an adapter's answer, or every entry is under a transaction (log entry 85). -/
def shadowPlace (s : State) (line : Nat) : Option State :=
  if setHasRoom s line then some s
  else
    match shadowVictim s line with
    | some v =>
      if (adapterOwner s v).isSome || decide (adapterSharers s v ≠ []) then none
      else some (recallLine (odBump s (odKey 0x5001 4) 1) v)
    | none => none

/-- RD_S of a cluster cache on a line that the home can serve at once, from the request to the install (R294, R296, R297): memory
gives a line without holders in E, an owner shares its copy. -/
def installShared (s : State) (a c line : Nat) : State :=
  let d := lineNow s line
  let give (s : State) (st : CState) : State := setCacheLine s a line ⟨st, true, d.1, d.2, 0, false, c, none⟩
  let fromMemory (s : State) : State :=
    if inT2 (line * 128) 128 then (if lineCached s line then cacheFill s line else readSectors s line) else s
  match shadowOf s line with
  | none => setShadow (give (fromMemory s) .e) line .x (some a) []
  | some e =>
    match e.owner with
    | none => setShadow (give (fromMemory s) .s) line .s none (addOnce e.sharers a)
    | some o =>
      let dirty := match cacheLine s o line with | some k => dirtySt k.st | none => false
      let s := match cacheLine s o line with
        | some k => setCacheLine s o line { k with st := afterFwdS k.st }
        | none => s
      let s := give (odBump s (odKey 0x5001 5) 1) .s
      if dirty then setShadow s line .o (some o) (addOnce e.sharers a) else setShadow s line .s none (addOnce (addOnce e.sharers o) a)

/-- A cluster reads a line that the home can serve at once: a line its cache holds is a hit and reaches no home; a miss fills the cache
where it has room for the line, as the tag shadow has (log entry 85). -/
def clusterLine (s : State) (a c line : Nat) : State :=
  match cacheLine s a line with
  | some k => if loadHits k.st then s else homeAsked s a c line
  | none =>
    let s := homeAsked s a c line
    if 16384 ≤ linesHeld s a ∨ s.coh.failed.contains a = true then s
    else
      match shadowPlace s line with
      | some s => installShared s a c line
      | none => s

/-- A cluster reads every line behind some ranges of store addresses. -/
def clusterRanges (s : State) (a c : Nat) (rs : List (Nat × Nat)) : State :=
  rs.foldl (fun s r => (linesOf r.1 r.2).foldl (fun s l => clusterLine s a c (fwdLine s l)) s) s

/-- A cluster reads `[cva, cva + n)` of a context through its cache; the bytes are those that the homes order. -/
def clusterRead (s : State) (a c cva n : Nat) : State := clusterRanges (touchRange s c cva n) a c (saParts s c cva n)

/-- Holding points of an engine, innermost first (R319). -/
def holdPath (e : Eng) : List HoldAt :=
  [.engine e] ++ (match cacheAgent e with | some a => [.cluster a] | none => []) ++ (if e.die.val < 24 then [.die e.die.val] else [])

/-- What a holding point holds of a line. -/
def heldAt (s : State) (p : HoldAt) (line : Nat) : Option HeldLine :=
  s.q.stores.find? (fun h => decide (h.place = p) && decide (h.line = line))

/-- Bytes with those of a mask exchanged. -/
def maskMerge : (mask : Nat) → (old new : Bytes) → Bytes
  | _, [], _ => []
  | _, old, [] => old
  | m, o :: os, n :: ns => (if m % 2 = 1 then n else o) :: maskMerge (m / 2) os ns

/-- Lines of each holding point (R319). -/
def holdCap : HoldAt → Nat
  | .engine _ => 16
  | .cluster _ => 64
  | .die _ => 256

/-- The agent that requests for an engine (R288): its cluster's cache, the Feed agent of its die; firmware processors have none. -/
def engAgent (e : Eng) : Nat :=
  match cacheAgent e with
  | some a => a
  | none => if e.kind = .feed then 344 + e.die.val else firmwareAgent

/-- The agent whose WR_NC empties a holding point: of a die write combiner the Feed agent of its die. -/
def holdAgent : HoldAt → Nat
  | .engine e => engAgent e
  | .cluster a => a
  | .die d => 344 + d

/-- A line of stores leaves its holding point for the home: WR_NC with its byte mask (R319, R296); it stays while the home cannot
serve it. -/
def lineHome (s : State) (h : HeldLine) : State :=
  if lineTakes s (fwdLine s h.line) then
    homeWriteLine { s with q.stores := s.q.stores.erase h } (holdAgent h.place) h.ctx h.line h.mask h.data
  else askHolders s (fwdLine s h.line)

/-- A cluster's store goes into its cache where the cluster owns the line (R294). -/
def cacheTakes (s : State) (a : Nat) (h : HeldLine) : Option State :=
  match cacheLine s a h.line with
  | some c =>
    if c.st = .m ∨ c.st = .e then
      some (setCacheLine { s with q.stores := s.q.stores.erase h } a h.line
        { c with st := .m, data := maskMerge h.mask c.data h.data, written := c.written ||| h.mask })
    else none
  | none => none

/-- The place after a holding point: a cluster for the stores of its engines, then the die, none for the home. -/
def nextHold : HoldAt → Option HoldAt
  | .engine e => (holdPath e)[1]?
  | .cluster a => some (.die (a / 14))
  | .die _ => none

/-- Put stores of a line into a holding point, joined with those it holds; the point is full where the flag is true. -/
def holdInto (s : State) (p : HoldAt) (h : HeldLine) : State × Bool :=
  match heldAt s p h.line with
  | some g =>
    let join (x : HeldLine) : HeldLine :=
      { x with mask := x.mask ||| h.mask, data := maskMerge h.mask (padTo 128 x.data) (padTo 128 h.data) }
    ({ s with q.stores := mapWhere (fun x => decide (x = g)) join s.q.stores }, false)
  | none =>
    ({ s with q.stores := s.q.stores ++ [{ h with place := p, data := padTo 128 h.data }] },
      decide (holdCap p < (s.q.stores.filter (fun x => decide (x.place = p))).length + 1))

/-- A line of stores moves one holding point on; pressure moves the oldest line of a full point on in turn. -/
def passOn : (fuel : Nat) → State → HeldLine → State
  | 0, s, _ => s
  | fuel + 1, s, h =>
    let onward (s : State) : State :=
      match nextHold h.place with
      | none => lineHome s h
      | some p =>
        match holdInto { s with q.stores := s.q.stores.erase h } p h with
        | (s, false) => s
        | (s, true) =>
          match s.q.stores.find? (fun x => decide (x.place = p)) with
          | some o => passOn fuel s o
          | none => s
    match h.place with
    | .engine e =>
      (match cacheAgent e with
       | some a => (cacheTakes s a h).getD (onward s)
       | none => onward s)
    | _ => onward s

/-- Every line of a holding point moves one point on. -/
def drainPoint (s : State) (p : HoldAt) : State :=
  (s.q.stores.filter (fun h => decide (h.place = p))).foldl (fun s h => if s.q.stores.contains h then passOn 4 s h else s) s

/-- One line of a holding point moves one point on. -/
def drainLine (s : State) (p : HoldAt) (line : Nat) : State :=
  match heldAt s p line with
  | some h => passOn 4 s h
  | none => s

/-- A holding point is emptied by a release at a scope (R319): a store queue by any release, a cluster store buffer at die scope
or wider, a die write combiner at device scope. -/
def emptiedBy (scope : Scope) : HoldAt → Bool
  | .engine _ => true
  | .cluster _ => decide (scope = .die) || decide (scope = .device)
  | .die _ => decide (scope = .device)

/-- A release (R320): the holding points of the engine below the scope are emptied, from the engine outwards. -/
def doRelease (s : State) (e : Eng) (scope : Scope) : State :=
  if cutOver s then s else ((holdPath e).filter (emptiedBy scope)).foldl drainPoint s

/-- Invalidate a line in a cluster cache: dirty data goes to memory, and the cache is a holder no more. A line under a transaction
stays: its requester holds nothing, or a snoop is on its way. -/
def invalidateHere (s : State) (agent line : Nat) : State :=
  match cacheLine s agent line with
  | some c =>
    if (tblFind s.coh.busy line).isSome || !loadHits c.st then s
    else
      let s := if dirtySt c.st then
          (let s' := memTake s line fullMask c.data
           if clinePoison c then poisonLine s' line else s')
        else s
      leaveShadow (dropCacheLine s agent line) line agent
  | none => s

/-- An acquire (R322). -/
def doAcquire (s : State) (e : Eng) (scope : Scope) : State :=
  if scope = .engine then s
  else
    let s := { s with q.copies := s.q.copies.filter (fun k => !decide (k.eng = e)) }
    match scope, cacheAgent e with
    | .die, some a =>
      (s.q.stores.filter (fun h => decide (h.place = .die e.die.val))).foldl (fun s h => invalidateHere s a h.line) s
    | _, _ => s

/-! ## Releases and acquires of descriptors (R152, R153, R325, R328) -/

/-- The scope that a SCOPE field names; out of range it is the device (R157). -/
def scopeOf (n : Nat) : Scope := if n = 1 then .engine else if n = 2 then .cluster else if n = 3 then .die else .device

/-- A place of stores lies in an instance of a scope. -/
def holdWithin (s : State) (inst : Nat) : HoldAt → Bool
  | .engine e => locContains inst (locEngine s e)
  | .cluster a => locContains inst (if a % 14 < 12 then locCode s 2 (a / 14) 0 (a % 14) 0 0 else locCode s 2 (a / 14) 1 (a % 14 - 12) 0 0)
  | .die d => locContains inst (locDie s d)

/-- Stores of a context that a release at an instance of a scope has still to drain. -/
def unreleased (s : State) (c inst scope : Nat) : List HeldLine :=
  s.q.stores.filter (fun h => decide (h.ctx = c) && emptiedBy (scopeOf scope) h.place && holdWithin s inst h.place)

/-- The release of a descriptor's engines (R328): the stores of its context move out of the holding points below its scope; three
rounds take a store from an engine to its home. -/
def releaseIn (s : State) (c inst scope : Nat) : State :=
  if cutOver s then s
  else (List.range 3).foldl (fun s _ =>
    (unreleased s c inst scope).foldl (fun s h => if s.q.stores.contains h then passOn 4 s h else s) s) s

/-- The acquire of a descriptor's engines (R152, R322): every engine of the instance discards its operand copies, and at die scope the
lines that the die's combiner holds go from the caches of its clusters. Which of them run the descriptor is not known yet (log
entry 81). -/
def acquireIn (s : State) (inst scope : Nat) : State :=
  if scope = 1 then s
  else
    let s := { s with q.copies := s.q.copies.filter (fun k => !locContains inst (locEngine s k.eng)) }
    if scope = 3 then
      let d := locDieOf inst
      (s.q.stores.filter (fun h => decide (h.place = .die d))).foldl (fun s h =>
        (List.range 14).foldl (fun s k => invalidateHere s (d * 14 + k) h.line) s) s
    else s

end Sys2Proof.Machine
end

