-- ==== Sys2Proof/Machine/Queues.lean ====
section
/-! DEFINITION. Queues (R147-R157, R537, R655): reading a slot, the checks and waits before a dispatch, anchors (R323, R324),
jobs, and the parts of a completion that every KIND shares (R150-R153, R328). -/

namespace Sys2Proof.Machine

/-! ## The descriptor header (R156) -/

/-- OPCODE. -/
def dOp (d : Nat) : Nat := field d 0 8

/-- SCOPE. -/
def dScope (d : Nat) : Nat := field d 8 3

/-- WAIT_EN. -/
def dWaitEn (d : Nat) : Bool := bitOf d 11

/-- SIGNAL_EN. -/
def dSigEn (d : Nat) : Bool := bitOf d 12

/-- FENCE. -/
def dFence (d : Nat) : Bool := bitOf d 13

/-- WAIT_ID. -/
def dWaitId (d : Nat) : Nat := field d 16 16

/-- SIGNAL_ID. -/
def dSigId (d : Nat) : Nat := field d 32 16

/-- TAG. -/
def dTag (d : Nat) : Nat := field d 48 16

/-- WAIT_VALUE. -/
def dWaitVal (d : Nat) : Nat := field d 64 64

/-- The opcodes of each KIND (R156, R205, R255, R257, R336, R356, R449), with the operations of ROWOP (R168). -/
def opDefined (kind d : Nat) : Bool :=
  let op := dOp d
  match kind with
  | 1 => [0, 1, 2, 4, 5, 0xF].contains op || (decide (op = 3) && decide (field d 140 4 ≤ 2))
  | 2 => [0, 0x40, 0x41].contains op
  | 3 => [0, 0x30, 0x31, 0x32, 0x33, 0x34, 0x35].contains op
  | 4 => [0, 0x20, 0x21, 0x22, 0x23, 0x24].contains op
  | 5 => [0, 0x50, 0x51, 0x52].contains op
  | 6 => [0, 0x60, 0x61].contains op
  | 7 => [0, 0x70, 0x71, 0x72, 0x73, 0x74, 0x75].contains op
  | _ => false

/-! ## Queues -/

/-- Key of a queue. -/
def qKey (c q : Nat) : Nat := c * 16 + q

/-- A queue that is enabled (R147). -/
def queueOf (s : State) (c q : Nat) : Option Queue :=
  match tblFind s.q.queues (qKey c q) with
  | some x => if x.enabled then some x else none
  | none => none

/-- A queue that has ever been enabled: one that has been disabled since still completes what it dispatched. -/
def queueEver (s : State) (c q : Nat) : Option Queue := tblFind s.q.queues (qKey c q)

/-- Put back a queue. -/
def setQueue (s : State) (c q : Nat) (x : Queue) : State := { s with q.queues := tblSet s.q.queues (qKey c q) x }

/-- CVA of the slot of an index (R148). -/
def slotCva (x : Queue) (i : Nat) : Nat := x.ring + 64 * (i % 2 ^ x.log2)

/-- What the read of a ring slot gives (R655). -/
inductive SlotRead where
  | unreadable | poison | desc (d : Nat)
  deriving DecidableEq, Repr

/-- Read the ring slot of an index (R655). -/
def readSlot (s : State) (c : Nat) (x : Queue) (i : Nat) : SlotRead :=
  if pinnedOk s c (slotCva x i) 64 .read then
    let r := cvaBytes s c (slotCva x i) 64
    if r.2 then .poison else .desc (leNat r.1)
  else .unreadable

/-- A STEP_COMMIT of the queue has not completed: nothing later is dispatched (R583). -/
def stepHolds (s : State) (c q : Nat) : Bool :=
  s.q.jobs.any (fun j => decide (j.ctx = c) && decide (j.queue = q) && decide (j.kind = 1) && decide (j.op = 0xF))

/-- The queue may dispatch its next descriptor, as far as its state and its context go. -/
def mayDispatch (s : State) (c q : Nat) (x : Queue) : Bool :=
  ctxActive s c && admitting s && procRunning s x.scribe && decide (x.disp ≠ x.tail) && !stepHolds s c q

/-- A tail lies ahead of an index (R148). -/
def ahead (tail i : Nat) : Bool :=
  decide (1 ≤ (tail + 2 ^ 32 - i) % 2 ^ 32) && decide ((tail + 2 ^ 32 - i) % 2 ^ 32 < 2 ^ 31)

/-- The generation that the doorbell which named a descriptor stamped on it (R87): of the tails ahead of it the oldest. -/
def stampOf (s : State) (x : Queue) (i : Nat) : Nat :=
  match x.stamps.find? (fun e => ahead e.1 i) with
  | some e => e.2
  | none => genNow s

/-- The stamps of a queue after a doorbell: those of tails that have been passed go. -/
def addStamp (s : State) (x : Queue) (tail : Nat) : List (Nat × Nat) :=
  x.stamps.filter (fun e => ahead e.1 x.disp) ++ [(tail, genNow s)]

/-- Values that a generation gives a MATMUL, a window or a step (R87, R137): 0-4 OD 0x2100.01-05, 5-8 OD 0x2110.01-04, 9 and 10 OD
0x2200.01-02. -/
def stampValues (s : State) (g : Nat) : List Nat :=
  [1, 2, 3, 4, 5].map (fun i => odAt s g (odKey 0x2100 i)) ++ [1, 2, 3, 4].map (fun i => odAt s g (odKey 0x2110 i)) ++
    [1, 2].map (fun i => odAt s g (odKey 0x2200 i))

/-- The values of the descriptor that a queue dispatches next. -/
def stamped (s : State) (x : Queue) : List Nat := stampValues s (stampOf s x x.disp)

/-! ## Anchors (R323, R324) -/

/-- The firmware processor that executes the descriptors of a queue itself: the active management core for tier and
translation queues, the serving scribe core for sync and fabric queues (R203, R253, R323). -/
def executor (s : State) (x : Queue) : Option Nat :=
  if x.kind = 3 ∨ x.kind = 4 then some (activeCore s) else if x.kind = 5 ∨ x.kind = 7 then some x.scribe else none

/-- A new anchor at a level, as the scribe core chooses it. -/
def newAnchor (s : State) (n kind level : Nat) : Nat :=
  let k := if kind = 6 then 1 else if kind = 2 then 2 else 0
  let cl := if kind = 6 then 2 else if kind = 2 then 4 else 12
  if level = 3 then locDie s (n % 24)
  else if level = 2 then locCode s 2 (n % 24) k (n / 24 % cl) 0 0
  else locCode s 1 (n % 24) k (n / 24 % cl) (n / 24 / cl % 8) 0

/-- The anchor of a queue at a level, where it has one. -/
def anchorAt (x : Queue) (level : Nat) : Option Nat :=
  if level = 1 then x.anchor1 else if level = 2 then x.anchor2 else if level = 3 then x.anchor3 else none

/-- Give a queue its anchor at a level. -/
def setAnchor (x : Queue) (level a : Nat) : Queue :=
  if level = 1 then { x with anchor1 := some a } else if level = 2 then { x with anchor2 := some a } else { x with anchor3 := some a }

/-- The anchor that the partner queue shares (R324). -/
def partnerAnchor (s : State) (c q : Nat) (x : Queue) (level : Nat) : Option Nat :=
  match queueOf s c (if q % 2 = 0 then q + 1 else q - 1) with
  | some y => if level = 3 ∨ y.kind = x.kind then anchorAt y level else none
  | none => none

/-- The instance of a scope in which a queue's descriptors run, chosen where it has not been (R323). -/
def instanceOf (s : State) (c q : Nat) (x : Queue) (scope : Nat) : Nat × State :=
  if scope = 0 ∨ 4 ≤ scope then (locDevice s, s)
  else
    match executor s x with
    | some p => (if scope = 1 then locProc s p else locDie s (procDie p), s)
    | none =>
      match anchorAt x scope with
      | some a => (a, s)
      | none =>
        match partnerAnchor s c q x scope with
        | some a => (a, setQueue s c q (setAnchor x scope a))
        | none =>
          let (n, s) := draw s
          let a := newAnchor s n x.kind scope
          (a, setQueue s c q (setAnchor x scope a))

/-- The acquire of a descriptor on a mordant (R152, R340). Where the instance of its scope is wider than LLOC, which engines
of it run the descriptor is the scribe core's choice. -/
def descAcquire (s : State) (c q m scope : Nat) : State :=
  match queueOf s c q with
  | none => s
  | some x =>
    let (inst, s) := instanceOf s c q x scope
    let r := mordGet s m
    let s := acquireIn s (match executor s x with | some p => locProc s p | none => inst) scope
    let (loc, s) :=
      match executor s x with
      | some p => (locProc s p, s)
      | none =>
        if locContains inst r.lloc && !locContains r.lloc inst then
          let (n, s) := draw s
          (if n % 2 = 0 then r.lloc else inst, s)
        else (inst, s)
    mordAcquire s c m scope inst loc

/-! ## Jobs -/

/-- Add a job for the descriptor that a queue dispatches next. -/
def addJob (s : State) (c q : Nat) (x : Queue) (d : Nat) (body : JobBody) (result : Option Nat) : State :=
  let j : Job := ⟨c, q, x.disp, x.kind, dOp d, dTag d, stampOf s x x.disp, dScope d, dSigEn d && mordOwned s c (dSigId d), dSigId d, body, result⟩
  let s := { s with q.jobs := s.q.jobs ++ [j] }
  setQueue s c q { x with disp := (x.disp + 1) % 2 ^ 32, wait := .unasked }

/-- The job of a descriptor. -/
def jobFind (s : State) (c q i : Nat) : Option Job :=
  s.q.jobs.find? (fun j => decide (j.ctx = c) && decide (j.queue = q) && decide (j.idx = i))

/-- Change the job of a descriptor. -/
def jobUpd (s : State) (c q i : Nat) (f : Job → Job) : State :=
  { s with q.jobs := mapWhere (fun j => decide (j.ctx = c) && decide (j.queue = q) && decide (j.idx = i)) f s.q.jobs }

/-- The work of a descriptor has ended with a completion record; a record already there stays. -/
def jobEnd (s : State) (c q i rec : Nat) : State :=
  jobUpd s c q i (fun j => match j.result with | some _ => j | none => { j with result := some rec })

/-- Counters of OD 0x3005 for tier completions (R210, R211). -/
def countStatus (s : State) (st : Status) : State :=
  match st with
  | .quota => odBump s (odKey 0x3005 1) 1
  | .throttled => odBump s (odKey 0x3005 2) 1
  | _ => s

/-! ## Taking a queue up -/

/-- Clear or set a processor's SUBS bit of a mordant (R335). -/
def setSubs (s : State) (m p : Nat) (on : Bool) : State :=
  let r := mordGet s m
  let cleared := if r.subs.testBit p then r.subs - 2 ^ p else r.subs
  mordSet s m { r with subs := if on then cleared + 2 ^ p else cleared }

/-- Another queue served by the same processor waits on the same mordant. -/
def othersWait (s : State) (key m p : Nat) : Bool :=
  s.q.queues.any (fun e => decide (e.1 ≠ key) && decide (e.2.scribe = p) && decide (e.2.wait = .waiting m))

/-- A queue waits no more on the mordant it waited on: its processor's SUBS bit is cleared unless another queue of it waits (R335). -/
def endWait (s : State) (c q : Nat) (x : Queue) : State :=
  match x.wait with
  | .waiting m => if othersWait s (qKey c q) m x.scribe then s else setSubs s m x.scribe false
  | _ => s

/-- Check 1 of R157, with the rule of R336 for sync queues: mordants belong to the context, SCOPE is 1-4 where it is used. -/
def headerOk (s : State) (c kind d : Nat) : Bool :=
  (!dWaitEn d || mordOwned s c (dWaitId d)) && (!dSigEn d || mordOwned s c (dSigId d)) &&
    ((!dWaitEn d && !dSigEn d && !(decide (kind = 5) && decide (dOp d ≠ 0))) || (decide (1 ≤ dScope d) && decide (dScope d ≤ 4)))

/-- A descriptor is dispatched only after every earlier one of its queue has completed: FENCE (R154), sync queues (R336) and
STEP_COMMIT (R583). -/
def fenced (kind d : Nat) : Bool := dFence d || decide (kind = 5) || (decide (kind = 1) && decide (dOp d = 0xF))

/-- A FENCE waits for stores of its context that are not released at device scope (R154). -/
def fenceHeld (s : State) (c d : Nat) : Bool := dFence d && decide (unreleased s c (locDevice s) 4 ≠ [])

/-- The wait of a descriptor (R152): satisfied, or a processor's SUBS bit is set and the queue waits (R333, R335). -/
def pollWait (s : State) (c q : Nat) (x : Queue) (d : Nat) : State :=
  let m := dWaitId d
  if dWaitVal d ≤ (mordGet s m).value then
    let s := odBump (endWait s c q x) (odKey 0x5003 4) 1
    let s := setQueue s c q { x with wait := .satisfied }
    descAcquire s c q m (dScope d)
  else setQueue (setSubs s m x.scribe true) c q { x with wait := .waiting m }

/-- The record of a descriptor that did no work: of a Feed queue, STOP is all ones (R265); of a MATMUL, LAYER_ID is copied (R169). -/
def plainRecord (kind : Nat) (st : Status) (d : Nat) : Nat :=
  if kind = 2 then recFeed st (dOp d) (dTag d) 0 (2 ^ 40 - 1) 0 0 0
  else if kind = 1 ∧ dOp d = 1 then recHead st (dOp d) (dTag d) + field d 176 16 * 2 ^ 32
  else recHead st (dOp d) (dTag d)

/-- The 40-bit length field of a descriptor holds the reserved all-ones value (R20): LENGTH of Feed and tier queues, PAGES of MAP, UNMAP
and PROTECT, COUNT of STALE_SCAN. -/
def lengthReserved (kind d : Nat) : Bool :=
  decide (kind = 2 ∧ (dOp d = 0x40 ∨ dOp d = 0x41) ∧ field d 128 40 = 2 ^ 40 - 1) ||
    decide (kind = 4 ∧ dOp d ≠ 0 ∧ field d 160 40 = 2 ^ 40 - 1) ||
    decide (kind = 3 ∧ 0x30 ≤ dOp d ∧ dOp d ≤ 0x32 ∧ field d 160 40 = 2 ^ 40 - 1) ||
    decide (kind = 6 ∧ dOp d = 0x61 ∧ field d 168 40 = 2 ^ 40 - 1)

/-- The status of a descriptor whose header fails (R157): RANGE where its SIGNAL_ID is not the context's, else the first of R20. -/
def headerStatus (s : State) (c kind d : Nat) : Status :=
  if dSigEn d && !mordOwned s c (dSigId d) then .range
  else if opDefined kind d && lengthReserved kind d then .reservedLength else .range

/-- One descriptor at the head of a queue's dispatch is looked at; true where the next one may be looked at at once. -/
def pollOne (s : State) (c q : Nat) : State × Bool :=
  match queueOf s c q with
  | none => (s, false)
  | some x =>
    if !mayDispatch s c q x then (s, false)
    else if pinnedOk s c (slotCva x x.disp) 64 .read && !cvaFree s c (slotCva x x.disp) 64 then
      (askRanges s (saParts s c (slotCva x x.disp) 64), false)
    else
      match readSlot s c x x.disp with
      | .unreadable => (logEv (addJob s c q x 0 .plain (some (recHead .range 0 0))) "QUEUE_SLOT" [c, q, x.disp], true)
      | .poison => (logEv (addJob s c q x 0 .plain (some (recHead .poison 0 0))) "QUEUE_SLOT" [c, q, x.disp], true)
      | .desc d =>
        if fenced x.kind d && decide (x.head ≠ x.disp) then (s, false)
        else if fenceHeld s c d then
          let s' := releaseIn s c (locDevice s) 4
          (s', !fenceHeld s' c d)
        else if !headerOk s c x.kind d then
          (addJob (endWait s c q x) c q x d .plain (some (plainRecord x.kind (headerStatus s c x.kind d) d)), true)
        else if dWaitEn d && decide (x.wait ≠ .satisfied) then
          if dWaitVal d ≤ (mordGet s (dWaitId d)).value then (pollWait s c q x d, true) else (pollWait s c q x d, false)
        else if !opDefined x.kind d then
          (addJob s c q x d .plain (some (plainRecord x.kind .range d)), true)
        else (s, false)

/-- A scribe core takes a queue up: it goes on until a descriptor is ready for its own dispatch, or must wait. -/
def pollLoop (c q : Nat) : (fuel : Nat) → State → State
  | 0, s => s
  | fuel + 1, s =>
    match pollOne s c q with
    | (s', true) => pollLoop c q fuel s'
    | (s', false) => s'

/-- Fuel: each waiting descriptor is looked at three times at most. -/
def pollFuel (s : State) (c q : Nat) : Nat :=
  match queueOf s c q with
  | some x => 3 * ((x.tail + 2 ^ 32 - x.disp) % 2 ^ 32) + 1
  | none => 0

/-- A scribe core takes a queue up. -/
def queuePoll (s : State) (c q : Nat) : State := pollLoop c q (pollFuel s c q) s

/-- Every queue of the device with something to dispatch is taken up, in order of its key. -/
def pollAll (s : State) : State := s.q.queues.foldl (fun s e => queuePoll s (e.1 / 16) (e.1 % 16)) s

/-- The descriptor that a queue is ready to dispatch: its queue and its 512 bits. -/
def readyDesc (s : State) (c q : Nat) : Option (Queue × Nat) :=
  match queueOf s c q with
  | none => none
  | some x =>
    if !mayDispatch s c q x then none
    else if !cvaFree s c (slotCva x x.disp) 64 then none
    else
      match readSlot s c x x.disp with
      | .desc d =>
        if (fenced x.kind d && decide (x.head ≠ x.disp)) || fenceHeld s c d then none
        else if !headerOk s c x.kind d then none
        else if dWaitEn d && decide (x.wait ≠ .satisfied) then none
        else if !opDefined x.kind d then none
        else some (x, d)
      | _ => none

/-- The state in which a descriptor's own work begins: its slot has been read, and its anchor chosen where it needs one (R323). -/
def beginWork (s : State) (c q : Nat) (x : Queue) (d : Nat) : State :=
  let s := (cvaRead s firmwareAgent c (slotCva x x.disp) 64).2
  if (dWaitEn d || dSigEn d) && decide (dScope d < 4) then (instanceOf s c q x (dScope d)).2 else s

/-- Dispatch as one opcode of one KIND: the queue is taken up and the descriptor's own work begun by `k` under the generation stamped
on it (R87); nothing happens where another command is due. -/
def dispatchAs (s : State) (c q : Nat) (kinds : List Nat) (is : Nat → Bool) (k : State → Queue → Nat → State) : State :=
  let s := queuePoll s c q
  match readyDesc s c q with
  | none => s
  | some (x, d) =>
    if kinds.contains x.kind && is d then
      let s := beginWork s c q x d
      match queueOf s c q with
      | some x' => underGen s (stampOf s x' x'.disp) (fun s => k s x' d)
      | none => s
    else s

/-! ## Completion -/

/-- The head of a queue moves past the descriptors that have completed (R150). -/
def advanceHead : (fuel : Nat) → Queue → Queue
  | 0, x => x
  | fuel + 1, x =>
    if x.finished.contains x.head then
      advanceHead fuel { x with head := (x.head + 1) % 2 ^ 32, finished := x.finished.filter (· != x.head) }
    else x

/-- Write the completion record of a descriptor at its place, with PHASE (R151); a ring that no longer lies in a DEVICE entry
takes none. -/
def writeRecord (s : State) (c : Nat) (x : Queue) (i rec : Nat) : State :=
  let r := rec % 2 ^ 232 + (if bitOf i x.log2 then 2 ^ 232 else 0)
  cvaWrite s firmwareAgent c (x.compl + 32 * (i % 2 ^ x.log2)) (natLe 32 r)

/-- The scope of a job's release: its SCOPE, the device where that is out of range (R157). -/
def jobScope (j : Job) : Nat := if 1 ≤ j.scope ∧ j.scope ≤ 4 then j.scope else 4

/-- The instance in which a job releases (R323, R328): the anchor of its queue where it signals, the processor that executes it; any other
descriptor runs on engines of the whole device. -/
def releaseInst (s : State) (j : Job) (x : Queue) : Nat × State :=
  if j.sigEn || (executor s x).isSome then instanceOf s j.ctx j.queue x (jobScope j) else (locDevice s, s)

/-- The release that comes before a job's completion record (R328): the new state, and whether a store still waits for its home. -/
def jobRelease (s : State) (j : Job) : State × Bool :=
  match queueEver s j.ctx j.queue with
  | some x =>
    let (inst, s) := releaseInst s j x
    let s := releaseIn s j.ctx inst (jobScope j)
    (s, decide (unreleased s j.ctx inst (jobScope j) ≠ []))
  | none => (s, false)

/-- SIGNAL of a job (R153, R332): at its home the mordant must still belong to the context. -/
def signalJob (s : State) (c q : Nat) (j : Job) : State :=
  if mordOwned s c j.sigId then
    let scope := jobScope j
    match queueEver s c q with
    | some x =>
      let (inst, s) := instanceOf s c q x scope
      mordUpdate s j.sigId ((mordGet s j.sigId).value + 1) scope inst
    | none => mordUpdate s j.sigId ((mordGet s j.sigId).value + 1) 4 (locDevice s)
  else logEv s "MORDANT_STALE" [j.sigId, c]

/-- The record with which a job completes: a context that is no longer ACTIVE completes with TORN (R460, R20), which leaves BYTES of a
tier or translation descriptor 0 (R207). -/
def finalRecord (s : State) (j : Job) (rec : Nat) : Nat :=
  if ctxActive s j.ctx then rec
  else if j.kind = 3 ∨ j.kind = 4 then recBytes .torn j.op j.tag 0
  else recWithStatus rec .torn

/-- The completion of a job whose work has ended (R328, R150-R153): the record, the head, the flags, the signal; and the
withdrawals of its context that wait for it (R252). -/
def completeCore (s : State) (j : Job) (rec : Nat) : State :=
  let c := j.ctx
  let r := finalRecord s j rec
  let s :=
    match queueEver s c j.queue with
    | some x =>
      let s := writeRecord s c x j.idx r
      let s := setQueue s c j.queue (advanceHead (x.finished.length + 1) { x with finished := addOnce x.finished j.idx })
      s
    | none => s
  let s := { s with q.jobs := s.q.jobs.filter (fun k => !(decide (k.ctx = c) && decide (k.queue = j.queue) && decide (k.idx = j.idx))) }
  let s := flagEvent s c 0
  let s := if 0x10 ≤ recStatus r then flagEvent s c 1 else s
  let s := if j.sigEn && ctxActive s c then signalJob s c j.queue j else s
  { s with xlat.withdrawals := s.xlat.withdrawals.map (fun e =>
      if e.1 = c then (e.1, { e.2 with waitFor := e.2.waitFor.filter (fun p => p != (qKey c j.queue, j.idx)) }) else e) }

/-! ## Doorbells and flag clears of a host (R343, R480, R482) -/

/-- A doorbell of a queue (R148, R480). -/
def ringDoorbell (s : State) (c q tail : Nat) : State :=
  match queueOf s c q with
  | none => logEv s "DOORBELL_DISABLED" [c, q]
  | some x =>
    let d := (tail + 2 ^ 32 - x.tail) % 2 ^ 32
    if d = 0 then s
    else if 2 ^ 31 ≤ d then odBump s (odKey 0x7110 1) 1
    else if 2 ^ x.log2 < (tail + 2 ^ 32 - x.head) % 2 ^ 32 then logEv s "DOORBELL_OVERRUN" [c, q, tail]
    else queuePoll (acquireIn (setQueue s c q { x with tail := tail, stamps := addStamp s x tail }) (locProc s x.scribe) 4) c q

/-- A write of a register of a context's page takes effect: CW_DOORBELL or CW_FLAGCOUNT. -/
def cwApply (s : State) (c off value : Nat) : State :=
  if off = 0 then ringDoorbell s c (value % 16) (field value 32 32) else flagClearAt s c ((off - 0x80) / 4) value

/-- TAGs of host writes of a port for a context that have not been ordered. -/
def hostWaits (s : State) (port c : Nat) : List Nat :=
  (s.fab.hostWrites.filter (fun w => decide (w.1 = port) && decide (w.2.1 = c))).map (·.2.2)

/-- A context-window write of a host: it is held until every earlier host write of its function has been ordered (R482). -/
def cwWrite (s : State) (port c off value : Nat) : State :=
  let ws := hostWaits s port c
  if ws = [] then cwApply s c off value else { s with fab.heldCw := s.fab.heldCw ++ [⟨port, c, off, value, ws⟩] }

/-- A host write of a port for a context has been ordered, or refused: the context-window writes that waited for nothing else take effect,
in order (R482). -/
def hostOrdered (s : State) (port c tag : Nat) : State :=
  if s.fab.hostWrites.contains (port, c, tag) then
    let held := s.fab.heldCw.map (fun h => if h.port = port ∧ h.ctx = c then { h with waits := h.waits.erase tag } else h)
    (held.filter (fun h => h.waits = [])).foldl (fun s h => cwApply s h.ctx h.off h.value)
      { s with fab.hostWrites := s.fab.hostWrites.erase (port, c, tag), fab.heldCw := held.filter (fun h => h.waits ≠ []) }
  else s

/-- A host write goes on under another TAG or ticket. -/
def hostRenamed (s : State) (port c old new : Nat) : State :=
  let held := s.fab.heldCw.map (fun h =>
    if h.port = port ∧ h.ctx = c then { h with waits := h.waits.map (fun t => if t = old then new else t) } else h)
  { s with fab.hostWrites := s.fab.hostWrites.map (fun w => if w = (port, c, old) then (port, c, new) else w), fab.heldCw := held }

end Sys2Proof.Machine
end

