-- ==== Sys2Proof/Machine/Frames.lean ====
section
/-! DEFINITION. Frames and pools (R194, R201, R206, R209-R211, R653), tier flags (R213, R217, R219), range-table blocks (R243)
and withdrawals (R244-R246, R280, R475). -/

namespace Sys2Proof.Machine

/-! ## Free frames -/

/-- Insert a run in order of its start. -/
def insertRun (r : Run) : List Run → List Run
  | [] => [r]
  | x :: t => if r.start < x.start then r :: x :: t else x :: insertRun r t

/-- The gaps of `[lo, hi)` that no run of a rising list covers: start and count. -/
def gapsOf : (lo hi : Nat) → List Run → List (Nat × Nat)
  | lo, hi, [] => if lo < hi then [(lo, hi - lo)] else []
  | lo, hi, r :: t =>
    if lo < min r.start hi then (lo, min r.start hi - lo) :: gapsOf (max lo (r.start + r.count)) hi t
    else gapsOf (max lo (r.start + r.count)) hi t

/-- Take `n` frames from gaps, in their order. -/
def takeFrom : List (Nat × Nat) → (n : Nat) → List (Nat × Nat)
  | [], _ => []
  | g :: t, n => if n = 0 then [] else (g.1, min g.2 n) :: takeFrom t (n - min g.2 n)

/-- Take frames `[a, a + k)` out of a list of runs. -/
def cutRuns (l : List Run) (a k : Nat) : List Run :=
  (l.map (fun r =>
    let before : List Run := if r.start < a then [{ r with count := min r.count (a - r.start) }] else []
    let after : List Run :=
      if a + k < r.start + r.count then
        let b := max r.start (a + k)
        [{ r with start := b, count := r.start + r.count - b }]
      else []
    if r.start + r.count ≤ a ∨ a + k ≤ r.start then [r] else before ++ after)).flatten

/-- First page of the T1 placed region, and its pages that may be allocated: those still draining are left out (R202). -/
def t1First : Nat := t1Base / 4096

/-- One past the last page of T1 that may be allocated. -/
def t1End (s : State) : Nat := t1First + placedBytes s / 4096 - s.mem.draining

/-- Pages of T2. -/
def t2Pages : Nat := t2Size / 4096

/-- Frames in a list of runs. -/
def runTotal (l : List Run) : Nat := (l.map (·.count)).sum

/-- Frames of a context in a list of runs. -/
def runOf (l : List Run) (c : Nat) : Nat := runTotal (l.filter (fun r => r.ctx = c))

/-- MiB of frames, rounded up (R209). -/
def mib (frames : Nat) : Nat := ceilDiv frames 256

/-- An extent (R483): first host page, pages, port. -/
def extentOf (b : Bytes) : Nat × Nat × Nat := (field (leNat b) 12 52, field (leNat b) 64 40, field (leNat b) 104 3)

/-- The extents lent: subindex, first host page, pages, port, in the order of OD 0x7300. -/
def extents (s : State) : List (Nat × Nat × Nat × Nat) :=
  (s.blobs.filter (fun e => decide (e.1 / 256 = 0x7300) && decide (e.2 ≠ []))).map (fun e => (e.1 % 256, extentOf e.2))

/-- An extent serves requests: its port is AGREED with the adapter it is bound to (R469, R483). -/
def extentUsable (s : State) (sub port : Nat) : Bool :=
  decide (urzenState s port = 2) &&
    decide (field (tblGet 0 s.fab.bindings sub) 0 60 = field (odGet s (odKey 0x7103 port)) 0 60)

/-- Runs of T3 frames in an extent. -/
def t3Runs (s : State) (sub : Nat) : List Run := (s.tier.t3.filter (fun r => r.1 = sub)).map (·.2)

/-- T3 frames of a context. -/
def t3Of (s : State) (c : Nat) : Nat := runOf (s.tier.t3.map (·.2)) c

/-- Pages lent in all (OD 0x3004.03), and free ones. -/
def t3Total (s : State) : Nat := ((extents s).map (fun e => e.2.2.1)).sum

/-- The charge of a context in a tier, in frames: 1 T1 placed, 2 T2, 3 T3 (R209). -/
def chargeFrames (s : State) (c tier : Nat) : Nat :=
  if tier = 1 then runOf s.tier.t1 c else if tier = 2 then runOf s.tier.t2 c else t3Of s c

/-- The quota of a context in a tier, in MiB. -/
def quotaMib (s : State) (c tier : Nat) : Nat :=
  odGet s (odCtx (if tier = 1 then 0x3100 else if tier = 2 then 0x3120 else 0x3130) c)

/-- Frames of a pool. -/
def poolTotal (s : State) (tier : Nat) : Nat :=
  if tier = 1 then placedBytes s / 4096 else if tier = 2 then t2Pages else t3Total s

/-- Free frames of a pool. -/
def poolFree (s : State) (tier : Nat) : Nat :=
  if tier = 1 then placedBytes s / 4096 - s.mem.draining - runTotal s.tier.t1
  else if tier = 2 then t2Pages - runTotal s.tier.t2
  else t3Total s - runTotal (s.tier.t3.map (·.2))

/-- The short mark of a pool, per mille (R211). -/
def shortMark (s : State) (tier : Nat) : Nat := odGet s (odKey 0x3003 tier)

/-- An allocation of `n` frames from a context would bring the pool below its short mark (R211). -/
def wouldShort (s : State) (tier n : Nat) : Bool :=
  decide (poolFree s tier < n) || decide ((poolFree s tier - n) * 1000 < shortMark s tier * poolTotal s tier)

/-- A pool is short now. -/
def isShort (s : State) (tier : Nat) : Bool := decide (poolFree s tier * 1000 < shortMark s tier * poolTotal s tier)

/-- Event POOL_SHORT when a pool becomes short, by a refused request or by the device's own draw, and again when it recovers
(R211). -/
def notePool (s : State) (tier : Nat) (refused : Bool) : State :=
  let now := refused || isShort s tier
  if now && !s.tier.short.contains tier then logEv { s with tier.short := s.tier.short ++ [tier] } "POOL_SHORT" [tier, 1]
  else if !now && s.tier.short.contains tier then
    logEv { s with tier.short := s.tier.short.filter (· != tier) } "POOL_SHORT" [tier, 0]
  else s

/-! ## Choosing frames (R653) -/

/-- T1 placed frames, lowest address first (R201). -/
def chooseT1 (s : State) (n : Nat) : List (Nat × Nat) := takeFrom (gapsOf t1First (t1End s) s.tier.t1) n

/-- The group of a T2 frame (R394), and whether it is LOST (R418). -/
def frameLost (s : State) (frame : Nat) : Bool := decide (odGet s (odKey 0x8010 (frame / 8 % 3)) = 2)

/-- Some group is LOST. -/
def anyLost (s : State) : Bool := [0, 1, 2].any (fun g => decide (odGet s (odKey 0x8010 g) = 2))

/-- The first frame at or after `f` whose group takes allocations. -/
def nextAllowed (s : State) (f : Nat) : Nat :=
  if !frameLost s f then f
  else if !frameLost s (f / 8 * 8 + 8) then f / 8 * 8 + 8
  else f / 8 * 8 + 16

/-- T2 frames in an order that the device chooses: gap, start and length of each run are free values (R653). A stripe of a LOST
group gives none (R418). -/
def chooseT2 : (fuel : Nat) → State → List Run → (n : Nat) → List (Nat × Nat) × State
  | 0, s, _, _ => ([], s)
  | fuel + 1, s, used, n =>
    if n = 0 then ([], s)
    else
      let gaps := (gapsOf 0 t2Pages used).filter (fun g => decide (nextAllowed s g.1 < g.1 + g.2) && !frameLost s (nextAllowed s g.1))
      let (a, s) := draw s
      let (b, s) := draw s
      let (l, s) := draw s
      match gaps[a % max gaps.length 1]? with
      | none => ([], s)
      | some g =>
        let f := nextAllowed s (g.1 + b % g.2)
        let f := if f < g.1 + g.2 ∧ ¬ frameLost s f then f else nextAllowed s g.1
        let room := if anyLost s then min (g.1 + g.2 - f) (8 - f % 8) else g.1 + g.2 - f
        let k := 1 + l % min room n
        let (rest, s) := chooseT2 fuel s (insertRun ⟨f, k, 0⟩ used) (n - k)
        ((f, k) :: rest, s)

/-- T3 frames from the usable extents of a port, in subindex order, lowest host address first: subindex, page, count. -/
def chooseT3 (s : State) (port : Nat) : (es : List (Nat × Nat × Nat × Nat)) → (n : Nat) → List (Nat × Nat × Nat)
  | [], _ => []
  | e :: t, n =>
    if e.2.2.2 = port ∧ extentUsable s e.1 port = true then
      let got := takeFrom (gapsOf e.2.1 (e.2.1 + e.2.2.1) (t3Runs s e.1)) n
      got.map (fun g => (e.1, g)) ++ chooseT3 s port t (n - (got.map (·.2)).sum)
    else chooseT3 s port t n

/-! ## Giving and taking back -/

/-- Pages of a store frame read as zero (R206): in memory and, for T2, on the cartridges; no copy of them is left. -/
def zeroFrames (s : State) (page n : Nat) : State :=
  let within (l : Nat) : Bool := decide (page * 32 ≤ l) && decide (l < (page + n) * 32)
  let s := { s with mem.mem := memZero s.mem.mem (page * 4096) (n * 4096),
                    mem.poison := s.mem.poison.filter (fun l => !within l),
                    coh.shadow := s.coh.shadow.filter (fun e => !within e.1),
                    coh.caches := s.coh.caches.filter (fun e => !within (e.1 % 2 ^ 45)) }
  if tierOfPage page = 2 then
    let s := setCache s (s.mem.cache.filter (fun f => !(decide (page ≤ f.frame) && decide (f.frame < page + n))))
    { s with mem.media := memZero s.mem.media (page * 4096) (n * 4096) }
  else s

/-- Frames of the store pass to a context. -/
def giveFrames (s : State) (c : Nat) (l : List (Nat × Nat)) : State :=
  l.foldl (fun s g =>
    let s := zeroFrames s g.1 g.2
    if tierOfPage g.1 = 2 then { s with tier.t2 := insertRun ⟨g.1, g.2, c⟩ s.tier.t2 }
    else { s with tier.t1 := insertRun ⟨g.1, g.2, c⟩ s.tier.t1 }) s

/-- A T3 frame reads as zero: the device writes zeros over it through the adapter. -/
def zeroHost (s : State) (c port page n : Nat) : State :=
  (List.range (n * 32)).foldl (fun s i =>
    let (t, s) := draw s
    sendUrzen s port 0x31 0 c (t % 65536) (page * 4096 + i * 128) 127 0 0 (List.replicate 128 0#8)) s

/-- Insert a run of T3 frames in order of its extent and its start. -/
def insertT3 (r : Nat × Run) : List (Nat × Run) → List (Nat × Run)
  | [] => [r]
  | x :: t => if r.1 < x.1 ∨ (r.1 = x.1 ∧ r.2.start < x.2.start) then r :: x :: t else x :: insertT3 r t

/-- T3 frames pass to a context. -/
def giveT3 (s : State) (c port : Nat) (l : List (Nat × Nat × Nat)) : State :=
  l.foldl (fun s g => zeroHost { s with tier.t3 := insertT3 (g.1, ⟨g.2.1, g.2.2, c⟩) s.tier.t3 } c port g.2.1 g.2.2) s

/-- Store frames return to their pools (R205, R280 step 5). -/
def backFrames (s : State) (page n : Nat) : State :=
  if tierOfPage page = 2 then { s with tier.t2 := cutRuns s.tier.t2 page n } else { s with tier.t1 := cutRuns s.tier.t1 page n }

/-- T3 frames of a context return: host pages of its host port's extents. -/
def backT3 (s : State) (c page n : Nat) : State :=
  { s with tier.t3 := (s.tier.t3.map (fun r =>
      if r.2.ctx = c then (cutRuns [r.2] page n).map (fun x => (r.1, x)) else [r])).flatten }

/-- Frames of a withdrawal return: tier, first page, count. -/
def backAll (s : State) (c : Nat) (l : List (Nat × Nat × Nat)) : State :=
  l.foldl (fun s f => if f.1 = 3 then backT3 s c f.2.1 f.2.2 else backFrames s f.2.1 f.2.2) s

/-! ## Tier flags (R213, R217, R219) -/

/-- Pinned frames of a context in a tier: 1 T1 placed, 2 T2. -/
def pinnedFrames (s : State) (c tier : Nat) : Nat :=
  (((rangeTable s c).filter (fun e => decide (e.ty = .device) && e.pin && decide (tierOfPage e.base = tier))).map (·.pages)).sum

/-- Set or clear a bit of OD 0x3190. -/
def tierFlag (s : State) (c bit : Nat) (on : Bool) : State :=
  let k := odCtx 0x3190 c
  let v := odGet s k
  let cleared := if v.testBit bit then v - 2 ^ bit else v
  odSet s k (if on then cleared + 2 ^ bit else cleared)

/-- A bit of OD 0x3190. -/
def tierFlagSet (s : State) (c bit : Nat) : Bool := (odGet s (odCtx 0x3190 c)).testBit bit

/-- Is the charge of a context above its quota? Flag bit 0 T1 placed, 1 T1 cache, 2 T2, 3 T3. -/
def overQuota (s : State) (c bit : Nat) : Bool :=
  if bit = 1 then decide (shareFrames s c < occupancy s c)
  else
    let tier := if bit = 0 then 1 else bit
    decide (quotaMib s c tier < mib (chargeFrames s c tier))

/-- MiB by which pinned frames alone exceed the quota of a tier (R217). -/
def pinnedExcess (s : State) (c tier : Nat) : Nat := mib (pinnedFrames s c tier) - quotaMib s c tier

/-- Event OVERQUOTA_PINNED for each tier whose pinned charge alone has come to exceed its quota, or exceeds it by more (R217). -/
def notePinned (s : State) (c : Nat) : State :=
  [1, 2].foldl (fun s t =>
    let n := pinnedExcess s c t
    let s := if tblGet 0 s.tier.pinnedOver (c * 4 + t) < n then logEv s "OVERQUOTA_PINNED" [c, t, n] else s
    { s with tier.pinnedOver := if n = 0 then tblErase s.tier.pinnedOver (c * 4 + t) else tblSet s.tier.pinnedOver (c * 4 + t) n }) s

/-- Bring the over-quota bits and the pinned-blocked bit of a context to what its charges and quotas say. -/
def settleQuota (s : State) (c : Nat) : State :=
  let s := [0, 1, 2, 3].foldl (fun s b =>
    let isOver := overQuota s c b
    if isOver && !tierFlagSet s c b then flagEvent (logEv (tierFlag s c b true) "OVER_QUOTA" [c, b]) c 3
    else if !isOver && tierFlagSet s c b then tierFlag s c b false
    else s) s
  let blocked := decide (0 < pinnedExcess s c 1) || decide (0 < pinnedExcess s c 2)
  let s := notePinned s c
  let s := if blocked == tierFlagSet s c 4 then s else tierFlag s c 4 blocked
  let off := (if overQuota s c 0 then [] else [(c, false)]) ++ (if overQuota s c 2 then [] else [(c, true)])
  let left := s.tier.paused.filter (fun p => !off.contains p)
  let s := { s with tier.paused := left }
  let s := if tierFlagSet s c 5 && !left.any (fun p => decide (p.1 = c)) then tierFlag s c 5 false else s
  -- PERSIST_LOST clears when the context has freed all its T2 frames (R234)
  if tierFlagSet s c 6 && decide (chargeFrames s c 2 = 0) then tierFlag s c 6 false else s

/-! ## Range-table blocks (R243) -/

/-- One block of 64 KiB for a table: the lowest 16 placed frames in a row, which the device draws for itself (R201, R211, R243). Where
no 16 lie in a row, it is made of the lowest frames there are (log entry 83). -/
def oneBlock (s : State) (c : Nat) : State :=
  let gaps := gapsOf t1First (t1End s) s.tier.t1
  let l := match gaps.find? (fun g => decide (16 ≤ g.2)) with
    | some g => [(g.1, 16)]
    | none => takeFrom gaps 16
  let s := giveFrames s 0 l
  notePool { s with tier.tables := tblSet s.tier.tables c (tblGet [] s.tier.tables c ++ l.map (fun g => ⟨g.1, g.2, 0⟩)) } 1 false

/-- A context's table occupies 64 KiB blocks of 2,048 entries, taken from T1 placed frames that no context is charged for; they return
when the table is empty. -/
def fitBlocks (s : State) (c : Nat) : State :=
  let have_ := tblGet [] s.tier.tables c
  let need := ceilDiv (rangeTable s c).length 2048
  let got := runTotal have_ / 16
  if got < need then (List.range (need - got)).foldl (fun s _ => oneBlock s c) s
  else if need = 0 ∧ have_ ≠ [] then
    let s := have_.foldl (fun s r => backFrames s r.start r.count) s
    notePool { s with tier.tables := tblErase s.tier.tables c } 1 false
  else s

/-- Bytes of range tables in use (OD 0x4001.08). -/
def tableBytes (s : State) : Nat := ((s.tier.tables.map (fun e => runTotal e.2)).sum) * 4096

/-- Put a new table in force for a context. -/
def putTable (s : State) (c : Nat) (t : List RangeEntry) : State := fitBlocks (setTable s c t) c

/-! ## Withdrawals -/

/-- A withdrawal of the context is draining (R246). -/
def withdrawing (s : State) (c : Nat) : Bool := (tblFind s.xlat.withdrawals c).isSome

/-- Nib and Quill descriptors of a context that have not completed (R252). -/
def pinUsers (s : State) (c : Nat) : List (Nat × Nat) :=
  (s.q.jobs.filter (fun j => decide (j.ctx = c) && (decide (j.kind = 1) || decide (j.kind = 6)))).map (fun j => (qKey c j.queue, j.idx))

/-- XLAT_INV for a withdrawn range to every AGREED port in the context's mask, where the context has, or had, a host window (R475). -/
def sendXlatInv (s : State) (c vpn pages : Nat) (had : Bool) : State × List Nat :=
  if had || (hostWins s).any (fun w => decide (w.ctx = c)) then
    ((ctxPorts s c).foldl (fun s p =>
      let (t, s) := draw s
      sendUrzen s p 0x43 0 c (t % 65536) (vpn * 4096) 0 0 0 (natLe 8 pages)) s, ctxPorts s c)
  else (s, [])

/-- Steps 1 and 2 of R280: the new table, the epoch one higher, every range cache without the context's entries, and the
adapters told. -/
def beginWithdrawal (s : State) (c : Nat) (kind : WdKind) (vpn pages : Nat) (t : List RangeEntry) (job : Option (Nat × Nat))
    (wait : List (Nat × Nat)) (frames : List (Nat × Nat × Nat)) : State :=
  let e := epochOf s c
  let s := putTable s c t
  let s := setEpoch s c ((e + 1) % 2 ^ 32)
  let s := { s with xlat.caches := s.xlat.caches.filter (fun x => x.2.1 != c) }
  let (s, ports) := sendXlatInv s c vpn pages (decide (kind = .window))
  { s with xlat.withdrawals := tblSet s.xlat.withdrawals c ⟨kind, vpn, pages, e, job, wait, frames, ports, false⟩ }

/-- A host window of a context is narrowed, cleared or retargeted (R475): a withdrawal, which waits for the previous one (R246). -/
def windowWithdrawal (s : State) (c vpn pages : Nat) : State :=
  if withdrawing s c then { s with xlat.owed := s.xlat.owed ++ [(c, vpn, pages)] }
  else beginWithdrawal s c .window vpn pages (rangeTable s c) none [] []

/-- The next withdrawal that a context owes begins. -/
def nextOwed (s : State) (c : Nat) : State :=
  match s.xlat.owed.find? (fun o => decide (o.1 = c)) with
  | some o => if withdrawing s c then s else windowWithdrawal { s with xlat.owed := s.xlat.owed.erase o } c o.2.1 o.2.2
  | none => s

/-- A request at a home that an optical die translated for a context under an epoch (R245). -/
def txnTagged (c e : Nat) (t : Txn) : Bool := decide (t.ctx = c) && decide (t.epoch = some e)

/-- A transfer of a context is tagged with an epoch (R245): a chunk of a Feed stream, or a request of a host or a peer at its home, open
or waiting with its ticket. -/
def chunksTagged (s : State) (c e : Nat) : Bool :=
  s.feed.streams.any (fun x => decide (x.2.ctx = c) && x.2.chunks.any (fun k => decide (k.epoch = e))) ||
    s.coh.busy.any (fun b => txnTagged c e b.2) ||
    s.coh.tickets.any (fun k => match k.waiting with | some t => txnTagged c e t | none => false)

/-- Every transfer of the old epoch has drained, every adapter has acknowledged, and every descriptor waited for has completed
(R280, R475, R252). -/
def drained (s : State) (c : Nat) (w : Withdrawal) : Bool :=
  !chunksTagged s c w.oldEpoch && decide (w.xlatInv = []) && decide (w.waitFor = [])

end Sys2Proof.Machine
end

