-- ==== Sys2Proof/Machine/Requests.lean ====
section
/-! DEFINITION. Requests that leave the device: T3 requests to an adapter (R484), peer requests within the group (R442-R446,
R609), and what a composition holds (R611). -/

namespace Sys2Proof.Machine

/-- The 32-byte header of a fabric packet (R442). -/
def fabHdr (ptype status slots dnode snode sctx tag wid mbx wepoch offset lenm1 aop awidth fetch job : Nat) : Nat :=
  ptype + status * 2 ^ 8 + slots * 2 ^ 16 + dnode * 2 ^ 24 + snode * 2 ^ 36 + sctx * 2 ^ 48 + tag * 2 ^ 64 + wid * 2 ^ 80 +
    mbx * 2 ^ 92 + wepoch * 2 ^ 96 + offset * 2 ^ 128 + lenm1 * 2 ^ 180 + aop * 2 ^ 192 + awidth * 2 ^ 200 + fetch * 2 ^ 204 +
    job * 2 ^ 224

/-- Send a fabric packet on a port that is AGREED, its data padded to whole slots. -/
def sendFab (s : State) (port hdr : Nat) (data : Bytes) : State :=
  if portState s port = 2 then linkSend s port hdr (padTo (16 * slotsOf data) data) else s

/-- Some AGREED fabric port, the lowest; the path of management packets and messages. -/
def anyPort (s : State) : Option Nat := (List.range 16).find? (fun p => decide (portState s p = 2))

/-- The port of requests to a line of a node: a fixed hash over the ports that were AGREED when the device became ready (R446);
ports that have left AGREED since are passed over (R447). -/
def portFor (s : State) (node line : Nat) : Option Nat :=
  let ps := s.fab.readyPorts.filter (fun p => decide (portState s p = 2))
  ps[Config.portHash node line % max ps.length 1]?

/-- The mark, in place of a class, of a packet that waits for requests for its line on another port. -/
def heldClass : Nat := 16

/-- Memory requests for a line of a node that were sent on another port and have not been answered (R447). -/
def elsewhere (s : State) (r : PeerReq) : Bool :=
  s.fab.peers.any (fun e => decide (e.2.ptype ≤ 3) && decide (e.2.node = r.node) && decide (e.2.line = r.line) && decide (e.2.port ≠ r.port))

/-- A memory request leaves on its port, or is held there while requests for its line are outstanding on another (R447). -/
def peerLeaves (s : State) (r : PeerReq) (hdr : Nat) (data : Bytes) : State :=
  if elsewhere s r then
    let x := linkOf s r.port
    setLink s r.port { x with waiting := x.waiting ++ [(heldClass, hdr, padTo (16 * slotsOf data) data)] }
  else sendFab s r.port hdr data

/-- Held requests of a port whose lines are no longer asked for elsewhere leave, in order (R446, R447). -/
def sendHeldOn (s : State) (port : Nat) : State :=
  ((linkOf s port).waiting.filter (fun w => decide (w.1 = heldClass))).foldl (fun s w =>
    match tblFind s.fab.peers (field w.2.1 64 16) with
    | none => s
    | some r =>
      if elsewhere s r then s
      else
        let x := linkOf s port
        linkSend (setLink s port { x with waiting := x.waiting.erase w }) port w.2.1 w.2.2) s

/-- Held requests of every port. -/
def sendHeld (s : State) : State := (List.range 16).foldl sendHeldOn s

/-- What became of a request. -/
inductive Sent where
  | tag (t : Nat) | poison | noRight
  deriving DecidableEq, Repr

/-- Where an address within an import window's span goes (R609): node, WID, window epoch, offset. -/
def importGoes (s : State) (w : FabWin) (fa : Nat) : Nat × Nat × Nat × Nat :=
  match tblFind s.step.targets w.wid with
  | some t => (t.node, t.wid, t.epoch, (t.page * 4096 + (faOff fa - faOff w.base)) % 2 ^ 52)
  | none => (w.rnode, w.rwid, w.epoch, faOff fa)

/-- Send a memory request to a peer (R443): PRD 0x01, PWR 0x02, PATOM 0x03. Without a port it completes with POISON. -/
def peerSend (s : State) (c : Nat) (asker : Asker) (ptype fa len : Nat) (data : Bytes) (aop awidth : Nat) (fetch : Bool) : Sent × State :=
  let right := if ptype = 1 then Right.read else if ptype = 2 then Right.write else Right.atomic
  match importWin s c fa len right with
  | none => (.noRight, s)
  | some w =>
    let (node, wid, wepoch, off) := importGoes s w fa
    match portFor s node (off / 128), tblFreeKey s.fab.peers 65536 with
    | some p, some t =>
      let hdr := fabHdr ptype 0 (slotsOf data) node (nodeNo s) c t wid 0 wepoch off (len - 1) aop awidth (if fetch then 1 else 0) 0
      let r : PeerReq := ⟨asker, genNow s, c, ptype, p, node, wid, len, w.wid, off / 128⟩
      (.tag t, peerLeaves { s with fab.peers := tblSet s.fab.peers t r } r hdr data)
    | _, _ => (.poison, s)

/-- A host address of a port lies in an extent that may not be used (R469). -/
def extentBarred (s : State) (port addr : Nat) : Bool :=
  (extents s).any (fun e => decide (e.2.2.2 = port) && decide (e.2.1 ≤ addr / 4096) && decide (addr / 4096 < e.2.1 + e.2.2.1) &&
    !extentUsable s e.1 port)

/-- The key of a T3 request: port and TAG. -/
def t3Key (port tag : Nat) : Nat := port * 65536 + tag

/-- Send T3_RD 0x30 or T3_WR 0x31 on a port (R484). -/
def t3Send (s : State) (c : Nat) (asker : Asker) (utype port addr len : Nat) (data : Bytes) : Sent × State :=
  if urzenState s port ≠ 2 ∨ extentBarred s port addr = true then (.poison, odBump s (odKey 0x7110 3) 1)
  else
    match (List.range 65536).find? (fun t => (tblFind s.fab.t3 (t3Key port t)).isNone) with
    | some t =>
      let s := { s with fab.t3 := tblSet s.fab.t3 (t3Key port t) asker }
      (.tag (2 ^ 20 + t3Key port t), sendUrzen s port utype 0 c t addr (len - 1) 0 0 data)
    | none => (.poison, odBump s (odKey 0x7110 3) 1)

/-- A composition of a context holds requests to this place (R611). -/
def composedHold (s : State) (c : Nat) (t : Target) : Bool :=
  s.step.compositions.any (fun k => decide (k.ctx = c) &&
    (match t with
     | .host _ _ => k.hostPort
     | .peer fa => k.wids.any (fun w =>
        match fabWinAt s w with
        | some x => decide (x.base ≤ fa) && decide (fa < x.base + x.pages * 4096)
        | none => false)
     | _ => false))

/-- The parts of `[a, a + n)` within 128-byte lines: offset and length. -/
def lineSegs (a n : Nat) : List (Nat × Nat) :=
  (linesOf a n).map (fun l => (max a (l * 128) - a, min (a + n) (l * 128 + 128) - max a (l * 128)))

/-- A shadow context has no effect outside its device (R602). -/
def isShadow (s : State) (c : Nat) : Bool := decide (odGet s (odCtx 0xC100 c) = 1)

/-! ## A context becomes TORN -/

/-- The completion record of a SEARCH over the queries that have ended (R375, R376). -/
def searchRecord (op tag : Nat) (st : Status) (qs : List QueryEnd) : Nat :=
  let shorts := (qs.filter (fun e => decide (e.status = .short))).length
  let wide := (qs.filter (fun e => decide (e.widens ≠ 0))).length
  let bad := (qs.filter (fun e => decide (e.status = .poison))).length
  recHead st op tag + capTo 16 shorts * 2 ^ 32 + capTo 16 wide * 2 ^ 48 + capTo 16 bad * 2 ^ 64 +
    capTo 32 ((qs.map (·.visits)).sum) * 2 ^ 96 + capTo 32 ((qs.map (·.stale)).sum) * 2 ^ 128 +
    capTo 32 ((qs.map (·.malformed)).sum) * 2 ^ 200

/-- The queries of a context that is no longer ACTIVE stop and free their hardware contexts (R381). -/
def stopQueries (s : State) (c : Nat) : State :=
  let stop (j : Job) : Job :=
    match j.body, j.result with
    | .search b, none => { j with result := some (searchRecord j.op j.tag .torn b.ended) }
    | _, _ => j
  { s with q.quills := s.q.quills.filter (fun e => decide (e.2.qkey / 16 ≠ c)),
           q.jobs := s.q.jobs.map (fun j => if j.ctx = c then stop j else j) }

/-- Both copies of a context's key record take a state (R506), with the context's key generation and its key, wrapped under the sealing
key: the one that a CREATE under way has drawn, where there is no record yet. -/
def keyRecord (s : State) (c : Nat) (k : KeyRec) : State :=
  let w := match tblFind s.iso.keys0 c with
    | some r => r.wrapped
    | none => keyWrap Config.sealingKey s.iso.drawn
  let r : FlashKey := ⟨k, odGet s (odCtx 0x9130 c), w⟩
  { s with iso.keys0 := tblSet s.iso.keys0 c r, iso.keys1 := tblSet s.iso.keys1 c r }

/-- The key of a context as the boot flash has it: unwrapped from copy 0 or, where that fails, from copy 1 (R506). -/
def flashKey (s : State) (c : Nat) : Option Bytes :=
  let of (t : Tbl FlashKey) : Option Bytes := (tblFind t c).bind (fun r => if r.state = .erased then none else keyUnwrap Config.sealingKey r.wrapped)
  match of s.iso.keys0 with
  | some k => some k
  | none => of s.iso.keys1

/-- The contexts whose key the boot flash holds, in key-table order (R508). -/
def keyedCtxs (s : State) : List Nat := (s.iso.keys0.filter (fun e => decide (e.2.state ≠ .erased))).map (·.1)

/-- The active management die loads the data keys of a key into a context's slot of each of the 8 media dies (R501); 0x000 is the slot of
the device key, whose key is the sealing key (R503). -/
def loadSlots (s : State) (c : Nat) (key : Bytes) : State :=
  let k := dataKeys key
  (List.range 8).foldl (fun s m => { s with iso.slots := tblSet s.iso.slots (m * 4096 + c) k }) s

/-- The media dies clear a context's key slots (R495 step 5, R501). -/
def clearSlots (s : State) (c : Nat) : State := { s with iso.slots := s.iso.slots.filter (fun e => decide (e.1 % 4096 ≠ c)) }

/-- Mark an ACTIVE context TORN (R459, R460): its key record says so (R506), its queues dispatch no more, its queries stop (R381),
and the TORN flag has its event. -/
def tornCtx (s : State) (c : Nat) : State :=
  if ctxState s c = 1 then flagEvent (stopQueries (keyRecord (odSet s (odCtx 0x9100 c) 2) c .torn) c) c 2 else s

/-- A peer request of a context completed with POISON (R448, R459): the context becomes TORN when it is ACTIVE, and JOB_FAULT
names its job and the node that failed. -/
def peerPoison (s : State) (c node : Nat) : State :=
  let s := odBump s (odKey 0x6010 2) 1
  if ctxState s c = 1 then
    let s := tornCtx s c
    match anyPort s with
    | some p =>
      sendFab s p (fabHdr 0x47 0 1 0 (nodeNo s) c 0 0 0 0 0 0 0 0 0 0)
        (natLe 4 (odGet s (odCtx 0x6200 c)) ++ natLe 2 c ++ natLe 2 node ++ natLe 1 (statusCode .poison))
    | none => s
  else s

end Sys2Proof.Machine
end

