-- ==== Sys2Proof/Machine/Vervo.lean ====
section
/-! DEFINITION. Vervo messages as bytes (R63-R68, R649): items, responses, where a response goes (R71, R76), and the counters of
refusals (R652). -/

namespace Sys2Proof.Machine

/-- An item of a request or of a response (R65). -/
structure VItem where
  idx : Nat
  sub : Nat
  ty  : Nat
  val : Bytes
  st  : Status
  rsn : Reason
  deriving DecidableEq, Repr

/-- The items of a request, none where they do not fill the message exactly (R65, R649). -/
def parseItems : (count : Nat) → Bytes → Option (List VItem)
  | 0, b => if b = [] then some [] else none
  | n + 1, b =>
    let len := leAt b 4 2
    let size := 8 + roundUp len 4
    if b.length < size then none
    else
      match parseItems n (b.drop size) with
      | some l => some (⟨leAt b 0 2, leAt b 2 1, leAt b 3 1, (b.drop 8).take len, .ok, .none⟩ :: l)
      | none => none

/-- The bytes of an item (R65). -/
def vItemBytes (i : VItem) : Bytes :=
  natLe 2 i.idx ++ natLe 1 i.sub ++ natLe 1 i.ty ++ natLe 2 i.val.length ++ natLe 1 (statusCode i.st) ++ natLe 1 (reasonCode i.rsn) ++
    padTo (roundUp i.val.length 4) i.val

/-- The dictionary generation (R92). -/
def generation (s : State) : Nat := genNow s

/-- The dictionary window of a port. -/
def windowOfPort (s : State) (p : Nat) : DictWindow := tblGet idleWindow s.dict.windows p

/-- Put back a dictionary window. -/
def setDictWindow (s : State) (p : Nat) (w : DictWindow) : State := { s with dict.windows := tblSet s.dict.windows p w }

/-- A response leaves: to a station, kept for a repeat of its request where it is one to be kept (R71), or into the window's buffer,
which is then DONE (R76). -/
def sendResponse (s : State) (src : Src) (seq : Nat) (keep : Bool) (b : Bytes) : State :=
  match src with
  | .station a =>
    let s := emit s (datagram a b)
    if keep then { s with dict.kept := ((a, seq, b) :: s.dict.kept).take 64 } else s
  | .window p => setDictWindow s p.val { windowOfPort s p.val with resp := b, respLen := b.length, busy := false, done := true }

/-- A response: the request's OP plus 0x80 and its SEQ, frame-level STATUS and REASON, the DRAFT field, the generation and the items
(R64, R92). -/
def vervoResponse (op seq gen draft : Nat) (st : Status) (rsn : Reason) (items : List VItem) : Bytes :=
  vervoHeader (op % 128 + 128) items.length seq draft (statusCode st) (reasonCode rsn) gen ++ (items.map vItemBytes).flatten

/-- Answer an operation (R64). -/
def answerOp (s : State) (o : DictOp) (draft : Nat) (st : Status) (rsn : Reason) (items : List VItem) : State :=
  sendResponse s o.src o.req.seq.toNat true (vervoResponse o.op o.req.seq.toNat (generation s) draft st rsn items)

/-- Answer with items: the frame STATUS is the first of theirs in the order of R20 (R64). -/
def answerItems (s : State) (o : DictOp) (items : List VItem) : State :=
  answerOp s o o.req.draft.toNat (statusOf (items.map (·.st))) .none items

/-- Refuse an operation as a whole; a refusal with RANGE counts in OD 0xF001.03, an answer of THROTTLED does not (R652). -/
def refuseOp (s : State) (o : DictOp) (st : Status) (rsn : Reason) : State :=
  answerOp (if st = .range then odBump s (odKey 0xF001 3) 1 else s) o o.req.draft.toNat st rsn []

/-- The INK that is being carried out is answered OK, and is over (R90 step 5, R611 step 7). -/
def answerInk (s : State) : State :=
  match s.dict.ink with
  | some o => answerOp { s with dict.ink := none, dict.inkDone := false } o o.req.draft.toNat .ok .none []
  | none => s

end Sys2Proof.Machine
end

