-- ==== Sys2Proof/Machine/StepCopy.lean ====
section
/-! DEFINITION. The copies of a STEP_COMMIT and of a checkpoint as they are written: one write is durable before the next begins
(R590, R592, R595, R596). -/

namespace Sys2Proof.Machine

/-- The header line of a copy region (R588): MAGIC, the steps of both images, KIND and PAGES. -/
def regionHeader (step0 step1 kind pages : Nat) : Bytes :=
  natLe 128 (0x4B4D4E46 + step0 * 2 ^ 32 + step1 * 2 ^ 64 + kind * 2 ^ 96 + pages * 2 ^ 128)

/-- CVA of page i of an image of a region (R588). -/
def imagePage (region image pages i : Nat) : Nat := region + (1 + image * pages + i) * 4096

/-- The place behind a CVA that a copy writes; none where the range has been withdrawn or lacks the right. -/
def stepTarget (s : State) (c cva : Nat) : Option Target :=
  match entryAt (rangeTable s c) (cva / 4096) with
  | some e => if e.wr && decide (e.ty ≠ .absent) then some (entryTarget s c e cva) else none
  | none => none

/-- What a source gives. -/
inductive Fetched where
  | wait (s : State) | poison (s : State) | got (b : Bytes) (s : State)
  deriving DecidableEq, Repr

/-- Read the source of a write: a page of the context waits for lines that an adapter holds; a peer's POISON tears (R592, R459). -/
def fetchSrc (s : State) (c : Nat) : StepSrc → Fetched
  | .cva a =>
    if !cvaFree s c a 4096 then .wait (askRanges s (saParts s c a 4096))
    else
      let r := cvaRead s firmwareAgent c a 4096
      if r.1.2 then .poison r.2 else .got r.1.1 r.2
  | .bytes b => .got b s
  | .lost node => .poison (peerPoison s c node)
  | .full => .got [] s

/-- Send a write to a host or a peer line by line: the tags, and the status where a line fails at once. A host that cannot be reached
tears the job as a peer does (R597). -/
def sendLines (s : State) (c : Nat) (asker : Asker) (t : Target) (data : Bytes) : (List Nat × Option Status) × State :=
  match t with
  | .host p a =>
    (lineSegs a data.length).foldl (fun r g =>
      match r with
      | ((ts, some st), s) => ((ts, some st), s)
      | ((ts, none), s) =>
        match t3Send s c asker 0x31 p (a + g.1) g.2 ((data.drop g.1).take g.2) with
        | (.tag n, s) => ((ts ++ [n], none), s)
        | (_, s) => ((ts, some .poison), tornCtx s c)) (([], none), s)
  | .peer a =>
    (lineSegs a data.length).foldl (fun r g =>
      match r with
      | ((ts, some st), s) => ((ts, some st), s)
      | ((ts, none), s) =>
        match peerSend s c asker 2 (a + g.1) g.2 ((data.drop g.1).take g.2) 0 0 false with
        | (.tag n, s) => ((ts ++ [n], none), s)
        | (.poison, s) => ((ts, some .poison), peerPoison s c (faNode a))
        | (.noRight, s) => ((ts, some .range), s)) (([], none), s)
  | _ => (([], some .withdrawn), s)

/-- What became of some writes: the state, what is left, and how they ended early. -/
structure Pumped where
  state  : State
  work   : CopyWork
  status : Option Status
  deriving DecidableEq, Repr

/-- Writes are made until one waits for an answer, for a line or for a composition (R611, R613), or fails. -/
def pumpCopy (c : Nat) (asker : Asker) : (fuel : Nat) → State → CopyWork → Pumped
  | 0, s, w => ⟨s, w, none⟩
  | fuel + 1, s, w =>
    match w.todo with
    | [] => ⟨s, w, none⟩
    | x :: rest =>
      if w.tags ≠ [] ∨ cutOver s = true then ⟨s, w, none⟩
      else if x.src = .full then pumpCopy c asker fuel (odBump s (odKey 0xC001 2) 1) { w with todo := rest }
      else
        match stepTarget s c x.dst with
        | none => ⟨s, w, some .withdrawn⟩
        | some t =>
          if composedHold s c t then ⟨odBump s (odKey 0xC001 6) 1, w, none⟩
          else
            match fetchSrc s c x.src with
            | .wait s => ⟨s, w, none⟩
            | .poison s => ⟨s, w, some .poison⟩
            | .got b s =>
              match t with
              | .dev sa =>
                if !rangesTake s [(sa, b.length)] then ⟨askWrites s [(sa, b.length)], w, none⟩
                else pumpCopy c asker fuel (homeWrite s firmwareAgent c sa b) { w with todo := rest }
              | _ =>
                match sendLines s c asker t b with
                | ((ts, none), s) => ⟨s, { w with tags := ts }, none⟩
                | ((_, some st), s) => ⟨s, w, some st⟩

/-- A request of the first write has been answered; the write is durable when none is left. -/
def copyAnswered (w : CopyWork) (tag : Nat) : CopyWork :=
  let left := w.tags.filter (· != tag)
  if w.tags.contains tag && decide (left = []) then ⟨w.todo.drop 1, []⟩ else { w with tags := left }

/-! ## Checkpoints -/

/-- The checkpoint of a commit set that is being written. -/
def checkpointOf (s : State) (c set : Nat) : Option Checkpoint :=
  s.step.checkpoints.find? (fun k => decide (k.ctx = c) && decide (k.set = set))

/-- Put back the writes of a checkpoint. -/
def setCheckpoint (s : State) (k : Checkpoint) (w : CopyWork) : State :=
  { s with step.checkpoints := mapWhere (fun y => decide (y = k)) (fun y => { y with copies := w }) s.step.checkpoints }

/-- A checkpoint is no longer being written. -/
def dropCheckpoint (s : State) (c set : Nat) : State :=
  { s with step.checkpoints := s.step.checkpoints.filter (fun k => !(decide (k.ctx = c) && decide (k.set = set))) }

/-- The writes of a checkpoint go on; one that fails ends it without an image. -/
def ckPump (s : State) (c set : Nat) : State :=
  match checkpointOf s c set with
  | some k =>
    if !ctxActive s c then s
    else
      let r := pumpCopy c (.ckpt c set) (k.copies.todo.length + 1) s k.copies
      match r.status with
      | none => setCheckpoint r.state k r.work
      | some _ => dropCheckpoint r.state c set
  | none => s

/-- The writes of a checkpoint of step n (R590, R595): its target is the image with the lower step. -/
def checkpointWrites (w : StepWork) : List StepWrite :=
  let n := w.pages.length
  let first := decide (w.c0 ≤ w.c1)
  let hdr (v : Nat) : StepWrite := ⟨w.ckpt, .bytes (if first then regionHeader v w.c1 2 n else regionHeader w.c0 v 2 n)⟩
  [hdr 0] ++ (w.pages.zip (List.range n)).map (fun p => ⟨imagePage w.ckpt (if first then 0 else 1) n p.2, p.1⟩) ++ [hdr w.step]

/-! ## The end of a commit -/

/-- The highest durable checkpoint step (R593, R595). -/
def ckHighest (w : StepWork) : Nat := max w.c0 w.c1

/-- A checkpoint is due (R595). -/
def ckDue (w : StepWork) : Bool := decide (w.interval ≤ w.step - ckHighest w)

/-- Both mirrors and SCRATCH are written: the commit completes unless a checkpoint of its set is still being written (R592, R596). -/
def finishCommit (s : State) (c q i : Nat) (j : Job) (w : StepWork) : State :=
  if (checkpointOf s c w.set).isSome then s
  else if !cvaTakes s c w.reportCva 64 then askWrites s (saParts s c w.reportCva 64)
  else
    let rec_ := w.report + (if ckDue w then 2 ^ 32 else 0) + ckHighest w * 2 ^ 192
    let s := cvaWrite s firmwareAgent c w.reportCva (natLe 64 rec_)
    let s := jobEnd (odBump s (odKey 0xC001 1) 1) c q i (recHead .ok j.op j.tag)
    if ckDue w then
      ckPump { s with step.checkpoints := s.step.checkpoints ++ [⟨c, w.set, w.step, ⟨checkpointWrites w, []⟩⟩] } c w.set
    else s

/-- The STEP_COMMIT that a job is, while it runs. -/
def commitOf (j : Job) : Option StepWork :=
  match j.body, j.result with
  | .step w, none => some w
  | _, _ => none

/-- Put back the work of a STEP_COMMIT. -/
def setCommit (s : State) (c q i : Nat) (w : StepWork) : State := jobUpd s c q i (fun j => { j with body := .step w })

/-- A STEP_COMMIT goes on. -/
def commitPump (s : State) (c q i : Nat) : State :=
  match jobFind s c q i with
  | none => s
  | some j =>
    match commitOf j with
    | none => s
    | some w =>
      if !ctxActive s c then jobEnd s c q i (recHead .torn j.op j.tag)
      else
        let r := pumpCopy c (.commit (qKey c q) i) (w.copies.todo.length + 1) s w.copies
        match r.status with
        | some st => jobEnd r.state c q i (recHead st j.op j.tag)
        | none =>
          let w := { w with copies := r.work }
          let s := setCommit r.state c q i w
          if r.work = ⟨[], []⟩ then finishCommit s c q i j w else s

/-- Every STEP_COMMIT of a context goes on. -/
def resumeCommits (s : State) (c : Nat) : State :=
  (s.q.jobs.filter (fun j => decide (j.ctx = c) && (commitOf j).isSome)).foldl (fun s j => commitPump s c j.queue j.idx) s

/-- Every checkpoint of a context goes on. -/
def resumeCheckpoints (s : State) (c : Nat) : State :=
  (s.step.checkpoints.filter (fun k => decide (k.ctx = c))).foldl (fun s k => ckPump s c k.set) s

/-! ## Answers -/

/-- A write of a STEP_COMMIT is answered. -/
def commitAnswer (s : State) (key i tag : Nat) (st : Status) : State :=
  match jobFind s (key / 16) (key % 16) i with
  | none => s
  | some j =>
    match commitOf j with
    | none => s
    | some w =>
      if st ≠ .ok then jobEnd s (key / 16) (key % 16) i (recHead st j.op j.tag)
      else commitPump (setCommit s (key / 16) (key % 16) i { w with copies := copyAnswered w.copies tag }) (key / 16) (key % 16) i

/-- A write of a checkpoint is answered. A host port that fails tears the job (R597); a checkpoint that fails is given up, and a
commit that waited for it goes on. -/
def ckAnswer (s : State) (c set tag : Nat) (st : Status) : State :=
  match checkpointOf s c set with
  | none => s
  | some k =>
    if st ≠ .ok then
      let s := dropCheckpoint s c set
      resumeCommits (if st = .poison ∧ 2 ^ 20 ≤ tag then tornCtx s c else s) c
    else
      let s := ckPump (setCheckpoint s k (copyAnswered k.copies tag)) c set
      if (checkpointOf s c set).isNone then resumeCommits s c else s

/-- CHECKPOINT_DONE of a commit set (R596, R234): once every write of the checkpoint is durable, it counts, PERSIST_LOST of the
context clears, and the commit that waits for it completes, knowing the new header. -/
def checkpointDone (s : State) (c set : Nat) : State :=
  let s := ckPump s c set
  match checkpointOf s c set with
  | none => s
  | some k =>
    if k.copies ≠ ⟨[], []⟩ ∨ !ctxActive s c then s
    else
      let learn (w : StepWork) : StepWork :=
        if w.set ≠ set then w else if w.c0 ≤ w.c1 then { w with c0 := k.step } else { w with c1 := k.step }
      let upd (j : Job) : Job :=
        match commitOf j with
        | some w => if j.ctx = c then { j with body := .step (learn w) } else j
        | none => j
      let s := { s with q.jobs := s.q.jobs.map upd }
      let s := odSet (odBump (dropCheckpoint s c set) (odKey 0xC001 3) 1) (odCtx 0x3190 c)
        (let v := odGet s (odCtx 0x3190 c); if v.testBit 6 then v - 2 ^ 6 else v)
      resumeCommits s c

/-- Requests of a context that a composition aborts (R611): the writes of its commits and checkpoints are made again. -/
def redoCopies (s : State) (c : Nat) (gone : List Nat) : State :=
  let redo (w : CopyWork) : CopyWork := if w.tags.any gone.contains then { w with tags := [] } else w
  let upd (j : Job) : Job :=
    match commitOf j with
    | some w => if j.ctx = c then { j with body := .step { w with copies := redo w.copies } } else j
    | none => j
  { s with q.jobs := s.q.jobs.map upd,
           step.checkpoints := mapWhere (fun k => decide (k.ctx = c)) (fun k => { k with copies := redo k.copies }) s.step.checkpoints }

end Sys2Proof.Machine
end

