-- ==== Sys2Proof/Machine/Feeds.lean ====
section
/-! DEFINITION. Feeds and their streams (R257-R270), faults (R271-R279) and page moves (R221). -/

namespace Sys2Proof.Machine

/-! ## Streams -/

/-- A Feed by its place in the turn: the streams are spread over the Feeds of every die in turn (R260). -/
def feedOfTurn (t : Nat) : Nat := t % 24 * 32 + t / 24

/-- A Feed takes streams: it is not withdrawn. -/
def feedUp (s : State) (feed : Nat) : Bool := engineUp s (feed / 32) (14 + feed % 32 / 8) (feed % 8)

/-- Streams that a Feed carries: those that it was given, and those that have moved to it (R578). -/
def streamsOn (s : State) (feed : Nat) : Nat := (s.feed.streams.filter (fun e => decide (e.2.feed = feed))).length

/-- A Feed takes another stream: it is not withdrawn, and carries fewer than 64. -/
def hasSlot (s : State) (feed : Nat) : Bool := feedUp s feed && decide (streamsOn s feed < 64)

/-- A free stream slot of a Feed that is not withdrawn. -/
def freeSlot (s : State) (feed : Nat) : Option Nat :=
  if !hasSlot s feed then none
  else ((List.range 64).map (fun k => feed * 64 + k)).find? (fun id => (tblFind s.feed.streams id).isNone)

/-- The next free stream from a turn on: its ID and the turn after it. -/
def nextStream (s : State) : (fuel t : Nat) → Option (Nat × Nat)
  | 0, _ => none
  | fuel + 1, t =>
    match freeSlot s (feedOfTurn (t % 768)) with
    | some id => some (id, (t + 1) % 768)
    | none => nextStream s fuel (t + 1)

/-- Put a stream into the next free slot. -/
def addStream (s : State) (x : Stream) : Option Nat × State :=
  match nextStream s 768 s.feed.turn with
  | some (id, t) => (some id, { s with feed.streams := tblSet s.feed.streams id { x with feed := id / 64 }, feed.turn := t })
  | none => (none, s)

/-- A stream. -/
def streamOf (s : State) (id : Nat) : Option Stream := tblFind s.feed.streams id

/-- Put back a stream. -/
def setStream (s : State) (id : Nat) (x : Stream) : State := { s with feed.streams := tblSet s.feed.streams id x }

/-- The Feeds that take streams have `n` free slots between them (R260). -/
def slotsFree (s : State) (n : Nat) : Bool :=
  decide (n ≤ (((List.range 768).filter (feedUp s)).map (fun f => 64 - streamsOn s f)).sum)

/-- Number of streams of a descriptor (R260). -/
def streamCount (len : Nat) : Nat := max 1 (min 64 (len / 2 ^ 22))

/-- The parts of a descriptor: first and end offset (R260). -/
def streamParts (len : Nat) : List (Nat × Nat) :=
  let n := streamCount len
  let each := len / n / 4096 * 4096
  if n = 1 then [(0, len)]
  else (List.range n).map (fun i => (i * each, if i + 1 = n then len else (i + 1) * each))

/-- A new stream over a part, issued under a generation (R87). -/
def newStream (owner : StreamOwner) (gen c q tag src dst total : Nat) (part : Nat × Nat) : Stream :=
  ⟨owner, gen, c, q, tag, src, dst, none, 0, 8, 0, false, total, part.1, part.2, part.1, [], [], none, .ok, none, 0, 0, 0, false, 0⟩

/-- Start a stream over each part. -/
def startStreams (s : State) (mk : Nat × Nat → Stream) (len : Nat) : State :=
  (streamParts len).foldl (fun s p => (addStream s (mk p)).2) s

/-- The streams of an owner. -/
def streamsOf (s : State) (o : StreamOwner) : List (Nat × Stream) := s.feed.streams.filter (fun e => decide (e.2.owner = o))

/-- Release the streams of an owner. -/
def dropStreams (s : State) (o : StreamOwner) : State :=
  { s with feed.streams := s.feed.streams.filter (fun e => !decide (e.2.owner = o)) }

/-- The completion record of a Feed-queue descriptor over its streams (R264, R265). -/
def feedRecord (op tag : Nat) (xs : List Stream) : Nat :=
  let stops := xs.filterMap (·.stop)
  recFeed (statusOf (xs.map (·.status))) op tag ((xs.map (·.bytes)).sum) (stops.foldl min (2 ^ 40 - 1)) xs.length
    (capTo 32 ((xs.map (·.noconv)).sum)) (capTo 32 ((xs.map (·.faults)).sum))

/-- Frames that a move had taken return to their pool. -/
def dropTarget (s : State) (m : Move) : State :=
  match m.dst with
  | .dev a => backFrames s (a / 4096) 1
  | .host _ a => backT3 s m.ctx (a / 4096) 1
  | _ => s

/-- A move's copy failed: nothing of its PLACE is changed, and the PLACE completes with the status; a demotion leaves the page
where it is (R205, R218). -/
def moveFails (s : State) (c vpn : Nat) (st : Status) : State :=
  match s.tier.moves.find? (fun m => decide (m.ctx = c) && decide (m.vpn = vpn)) with
  | none => s
  | some m =>
    let mine := s.tier.moves.filter (fun y => decide (y = m) || (m.job.isSome && decide (y.job = m.job)))
    let s := mine.foldl dropTarget s
    let s := { s with tier.moves := s.tier.moves.filter (fun y => !mine.contains y) }
    let s := mine.foldl (fun s y => dropStreams s (.move y.ctx y.vpn)) s
    match m.job with
    | some (k, i) =>
      match jobFind s (k / 16) (k % 16) i with
      | some j => jobEnd s (k / 16) (k % 16) i (recHead st j.op j.tag)
      | none => s
    | none => s

/-- All the streams of a descriptor have ended: its work has ended (R260, R264). -/
def ownerDone (s : State) (o : StreamOwner) (st : Status) : State :=
  match o with
  | .desc k i =>
    let xs := (streamsOf s o).map (·.2)
    if xs.all (·.done) then
      match jobFind s (k / 16) (k % 16) i with
      | some j => dropStreams (jobEnd s (k / 16) (k % 16) i (feedRecord j.op j.tag xs)) o
      | none => dropStreams s o
    else s
  | .move c v => if st = .ok then s else moveFails s c v st
  | .fill _ _ => s

/-- A stream with nothing left to move has ended. -/
def finishStream (s : State) (id : Nat) : State :=
  match streamOf s id with
  | some x =>
    if x.chunks = [] ∧ x.again = [] ∧ (x.last ≤ x.next ∨ x.stop.isSome) ∧ x.fault = none ∧ x.done = false then
      ownerDone (setStream s id { x with done := true }) x.owner x.status
    else s
  | none => s

/-- The offset of the chunk that a stream translates next, none where it has no more (R261). -/
def nextOffset (x : Stream) : Option Nat :=
  match x.again with
  | o :: _ => some o
  | [] => if x.stop.isSome ∨ x.last ≤ x.next then none else some x.next

/-- The offset of the chunk at which a stream stands, and at which it faults. -/
def standsAt (x : Stream) : Nat := x.again.headD x.next

/-- Is this packet a request of one of these tags on a link: T3 requests on an Urzen port, memory requests on a fabric port? -/
def tagged (link : Nat) (w : Nat × Nat × Bytes) (tags : List Nat) : Bool :=
  if 16 ≤ link then
    (decide (field w.2.1 0 8 = 0x30) || decide (field w.2.1 0 8 = 0x31)) && tags.contains (2 ^ 20 + t3Key (link - 16) (field w.2.1 40 16))
  else decide (field w.2.1 0 8 ≤ 3) && tags.contains (field w.2.1 64 16)

/-- Requests that still wait on their links are withdrawn, and their TAGs are free again (R282). -/
def dropWaiting (s : State) (tags : List Nat) : State :=
  s.fab.links.foldl (fun s e =>
    let (gone, kept) := e.2.waiting.partition (fun w => tagged e.1 w tags)
    let s := if gone = [] then s else { s with fab.links := tblSet s.fab.links e.1 { e.2 with waiting := kept } }
    gone.foldl (fun s w =>
      if 16 ≤ e.1 then { s with fab.t3 := tblErase s.fab.t3 (t3Key (e.1 - 16) (field w.2.1 40 16)) }
      else { s with fab.peers := tblErase s.fab.peers (field w.2.1 64 16) }) s) s

/-- A stream ends early at an offset with a status (R263): nothing at or above the offset moves. -/
def endStream (s : State) (id off : Nat) (st : Status) : State :=
  match streamOf s id with
  | some x =>
    let lower := match x.stop with | some o => decide (off < o) | none => true
    let (kept, gone) := x.chunks.partition (fun k => decide (k.offset < off))
    let x' : Stream := { x with chunks := kept, fault := if standsAt x < off then x.fault else none, next := max off x.first,
                                again := x.again.filter (fun o => decide (o < off)), bytes := x.bytes + (gone.map (·.acked)).sum,
                                stop := if lower then some off else x.stop, status := if lower then st else x.status }
    let s := dropWaiting (setStream s id x') ((gone.map (·.reqs)).flatten)
    let s := if st = .faultUnresolved then odBump s (odKey 0x4001 3) 1 else s
    finishStream s id
  | none => s

/-- Take a chunk out of flight so that it is translated and issued again; later chunks run on. -/
def reissueChunk (s : State) (id off : Nat) : State :=
  match streamOf s id with
  | some x =>
    match x.chunks.find? (fun k => decide (k.offset = off)) with
    | some k =>
      let lower := x.again.filter (fun o => decide (o < off))
      dropWaiting (setStream s id { x with chunks := x.chunks.erase k,
                                           again := lower ++ off :: x.again.filter (fun o => decide (off < o)) }) k.reqs
    | none => s
  | none => s

/-! ## Pointer conversion (R266-R269) -/

/-- What becomes of a pointer. -/
inductive Conv2 where
  | val (n : Nat) | none | fault (cva : Nat)
  deriving DecidableEq, Repr

/-- A pointer that no row of R267 converts is written as all ones (R269). -/
def allOnes : Nat := 2 ^ 64 - 1

/-- Of candidates, each the first page of its entry or window and the CVA in it, the one of the lowest VPN (R267). -/
def lowestCva (l : List (Nat × Nat)) : Conv2 :=
  match l with
  | [] => .none
  | a :: t => .val (t.foldl (fun m x => if x.1 < m.1 then x else m) a).2

/-- Convert one pointer of a context (R267, R268). -/
def convPointer (s : State) (c conv v : Nat) : Conv2 :=
  let t := rangeTable s c
  if v = 0 ∨ v = allOnes then .val v
  else if conv = 1 ∨ conv = 3 then
    if cvaEnd ≤ v then .none
    else
      match entryAt t (v / 4096) with
      | none => .none
      | some e =>
        let a := (e.base + (v / 4096 - e.vpn)) * 4096 + v % 4096
        match e.ty with
        | .absent => .fault v
        | .host => if conv = 1 then .val a else .none
        | .peer => if conv = 3 then .val a else .none
        | .device =>
          if conv = 1 then
            match (hostWins s).find? (fun w => decide (w.ctx = c) && decide (w.cva ≤ v) && decide (v < w.cva + w.pages * 4096)) with
            | some w => .val (w.hbase + (v - w.cva))
            | none => .none
          else if e.pin then .val (nodeNo s * 2 ^ 52 + a) else .none
  else if conv = 2 then
    let ws := ((hostWins s).filter (fun w => decide (w.ctx = c) && decide (w.hbase ≤ v) && decide (v < w.hbase + w.pages * 4096))).map
      (fun w => (w.cva / 4096, w.cva + (v - w.hbase)))
    let es := (t.filter (fun e => decide (e.ty = .host) && decide (e.base * 4096 ≤ v) && decide (v < (e.base + e.pages) * 4096))).map
      (fun e => (e.vpn, e.vpn * 4096 + (v - e.base * 4096)))
    lowestCva (ws ++ es)
  else
    let here :=
      if faNode v = nodeNo s then
        (t.filter (fun e => decide (e.ty = .device) && e.pin && decide (e.base * 4096 ≤ faOff v) &&
          decide (faOff v < (e.base + e.pages) * 4096))).map (fun e => (e.vpn, e.vpn * 4096 + (faOff v - e.base * 4096)))
      else []
    let away := (t.filter (fun e => decide (e.ty = .peer) && decide (e.base * 4096 ≤ v) && decide (v < (e.base + e.pages) * 4096))).map
      (fun e => (e.vpn, e.vpn * 4096 + (v - e.base * 4096)))
    lowestCva (here ++ away)

/-- Offsets, within a chunk, of the pointers that lie in it (R266). -/
def pointersIn (x : Stream) (off len : Nat) : List Nat :=
  ((List.range (len / 8)).map (fun i => off + 8 * i)).filterMap (fun p =>
    if x.coff ≤ p ∧ (p - x.coff) % x.stride = 0 ∧ p + 8 ≤ x.total then some (p - off) else none)

/-- Convert the pointers of a chunk: its bytes and the number not converted, or the CVA that faults (R269). -/
def convChunk (s : State) (x : Stream) (off : Nat) (data : Bytes) : (Bytes × Nat) ⊕ Nat :=
  if x.conv = 0 then .inl (data, 0)
  else
    (pointersIn x off data.length).foldl (fun r p =>
      match r with
      | .inr f => .inr f
      | .inl (d, n) =>
        match convPointer s x.ctx x.conv (leAt data p 8) with
        | .val v => .inl (spliceBytes d p (natLe 8 v), n)
        | .none => .inl (spliceBytes d p (natLe 8 allOnes), n + 1)
        | .fault a => .inr a) (.inl (data, 0))

/-! ## Faults -/

/-- A fault group. -/
def groupOf (s : State) (g : Nat) : FaultGroup := tblGet ⟨1, 0, 0, []⟩ s.feed.groups g

/-- Put back a fault group. -/
def setGroup (s : State) (g : Nat) (x : FaultGroup) : State := { s with feed.groups := tblSet s.feed.groups g x }

/-- The fault record of a stream (R273). -/
def faultRecord (id : Nat) (x : Stream) (f : FaultRec) (parked : Bool) : Nat :=
  f.cause + (if f.write then 4 else 0) + (if parked then 8 else 0) + x.ctx * 2 ^ 16 + x.queue * 2 ^ 28 + id * 2 ^ 32 + x.tag * 2 ^ 48 +
    f.cva * 2 ^ 64 + f.epoch * 2 ^ 128 + f.seq * 2 ^ 160 + (if bitOf f.seq 12 then 2 ^ 192 else 0)

/-- Post a fault: its record by the Feed of its stream, then the notify mordant as a release at device scope (R274). -/
def postFault (s : State) (g id seq r : Nat) : State :=
  let s := cvaWrite s (344 + id / 2048) (odGet s (odKey 0x4100 g)) (odGet s (odKey 0x4101 g) + 32 * (seq % 4096)) (natLe 32 r)
  let s := setGroup s g { groupOf s g with posted := seq }
  let s := odBump s (odKey 0x4001 1) 1
  let m := odGet s (odKey 0x4102 g)
  if m.testBit 16 then mordUpdate s (m % 65536) ((mordGet s (m % 65536)).value + 1) 4 (locDevice s) else s

/-- The ring of a group is full (R275). -/
def ringFull (x : FaultGroup) : Bool := decide (4096 ≤ (x.posted + 2 ^ 32 - x.consumed) % 2 ^ 32)

/-- A stream meets a fault at the chunk at which it stands (R262, R274, R275, R278). -/
def streamFault (s : State) (id cause : Nat) (write : Bool) (cva : Nat) : State :=
  match streamOf s id with
  | none => s
  | some x =>
    let g := odGet s (odCtx 0x4020 x.ctx)
    let resolver := odGet s (odKey 0x4100 g)
    let x := { x with faults := x.faults + 1 }
    let s := setStream s id x
    if x.nowait || decide (resolver = 0) then
      let s := if resolver = 0 then logEv s "FAULT_NO_RESOLVER" [g, x.ctx, id] else s
      endStream s id (standsAt x) .faultUnresolved
    else
      let gr := groupOf s g
      let park := ringFull gr || decide (gr.parked ≠ [])
      let f : FaultRec := ⟨gr.nextSeq, g, cause, write, cva, epochOf s x.ctx, park, s.now⟩
      let r := faultRecord id x f park
      let s := setGroup s g { gr with nextSeq := (gr.nextSeq + 1) % 2 ^ 32, parked := gr.parked ++ (if park then [(f.seq, id, r)] else []) }
      let s := setStream s id { x with fault := some f }
      if park then
        flagEvent (odBump (odBump (odBump s (odKey 0x4001 2) 1) (odKey 0x4103 g) 1) (odKey 0x4104 g) 1) resolver 8
      else postFault s g id f.seq r

/-- The fault of a stream has been posted: it is parked no more. -/
def unparked (s : State) (id seq : Nat) : State :=
  match streamOf s id with
  | some x =>
    match x.fault with
    | some f => if f.seq = seq then setStream s id { x with fault := some { f with parked := false } } else s
    | none => s
  | none => s

/-- Post parked faults in SEQ order while the ring has room, and none is dropped (R276). -/
def postParked : (fuel : Nat) → State → (g : Nat) → State
  | 0, s, _ => s
  | fuel + 1, s, g =>
    let gr := groupOf s g
    if ringFull gr then s
    else
      match gr.parked with
      | [] => s
      | (seq, id, r) :: rest =>
        let s := unparked (setGroup s g { gr with parked := rest }) id seq
        let s := odSet s (odKey 0x4103 g) (odGet s (odKey 0x4103 g) - 1)
        postParked fuel (postFault s g id seq r) g

/-- Parked faults of a group that can be posted are posted. -/
def drainParked (s : State) (g : Nat) : State := postParked ((groupOf s g).parked.length) s g

/-- The fault of a stream is over. -/
def clearFault (s : State) (id : Nat) : State :=
  match streamOf s id with
  | some x => setStream s id { x with fault := none }
  | none => s

/-! ## Chunks -/

/-- What a CVA of a stream translates to. -/
inductive Xlat where
  | to (t : Target) | gap | absent
  deriving DecidableEq, Repr

/-- Translate one end of a chunk: a gap or a missing right withdraws (R263), an ABSENT entry faults (R262). -/
def xlatOf (s : State) (c cva : Nat) (r : Right) : Xlat :=
  match entryAt (rangeTable s c) (cva / 4096) with
  | none => .gap
  | some e => if !hasRight e r then .gap else if e.ty = .absent then .absent else .to (entryTarget s c e cva)

/-- The range cache of a die holds the page of a context (R247). -/
def rangeHit (s : State) (die c vpn : Nat) : Bool :=
  s.xlat.caches.any (fun x => decide (x.1 = die) && decide (x.2.1 = c) && decide (x.2.2.vpn ≤ vpn) && decide (vpn < x.2.2.vpn + x.2.2.pages))

/-- A miss is counted, and its walk is begun or queued (R248). -/
def rangeMiss (s : State) (die c vpn : Nat) (who : WalkFor) : State :=
  odBump { s with xlat.walks := s.xlat.walks ++ [⟨die, c, vpn, who⟩] } (odKey 0x4001 6) 1

/-- The walks that a range cache runs: of its misses in order of arrival, eight (R248). -/
def walksOf (s : State) (die : Nat) : List Walk := (s.xlat.walks.filter (fun w => decide (w.die = die))).take 8

/-- A walk has found the entry of a page: the cache of its die holds it, unless it is ABSENT (R247). -/
def fillRange (s : State) (die c vpn : Nat) : State :=
  match entryAt (rangeTable s c) vpn with
  | none => s
  | some e =>
    if e.ty = .absent then s
    else
      let mine := (s.xlat.caches.filter (fun x => decide (x.1 = die))).take 4095
      let rest := s.xlat.caches.filter (fun x => !decide (x.1 = die))
      { s with xlat.caches := (die, c, e) :: mine ++ rest }

/-- The stream waits for a walk. -/
def walking (s : State) (id : Nat) : Bool := s.xlat.walks.any (fun w => decide (w.waiter = .stream id))

/-- Offset of a chunk's bytes within the pattern of a FILL (R258). -/
def fillBytes (pat dst off len : Nat) : Bytes := (List.range len).map (fun i => BitVec.ofNat 8 (pat >>> (8 * ((dst + off + i) % 8))))

/-- Send the reads or the writes of a chunk to a host or a peer, line by line: the tags, and a status where one fails at once. -/
def askChunk (s : State) (id : Nat) (x : Stream) (k : Chunk) (write : Bool) : (List Nat × Option Status) × State :=
  let t := if write then k.dst else k.src
  match t with
  | .host p a =>
    (lineSegs a k.len).foldl (fun r g =>
      match r with
      | ((ts, some st), s) => ((ts, some st), s)
      | ((ts, none), s) =>
        let d := if write then ((k.data.getD []).drop g.1).take g.2 else []
        match t3Send s x.ctx (.chunk id k.offset g.1) (if write then 0x31 else 0x30) p (a + g.1) g.2 d with
        | (.tag n, s) => ((ts ++ [n], none), s)
        | (_, s) => ((ts, some .poison), s)) (([], none), s)
  | .peer a =>
    (lineSegs a k.len).foldl (fun r g =>
      match r with
      | ((ts, some st), s) => ((ts, some st), s)
      | ((ts, none), s) =>
        let d := if write then ((k.data.getD []).drop g.1).take g.2 else []
        match peerSend s x.ctx (.chunk id k.offset g.1) (if write then 2 else 1) (a + g.1) g.2 d 0 0 false with
        | (.tag n, s) => ((ts ++ [n], none), s)
        | (.poison, s) => ((ts, some .poison), peerPoison s x.ctx (faNode a))
        | (.noRight, s) => ((ts, some .withdrawn), s)) (([], none), s)
  | _ => (([], none), s)

/-- Is a place outside the device? -/
def remote : Target → Bool
  | .host _ _ => true
  | .peer _ => true
  | _ => false

/-- Put back a chunk of a stream. -/
def setChunk (s : State) (id : Nat) (k : Chunk) : State :=
  match streamOf s id with
  | some x => setStream s id { x with chunks := mapWhere (fun y => decide (y.offset = k.offset)) (fun _ => k) x.chunks }
  | none => s

/-- The lowest chunk in flight of a stream, where none below it is to be translated again: chunks are written in order, so that no
byte above a stop offset moves (R263). -/
def lowestChunk (x : Stream) : Option Chunk :=
  match x.chunks with
  | k :: _ => if x.again.all (fun o => decide (k.offset < o)) then some k else none
  | [] => none

/-- Die of the Feed of a stream. -/
def streamDie (id : Nat) : Nat := id / 64 / 32

/-- The agent under which the Feed of a stream sends requests (R288). -/
def streamAgent (id : Nat) : Nat := 344 + streamDie id

/-- The lowest chunk in flight of a stream sends its writes to a host or a peer once its data are there, unless they are held (R221,
R611). -/
def pumpStream (s : State) (id : Nat) : State :=
  match streamOf s id with
  | some x =>
    match lowestChunk x with
    | some k =>
      let moving := match x.owner with | .move _ _ => true | _ => false
      if k.data.isSome && decide (k.reqs = []) && !k.issued && remote k.dst && !composedHold s x.ctx k.dst && (moving || !targetHeld s k.dst) then
        match askChunk s id x k true with
        | ((ts, none), s) => setChunk s id { k with reqs := ts, issued := true }
        | ((_, some st), s) => endStream s id k.offset st
      else s
    | none => s
  | none => s

/-- A chunk's bytes are all there: pointers are converted (R266), or one of them faults (R269): the chunk leaves the flight and is
translated again when the fault is resolved; where the stream stands at a lower chunk, that one's turn comes first. -/
def chunkReady (s : State) (id : Nat) (k : Chunk) (data : Bytes) : State :=
  match streamOf s id with
  | none => s
  | some x =>
    match convChunk s x k.offset data with
    | .inl (d, n) => pumpStream (setChunk s id { k with data := some d, reqs := [], noconv := n }) id
    | .inr a =>
      let s := reissueChunk s id k.offset
      match streamOf s id with
      | some y => if y.fault.isNone && decide (standsAt y = k.offset) then streamFault s id 2 false a else s
      | none => s

/-- Length of the chunk at an offset: it crosses no 4 KiB boundary of the source or of the destination (R261). -/
def chunkLen (x : Stream) (off : Nat) : Nat :=
  let d := min (x.last - off) (4096 - (x.dst + off) % 4096)
  if x.fillPat.isSome then d else min d (4096 - (x.src + off) % 4096)

/-- What an end of a stream's chunk translates to, where the range cache of its die holds the page or its walk has just ended; none
where it must be walked (R247, R248). -/
def endOf (s : State) (id : Nat) (x : Stream) (cva : Nat) (r : Right) (walked : Option Nat) : Option Xlat :=
  if rangeHit s (streamDie id) x.ctx (cva / 4096) || decide (walked = some (cva / 4096)) then some (xlatOf s x.ctx cva r) else none

/-- Both ends of the chunk of a stream at an offset, or the page to be walked; the places of a page move are given, not translated. -/
def chunkEnds (s : State) (id : Nat) (x : Stream) (off : Nat) (walked : Option Nat) : (Xlat × Xlat) ⊕ Nat :=
  match x.owner with
  | .move c v =>
    .inl (match s.tier.moves.find? (fun m => decide (m.ctx = c) && decide (m.vpn = v)) with
      | some m => (.to m.src, .to m.dst)
      | none => (.gap, .gap))
  | _ =>
    match (if x.fillPat.isSome then some (.to .none) else endOf s id x (x.src + off) .read walked) with
    | none => .inr ((x.src + off) / 4096)
    | some (.to a) =>
      match endOf s id x (x.dst + off) .write walked with
      | none => .inr ((x.dst + off) / 4096)
      | some b => .inl (.to a, b)
    | some a => .inl (a, .gap)

/-- Put a chunk into flight in its place. -/
def addChunk (s : State) (id : Nat) (x : Stream) (k : Chunk) : State :=
  let (lo, hi) := x.chunks.partition (fun y => decide (y.offset < k.offset))
  setStream s id { x with chunks := lo ++ k :: hi, again := x.again.filter (fun o => decide (o ≠ k.offset)), next := max x.next (k.offset + k.len) }

/-- Is a stream the copy of a page under move? -/
def isMove (x : Stream) : Bool := match x.owner with | .move _ _ => true | _ => false

/-- A stream begins the chunk at an offset between two places: its bytes where they are at hand, or it asks for them (R261-R263, R311,
R602, R609). -/
def beginChunk (s : State) (id : Nat) (x : Stream) (off : Nat) (a b : Target) : Option (Chunk × Bytes) × State :=
  let len := chunkLen x off
  let k : Chunk := ⟨off, len, a, b, epochOf s x.ctx, none, [], false, 0, 0⟩
  let touched (s : State) : State :=
    if isMove x then s else touchCva (if x.fillPat.isSome then s else touchCva s x.ctx (x.src + off)) x.ctx (x.dst + off)
  if remote b && isShadow s x.ctx && !isMove x then (none, endStream s id off .range)
  else if composedHold s x.ctx a || composedHold s x.ctx b then (none, odBump s (odKey 0xC001 6) 1)
  else
    match x.fillPat with
    | some pat => (some (k, fillBytes pat x.dst off len), touched (addChunk s id x k))
    | none =>
      match a with
      | .dev sa =>
        if !rangesFree s [(sa, len)] then (none, askRanges s [(sa, len)])
        else if !(linesOf sa len).all (maySend s (streamAgent id) x.ctx) then (none, s)
        else
          let s := (linesOf sa len).foldl (fun s l => notePaced s (streamAgent id) x.ctx l) s
          let (r, s) := homeRead (touched s) (streamAgent id) x.ctx sa len
          if r.2 then (none, endStream s id off .poison) else (some (k, r.1), addChunk s id x k)
      | _ =>
        match askChunk s id x k false with
        | ((ts, none), s) =>
          (none, setChunk (addChunk (touched s) id x k) id { k with reqs := ts, data := some (List.replicate len 0#8) })
        | ((_, some st), s) => (none, endStream s id off st)

/-- A stream translates its next chunk and issues its reads; `walked` is the page whose walk has just ended. A miss holds the stream
until its walk ends (R248, R249). What the chunk reads and sends follows the generation of its descriptor (R87); its faults follow the
groups now in force (R271). -/
def issueChunk (s : State) (id : Nat) (walked : Option Nat) : State :=
  match streamOf s id with
  | none => s
  | some x =>
    match nextOffset x with
    | none => s
    | some off =>
      if x.done || cutOver s || x.fault.isSome || decide (16 ≤ x.chunks.length) || walking s id then s
      else if !ctxActive s x.ctx then endStream s id off .torn
      else
        match chunkEnds s id x off walked with
        | .inr v => rangeMiss s (streamDie id) x.ctx v (.stream id)
        | .inl (.gap, _) => endStream s id off .withdrawn
        | .inl (.absent, _) => streamFault s id 1 false (x.src + off)
        | .inl (.to _, .gap) => endStream s id off .withdrawn
        | .inl (.to _, .absent) => streamFault s id 1 true (x.dst + off)
        | .inl (.to a, .to b) =>
          let r := beginChunk (inGen s x.gen) id x off a b
          match r.1 with
          | some (k, d) => chunkReady (outGen s x.gen r.2) id k d
          | none => outGen s x.gen r.2

/-! ## Page moves (R221) -/

/-- The entry of a moved page at its new place (step 3 of R221). -/
def movedEntry (s : State) (m : Move) (e : RangeEntry) : RangeEntry :=
  let base := match m.dst with | .dev a => a / 4096 | .host _ a => a / 4096 | _ => 0
  { e with vpn := m.vpn, pages := 1, ty := if m.tier = 3 then .host else .device, t3 := decide (m.tier = 3), base := base,
           epoch := (epochOf s m.ctx + 1) % 2 ^ 32 }

/-- A table with the entries of some moves at their new places. -/
def movedTable (s : State) (t : List RangeEntry) (ms : List Move) : List RangeEntry :=
  ms.foldl (fun t m =>
    match entryAt t m.vpn with
    | some e => replaceRange ((epochOf s m.ctx + 1) % 2 ^ 32) t m.vpn 1 [movedEntry s m e]
    | none => t) t

/-- Frames that a move leaves: tier, page, count. -/
def leftFrames (m : Move) : Nat × Nat × Nat :=
  match m.src with
  | .dev a => (tierOfPage (a / 4096), a / 4096, 1)
  | .host _ a => (3, a / 4096, 1)
  | _ => (3, 0, 0)

/-- A place that lies in the old page of a move, at its new place. -/
def movedPlace (ms : List Move) (t : Target) : Target :=
  match ms.find? (fun m => decide (m.src = pageOf t)), t with
  | some m, .dev a => placeIn m.dst (a % 4096)
  | some m, .host _ a => placeIn m.dst (a % 4096)
  | _, t => t
where
  placeIn (d : Target) (off : Nat) : Target :=
    match d with
    | .dev b => .dev (b + off)
    | .host p b => .host p (b + off)
    | t => t

/-- Writes of chunks to the old pages of some moves that have not been issued go to the new ones (R221 step 3). -/
def moveChunks (s : State) (ms : List Move) : State :=
  let go (k : Chunk) : Chunk := if k.issued then k else { k with dst := movedPlace ms k.dst }
  { s with feed.streams := s.feed.streams.map (fun e => (e.1, if isMove e.2 then e.2 else { e.2 with chunks := e.2.chunks.map go })) }

/-- A holder's demotion pauses (R216, R242). -/
def pauseDemotion (s : State) (c : Nat) (fromT2 : Bool) (ev : String) : State :=
  let s := tierFlag { s with tier.paused := addOnce s.tier.paused (c, fromT2) } c 5 true
  let s := logEv s ev [c]
  if ev = "DEMOTE_BLOCKED" then odBump s (odKey 0x3005 4) 1 else s

/-- The old frame of a moved page forwards every access to the new place (R221 step 3). -/
def forwardMove (s : State) (m : Move) : State :=
  match m.src, m.dst with
  | .dev a, .dev b => { s with mem.forward := tblSet s.mem.forward (a / 4096) (b / 4096) }
  | .dev a, .host p b => { s with mem.away := tblSet s.mem.away (a / 4096) (p, b / 4096) }
  | _, _ => s

/-- The pages of some moves have been copied: their entries are switched under one new epoch, the old frames forward, and writes
held are released (steps 3 and 4). Where the table cannot take them by now, nothing of them changes: a PLACE completes with QUOTA, and a
demotion pauses (R242). -/
def switchMoves (s : State) (c vpn pages : Nat) (job : Option (Nat × Nat)) (ms : List Move) : State :=
  let t := movedTable s (rangeTable s c) ms
  if !tableFits t then
    let s := if job.isNone then pauseDemotion s c (ms.any (fun m => decide (m.tier = 3))) "TABLE_FULL" else s
    moveFails s c vpn .quota
  else
    let s := beginWithdrawal s c .move vpn pages t job [] (ms.map leftFrames)
    let s := { s with tier.moves := s.tier.moves.filter (fun y => !ms.contains y) }
    (moveChunks s ms).feed.streams.foldl (fun s e => pumpStream s e.1) (ms.foldl forwardMove (moveChunks s ms))

/-- Begin the copy of a page (step 1): every line of it that a cache owns is recalled, and writes to it are held. -/
def copyPage (s : State) (m : Move) : State :=
  let s := match m.src with
    | .dev a => (linesOf a 4096).foldl (fun s l =>
        match tblFind s.coh.shadow l with
        | some e => if e.owner.isSome && (adapterOwner s l).isNone then recallLine s l else askRecall s l
        | none => s) s
    | _ => s
  match addStream s (newStream (.move m.ctx m.vpn) (genNow s) m.ctx 0 0 (m.vpn * 4096) (m.vpn * 4096) 4096 (0, 4096)) with
  | (some id, s) => { s with tier.moves := mapWhere (fun y => decide (y = m)) (fun y => { y with stream := some id }) s.tier.moves }
  | (none, s) => s

/-- A page has been copied: a demotion switches it at once, a PLACE goes on with its next page and switches all of them after the
last. -/
def pageCopied (s : State) (m : Move) : State :=
  let s := { s with tier.moves := mapWhere (fun y => decide (y = m)) (fun y => { y with copied := true }) s.tier.moves }
  match m.job with
  | none => switchMoves s m.ctx m.vpn 1 none [{ m with copied := true }]
  | some (k, i) =>
    let mine := s.tier.moves.filter (fun y => decide (y.job = m.job))
    match mine.find? (fun y => !y.copied) with
    | some y => copyPage s y
    | none =>
      match jobFind s (k / 16) (k % 16) i with
      | some j =>
        match j.body with
        | .place v n => switchMoves s m.ctx v n m.job mine
        | _ => s
      | none => s

/-- A chunk of a stream has been acknowledged: its bytes count, and the pointers of it that were not converted (R261, R265, R269). -/
def ackChunk (s : State) (id : Nat) (k : Chunk) : State :=
  match streamOf s id with
  | some x =>
    let s := setStream s id { x with chunks := x.chunks.filter (fun y => !decide (y.offset = k.offset)), bytes := x.bytes + k.len,
                                     noconv := x.noconv + k.noconv }
    finishStream (pumpStream (odBump s (odKey 0x4001 7) k.noconv) id) id
  | none => s

/-- The copy of a moving page ends with its chunk, any other stream goes on. -/
def chunkDone (s : State) (id : Nat) (x : Stream) (k : Chunk) : State :=
  match x.owner with
  | .move c v =>
    match s.tier.moves.find? (fun m => decide (m.ctx = c) && decide (m.vpn = v)) with
    | some m => pageCopied (dropStreams (ackChunk s id k) x.owner) m
    | none => dropStreams s x.owner
  | _ => ackChunk s id k

/-- The last write of a chunk is acknowledged: the lowest chunk in flight of its stream. An entry of a moved page is switched once no
earlier withdrawal of the context drains (R246). -/
def doneChunk (s : State) (id off : Nat) : State :=
  match streamOf s id with
  | none => s
  | some x =>
    match lowestChunk x with
    | none => s
    | some k =>
      if k.offset ≠ off ∨ k.reqs ≠ [] ∨ k.data = none ∨ cutOver s = true ∨ (isMove x ∧ withdrawing s x.ctx) then s
      else
        match k.dst with
        | .dev sa =>
          if writesHeld s sa && !isMove x then s
          else if !rangesFree s [(sa, k.len)] then askRanges s [(sa, k.len)]
          else if !(linesOf sa k.len).all (maySend s (streamAgent id) x.ctx) then s
          else
            let s := (linesOf sa k.len).foldl (fun s l => notePaced s (streamAgent id) x.ctx l) s
            chunkDone (homeWrite s (streamAgent id) x.ctx sa (k.data.getD [])) id x k
        | .none => s
        | _ => if k.issued then chunkDone s id x k else pumpStream s id

/-! ## Answers to requests -/

/-- Bytes of the request of a chunk's writes that begins at a part. -/
def partLen (k : Chunk) (part : Nat) : Nat :=
  match k.dst with
  | .host _ a => (((lineSegs a k.len).find? (fun g => decide (g.1 = part))).map (·.2)).getD 0
  | .peer a => (((lineSegs a k.len).find? (fun g => decide (g.1 = part))).map (·.2)).getD 0
  | _ => 0

/-- A read's data, or a write's acknowledgement, of a chunk's part arrives (R263, R265, R445, R484). -/
def chunkAnswer (s : State) (id off part tag : Nat) (st : Status) (data : Bytes) : State :=
  match streamOf s id with
  | none => s
  | some x =>
    match x.chunks.find? (fun k => decide (k.offset = off) && k.reqs.contains tag) with
    | none => s
    | some k =>
      if st ≠ .ok then endStream s id off st
      else
        let left := k.reqs.filter (· != tag)
        if k.issued then setChunk s id { k with reqs := left, acked := k.acked + partLen k part }
        else
          let d := spliceBytes (k.data.getD []) part data
          if left = [] then chunkReady (setChunk s id { k with reqs := [], data := some d }) id { k with reqs := [], data := some d } d
          else setChunk s id { k with reqs := left, data := some d }

/-! ## Dispatch checks of COPY and FILL (R259) -/

/-- The entries of a range hold a right on every page, and cover it. -/
def copyRange (s : State) (c cva len : Nat) (r : Right) : Bool :=
  let (v, n) := pagesOf cva len
  let ps := piecesOf (rangeTable s c) v n
  decide (cva + len ≤ cvaEnd) && decide ((ps.map (·.pages)).sum = n) && ps.all (fun e => hasRight e r)

/-- The first failure of R259, none where the descriptor may run. -/
def copyCheck (s : State) (c d : Nat) (isFill : Bool) : Option Status :=
  let len := field d 128 40
  let conv := if isFill then 0 else field d 168 3
  let stride := field d 176 16
  let coff := field d 192 16
  let src := field d 256 64
  let dst := field d 320 64
  if len = 2 ^ 40 - 1 then some .reservedLength
  else if len = 0 then some .range
  else if conv ≠ 0 ∧ (4 < conv ∨ stride % 8 ≠ 0 ∨ stride < 8 ∨ 65528 < stride ∨ coff % 8 ≠ 0 ∨ stride ≤ coff ∨ src % 8 ≠ 0 ∨ dst % 8 ≠ 0) then
    some .range
  else if 4 < conv then some .range
  else if !copyRange s c dst len .write then some .range
  else if !isFill && !copyRange s c src len .read then some .range
  else if !isFill && decide (src < dst + len) && decide (dst < src + len) then some .range
  else none

/-- A stream of a COPY or FILL over a part of its length (R258, R267, R269). -/
def descStream (isFill : Bool) (gen c q : Nat) (x : Queue) (d : Nat) (p : Nat × Nat) : Stream :=
  { newStream (.desc (qKey c q) x.disp) gen c q (dTag d) (if isFill then 0 else field d 256 64) (field d 320 64) (field d 128 40) p with
    fillPat := if isFill then some (field d 256 64) else none
    conv := if isFill then 0 else field d 168 3
    stride := field d 176 16
    coff := field d 192 16
    nowait := bitOf d 171 }

/-- Start a COPY or FILL (R258-R260). -/
def startCopy (isFill : Bool) (s : State) (c q : Nat) (x : Queue) (d : Nat) : State :=
  match copyCheck s c d isFill with
  | some st => addJob s c q x d .plain (some (recFeed st (dOp d) (dTag d) 0 (2 ^ 40 - 1) 0 0 0))
  | none =>
    let len := field d 128 40
    if !slotsFree s (streamCount len) then s
    else addJob (startStreams s (descStream isFill (genNow s) c q x d) len) c q x d (.feed (streamCount len)) none

/-- COPY (R257-R260). -/
def execCopy (c : Ctx) (q : QNum) (s : State) : Host.Outcome State Fault Refusal :=
  effectOn s (dispatchAs s c.toNat q.val [2] (fun d => dOp d = 0x40) (fun s x d => startCopy false s c.toNat q.val x d))

/-- FILL (R257-R260). -/
def execFill (c : Ctx) (q : QNum) (s : State) : Host.Outcome State Fault Refusal :=
  effectOn s (dispatchAs s c.toNat q.val [2] (fun d => dOp d = 0x41) (fun s x d => startCopy true s c.toNat q.val x d))

/-- CHUNK_ISSUE (R261, R262). -/
def execChunkIssue (stream : BitVec 16) (s : State) : Host.Outcome State Fault Refusal := effectOn s (issueChunk s stream.toNat none)

/-- FAULT_DEADLINE (R278): the fault of a stream ends it with FAULT_UNRESOLVED; a fault of a TORN context stays (R279). -/
def execFaultDeadline (stream : BitVec 16) (s : State) : Host.Outcome State Fault Refusal :=
  effectOn s (match streamOf s stream.toNat with
    | some x =>
      if x.fault.isSome && ctxActive s x.ctx then endStream (clearFault s stream.toNat) stream.toNat (standsAt x) .faultUnresolved else s
    | none => s)

end Sys2Proof.Machine
end

