-- ==== Sys2Proof/Machine/Compose.lean ====
section
/-! DEFINITION. Compositions from step 4 of R611 onwards: what is outstanding under the old binding, what is aborted at the deadline, and
the end of the pause (R611-R613). -/

namespace Sys2Proof.Machine

/-- The context of who waits for an answer. -/
def askerCtx (s : State) : Asker → Nat
  | .home => 0
  | .chunk id _ _ => match streamOf s id with | some x => x.ctx | none => 0
  | .job k _ => k / 16
  | .commit k _ => k / 16
  | .ckpt c _ => c

/-- Requests to peers that are outstanding under the old binding of a composition (R611 step 4): TAG and request. -/
def oldPeers (s : State) (k : Composition) : Tbl PeerReq :=
  s.fab.peers.filter (fun e => decide (e.2.ctx = k.ctx) && k.wids.contains e.2.win && decide (e.2.ptype ≤ 3))

/-- T3 requests that are outstanding on the old host port of a composition. -/
def oldHost (s : State) (k : Composition) : Tbl Asker :=
  if k.hostPort then s.fab.t3.filter (fun e => decide (e.1 / 65536 = k.oldPort) && decide (askerCtx s e.2 = k.ctx)) else []

/-- Is an ATOMIC outstanding under the old binding (R612)? -/
def oldAtomic (s : State) (k : Composition) : Bool := (oldPeers s k).any (fun e => decide (e.2.ptype = 3))

/-- The reads and writes still outstanding are aborted, and will be made again (R611 step 5); an ATOMIC is not (R612). -/
def composeAbort (s : State) (k : Composition) : State :=
  let ps := (oldPeers s k).filter (fun e => decide (e.2.ptype ≠ 3))
  let hs := oldHost s k
  let tags := ps.map (·.1) ++ hs.map (fun e => 2 ^ 20 + e.1)
  let s := dropWaiting s tags
  let peersLeft : Tbl PeerReq := ps.foldl (fun t e => tblErase t e.1) s.fab.peers
  let t3Left : Tbl Asker := hs.foldl (fun t e => tblErase t e.1) s.fab.t3
  let s := odBump (sendHeld { s with fab.peers := peersLeft, fab.t3 := t3Left }) (odKey 0xC001 7) tags.length
  let s := (ps.map (·.2.asker) ++ hs.map (·.2)).foldl (fun s a =>
    match a with
    | .chunk id off _ => reissueChunk s id off
    | _ => s) s
  redoCopies s k.ctx tags

/-- The pause of a composition ends: held requests go on, and event COMPOSED is logged and sent (R611 steps 6 and 7). -/
def composeEnd (s : State) (k : Composition) : State :=
  let s := { s with step.compositions := s.step.compositions.filter (fun y => !decide (y = k)) }
  let s := (s.feed.streams.filter (fun e => decide (e.2.ctx = k.ctx))).foldl (fun s e => pumpStream s e.1) s
  let s := resumeCheckpoints (resumeCommits s k.ctx) k.ctx
  let s := odSet (odBump s (odKey 0xC001 5) 1) (odCtx 0xC220 k.ctx) (min ((s.now - k.start) / 1000) (2 ^ 32 - 1))
  logNotify s "COMPOSED" [k.ctx]

/-- The INK that carried the compositions is answered when the last of them has ended. -/
def composeAnswer (s : State) : State := if s.step.compositions = [] ∧ s.dict.inkDone = true then answerInk s else s

/-- The deadline of the compositions under way: each is aborted, and ends unless it waits for an ATOMIC. -/
def composeDeadline (s : State) : State :=
  composeAnswer (s.step.compositions.foldl (fun s k =>
    let s := composeAbort s k
    if oldAtomic s k then s else composeEnd s k) s)

/-- Compositions with nothing outstanding end at once. -/
def composeQuiet (s : State) : State :=
  composeAnswer (s.step.compositions.foldl (fun s k =>
    if oldPeers s k = [] ∧ oldHost s k = [] then composeEnd s k else s) s)

/-- PFAIL is acted on during steps 3 to 6: step 6 runs at once (R613). -/
def composePfail (s : State) : State :=
  composeAnswer (s.step.compositions.foldl (fun s k => composeEnd (composeAbort s k) k) s)

end Sys2Proof.Machine
end

