-- ==== Sys2Proof/Machine/Tiers.lean ====
section
/-! DEFINITION. Tier queues (R203-R213, R653), demotion (R214-R220), the drain of cache frames (R202) and the writeback of dirty
lines (R226). -/

namespace Sys2Proof.Machine

/-! ## The body of a tier-queue descriptor (R204) -/

/-- TIER. -/
def tTier (d : Nat) : Nat := field d 128 4

/-- PIN. -/
def tPin (d : Nat) : Bool := bitOf d 132

/-- LENGTH. -/
def tLen (d : Nat) : Nat := field d 160 40

/-- CVA. -/
def tCva (d : Nat) : Nat := field d 256 64

/-- First page and pages of the range. -/
def tRange (d : Nat) : Nat × Nat := (tCva d / 4096, tLen d / 4096)

/-- The checks before the table of R205: the all-ones LENGTH, then the range and its alignment. -/
def tierFields (d : Nat) : Option Status :=
  if tLen d = 2 ^ 40 - 1 then some .reservedLength
  else if cvaEnd < tCva d + tLen d then some .range
  else if tLen d = 0 ∨ tLen d % 4096 ≠ 0 ∨ tCva d % 4096 ≠ 0 then some .range
  else none

/-- The active management core executes tier and translation descriptors (R203, R253). -/
def coreUp (s : State) : Bool := s.boot.activeDie.isSome && procRunning s (activeCore s)

/-- Complete a tier or translation descriptor at once (R207). -/
def tierEnd (s : State) (c q : Nat) (x : Queue) (d : Nat) (st : Status) (bytes : Nat) : State :=
  addJob (countStatus s st) c q x d .plain (some (recBytes st (dOp d) (dTag d) bytes))

/-- Some page of a range is under move: the descriptor waits for the move. -/
def movesIn (s : State) (c v n : Nat) : Bool :=
  s.tier.moves.any (fun m => decide (m.ctx = c) && decide (v ≤ m.vpn) && decide (m.vpn < v + n))

/-- The frames behind an entry: tier, first page, count; none for ABSENT, PEER and plain HOST entries. -/
def framesOf (e : RangeEntry) : Option (Nat × Nat × Nat) :=
  match e.ty with
  | .device => some (tierOfPage e.base, e.base, e.pages)
  | .host => if e.t3 then some (3, e.base, e.pages) else none
  | _ => none

/-- A configured fault queue of the context lies in the range (R272). -/
def touchesFaultQueue (s : State) (c v n : Nat) : Bool :=
  (List.range 64).any (fun g => decide (odGet s (odKey 0x4100 g) = c) &&
    decide (odGet s (odKey 0x4101 g) < (v + n) * 4096) && decide (v * 4096 < odGet s (odKey 0x4101 g) + 131072))

/-- A page of the range lies in an open export window of the context (R440). -/
def touchesExport (s : State) (c v n : Nat) : Bool :=
  (fabWins s).any (fun w => decide (w.role = 1) && decide (w.ctx = c) &&
    (piecesOf (rangeTable s c) v n).any (fun e => decide (e.ty = .device) && decide (e.base * 4096 < faOff w.base + w.pages * 4096) &&
      decide (faOff w.base < (e.base + e.pages) * 4096)))

/-- The quota and the pool for `n` more frames of a tier (R210, R211). -/
def roomFor (s : State) (c tier n : Nat) : Option Status :=
  if quotaMib s c tier < mib (chargeFrames s c tier + n) then some .quota
  else if wouldShort s tier n then some .throttled
  else none

/-! ## Choosing frames for a context -/

/-- Frames for a context: tier, first page, count of each run, or none where they cannot be had: T1 frames that are still draining
(R202), or a host port whose extents have no frame left (R483). -/
def chooseFrames (s : State) (c tier n : Nat) : Option (List (Nat × Nat × Nat)) × State :=
  if tier = 1 then
    let l := chooseT1 s n
    if (l.map (·.2)).sum = n then (some (l.map (fun g => (0, g))), s) else (none, s)
  else if tier = 2 then
    let (l, s) := chooseT2 n s s.tier.t2 n
    if (l.map (·.2)).sum = n then (some (l.map (fun g => (0, g))), s) else (none, s)
  else
    let l := chooseT3 s (ctxHostPort s c) (extents s) n
    if (l.map (fun g => g.2.2)).sum = n then (some l, s) else (none, s)

/-- Give chosen frames to a context. -/
def takeFrames (s : State) (c tier : Nat) (l : List (Nat × Nat × Nat)) : State :=
  if tier = 3 then giveT3 s c (ctxHostPort s c) l else giveFrames s c (l.map (·.2))

/-- Entries over `[v, ...)` for runs of frames, one for each run that one BASE describes (R653). -/
def entriesOver (s : State) (c tier : Nat) (pin : Bool) : (v : Nat) → List (Nat × Nat × Nat) → List RangeEntry
  | _, [] => []
  | v, g :: t =>
    ⟨v, g.2.2, if tier = 3 then .host else .device, true, true, true, pin, decide (tier = 3), g.2.1, epochOf s c⟩ ::
      entriesOver s c tier pin (v + g.2.2) t

/-- A 64 KiB unit in which nothing was allocated has not been accessed since its allocation (R214). -/
def forgetUnits (s : State) (c v n : Nat) : State :=
  let t := rangeTable s c
  { s with tier.recency := s.tier.recency.filter (fun e =>
      let u := e.1 % 2 ^ 41
      !(decide (e.1 / 2 ^ 41 = c) && decide (v / 16 ≤ u) && decide (u ≤ (v + n - 1) / 16) &&
        (piecesOf t (u * 16) 16).all (fun p => decide (p.ty = .absent)))) }

/-! ## Tier-queue commands -/

/-- The table cannot take even one entry more for a range (R242): QUOTA comes before THROTTLED (R20). -/
def tableFull (s : State) (c v n : Nat) : Bool :=
  !tableFits (replaceRange (epochOf s c) (rangeTable s c) v n [⟨v, n, .device, true, true, true, false, false, 2 ^ 52, 0⟩])

/-- ALLOC: the first status of R205 that applies, or the allocation. -/
def doAlloc (s : State) (c q : Nat) (x : Queue) (d : Nat) : State :=
  let (v, n) := tRange d
  let tier := tTier d
  match tierFields d with
  | some st => tierEnd s c q x d st 0
  | none =>
    if tier = 0 ∨ 3 < tier ∨ (tier = 3 ∧ tPin d = true) then tierEnd s c q x d .range 0
    else if (piecesOf (rangeTable s c) v n).any (fun e => decide (e.ty ≠ .absent)) then tierEnd s c q x d .range 0
    else
      match roomFor s c tier n with
      | some .throttled =>
        if tableFull s c v n then tierEnd s c q x d .quota 0 else notePool (tierEnd s c q x d .throttled 0) tier true
      | some st => tierEnd s c q x d st 0
      | none =>
        match chooseFrames s c tier n with
        | (none, s) => tierEnd s c q x d (if tableFull s c v n then .quota else .throttled) 0
        | (some l, s) =>
          let t := replaceRange (epochOf s c) (rangeTable s c) v n (entriesOver s c tier (tPin d) v l)
          if !tableFits t then tierEnd s c q x d .quota 0
          else
            let s := putTable (takeFrames (forgetUnits s c v n) c tier l) c t
            settleQuota (notePool (tierEnd s c q x d .ok (tLen d)) tier false) c

/-- ALLOC (R205, R653). -/
def execAlloc (c : Ctx) (q : QNum) (s : State) : Host.Outcome State Fault Refusal :=
  effectOn s (dispatchAs s c.toNat q.val [4] (fun d => dOp d = 0x20) (fun s x d =>
    if coreUp s then doAlloc s c.toNat q.val x d else s))

/-- FREE: unmap a range and withdraw it; its frames return when the old epoch has drained (R205, R280). -/
def doFree (s : State) (c q : Nat) (x : Queue) (d : Nat) : State :=
  let (v, n) := tRange d
  let t := rangeTable s c
  let ps := piecesOf t v n
  match tierFields d with
  | some st => tierEnd s c q x d st 0
  | none =>
    if movesIn s c v n || withdrawing s c then s
    else if !covered t v n || ps.any (fun e => (framesOf e).isNone || e.pin) then tierEnd s c q x d .range 0
    else if touchesFaultQueue s c v n || touchesExport s c v n then tierEnd s c q x d .range 0
    else
      let t' := replaceRange ((epochOf s c + 1) % 2 ^ 32) t v n []
      if !tableFits t' then tierEnd s c q x d .quota 0
      else
        let s := addJob s c q x d (.withdraw (tLen d)) none
        beginWithdrawal s c .free v n t' (some (qKey c q, x.disp)) [] (ps.filterMap framesOf)

/-- FREE (R205). -/
def execFree (c : Ctx) (q : QNum) (s : State) : Host.Outcome State Fault Refusal :=
  effectOn s (dispatchAs s c.toNat q.val [4] (fun d => dOp d = 0x21) (fun s x d =>
    if coreUp s then doFree s c.toNat q.val x d else s))

/-- PIN and UNPIN (R205, R272, R440): UNPIN leaves ABSENT, HOST and PEER pages as they are. -/
def doPin (s : State) (c q : Nat) (x : Queue) (d : Nat) (on : Bool) : State :=
  let (v, n) := tRange d
  let t := rangeTable s c
  let ps := piecesOf t v n
  match tierFields d with
  | some st => tierEnd s c q x d st 0
  | none =>
    if movesIn s c v n then s
    else if !covered t v n then tierEnd s c q x d .range 0
    else if on && ps.any (fun e => decide (e.ty ≠ .device)) then tierEnd s c q x d .range 0
    else if !on && (touchesFaultQueue s c v n || touchesExport s c v n) then tierEnd s c q x d .range 0
    else
      let t' := replaceRange (epochOf s c) t v n (ps.map (fun e => if e.ty = .device ∧ e.pin ≠ on then { e with pin := on, epoch := epochOf s c } else e))
      if !tableFits t' then tierEnd s c q x d .quota 0
      else
        settleQuota (putTable (tierEnd s c q x d .ok (tLen d)) c t') c

/-- PIN (R205). -/
def execPin (c : Ctx) (q : QNum) (s : State) : Host.Outcome State Fault Refusal :=
  effectOn s (dispatchAs s c.toNat q.val [4] (fun d => dOp d = 0x22) (fun s x d =>
    if coreUp s then doPin s c.toNat q.val x d true else s))

/-- UNPIN (R205, R217). -/
def execUnpin (c : Ctx) (q : QNum) (s : State) : Host.Outcome State Fault Refusal :=
  effectOn s (dispatchAs s c.toNat q.val [4] (fun d => dOp d = 0x23) (fun s x d =>
    if coreUp s then doPin s c.toNat q.val x d false else s))

/-- The place of a page of an entry. -/
def pagePlace (s : State) (c : Nat) (e : RangeEntry) (vpn : Nat) : Target := entryTarget s c e (vpn * 4096)

/-- Pages of some entries one by one: page number and place. -/
def pagesIn (s : State) (c : Nat) (ps : List RangeEntry) : List (Nat × Target) :=
  (ps.map (fun e => (List.range e.pages).map (fun i => (e.vpn + i, pagePlace s c e (e.vpn + i))))).flatten

/-- Pages of chosen frames one by one, as places. -/
def placesOf (s : State) (c tier : Nat) (l : List (Nat × Nat × Nat)) : List Target :=
  (l.map (fun g => (List.range g.2.2).map (fun i =>
    if tier = 3 then Target.host (ctxHostPort s c) ((g.2.1 + i) * 4096) else Target.dev ((g.2.1 + i) * 4096)))).flatten

/-- PLACE: every page outside TIER is copied to a new frame; pages already there stay (R205, R221). -/
def doPlace (s : State) (c q : Nat) (x : Queue) (d : Nat) : State :=
  let (v, n) := tRange d
  let tier := tTier d
  let t := rangeTable s c
  let ps := piecesOf t v n
  match tierFields d with
  | some st => tierEnd s c q x d st 0
  | none =>
    if movesIn s c v n || withdrawing s c then s
    else if tier = 0 ∨ 3 < tier then tierEnd s c q x d .range 0
    else if !covered t v n || ps.any (fun e => (framesOf e).isNone || e.pin) then tierEnd s c q x d .range 0
    else
      let away := ps.filter (fun e => decide ((framesOf e).map (·.1) ≠ some tier))
      let k := (away.map (·.pages)).sum
      match roomFor s c tier k with
      | some .throttled => notePool (tierEnd s c q x d .throttled 0) tier true
      | some st => tierEnd s c q x d st 0
      | none =>
        match chooseFrames s c tier k with
        | (none, s) => tierEnd s c q x d .throttled 0
        | (some l, s) =>
          let job := some (qKey c q, x.disp)
          let ms := ((pagesIn s c away).zip (placesOf s c tier l)).map (fun p => (⟨job, c, p.1.1, tier, p.1.2, p.2, none, false⟩ : Move))
          if !tableFits (movedTable s t ms) then tierEnd s c q x d .quota 0
          else
            match ms with
            | m :: _ =>
              let s := notePool (addJob (takeFrames s c tier l) c q x d (.place v n) none) tier false
              copyPage { s with tier.moves := s.tier.moves ++ ms } m
            | [] => tierEnd s c q x d .ok (tLen d)

/-- PLACE (R205, R221). -/
def execPlace (c : Ctx) (q : QNum) (s : State) : Host.Outcome State Fault Refusal :=
  effectOn s (dispatchAs s c.toNat q.val [4] (fun d => dOp d = 0x24) (fun s x d =>
    if coreUp s then doPlace s c.toNat q.val x d else s))

/-! ## Demotion (R214-R220) -/

/-- Last access of a 64 KiB unit; a unit never accessed is less recent than any other (R214). -/
def unitUse (s : State) (c u : Nat) : Nat := tblGet 0 s.tier.recency (c * 2 ^ 41 + u)

/-- A page holds a poisoned line: a Feed cannot copy it, and it stays where it is. -/
def pagePoisoned (s : State) (page : Nat) : Bool := s.mem.poison.any (fun l => decide (l / 32 = page))

/-- Of an entry's pages, the candidates for demotion: the first page of each of its first units, one more unit than the recency
table has, so that a unit never accessed is among them where the entry has one. Poisoned pages are left out. -/
def unitPages (s : State) (e : RangeEntry) : List Nat :=
  let u0 := e.vpn / 16
  let units := (e.vpn + e.pages - 1) / 16 - u0 + 1
  let bad := s.mem.poison.length
  ((List.range (min units (s.tier.recency.length + bad + 1))).map (fun i =>
    (List.range 16).find? (fun k =>
      let v := (u0 + i) * 16 + k
      decide (e.vpn ≤ v) && decide (v < e.vpn + e.pages) && !(decide (e.ty = .device) && pagePoisoned s (e.base + (v - e.vpn))))
      |>.map (fun k => (u0 + i) * 16 + k))).filterMap id

/-- The page to demote next: of the holder's unpinned pages in the tier, the least recently used unit, then the lowest CVA. -/
def victimPage (s : State) (c tier : Nat) : Option Nat :=
  let es := (rangeTable s c).filter (fun e => decide (e.ty = .device) && !e.pin && decide (tierOfPage e.base = tier))
  ((es.map (unitPages s)).flatten).foldl (fun b v =>
    match b with
    | none => some v
    | some w => if unitUse s c (v / 16) < unitUse s c (w / 16) then some v else some w) none

/-- One page of an over-quota holder begins its move to the next tier, or its demotion pauses (R214, R216, R242). -/
def demoteOne (s : State) (c : Nat) (fromT2 : Bool) : State :=
  let dest := if fromT2 then 3 else 2
  match victimPage s c (if fromT2 then 2 else 1) with
  | none => s
  | some v =>
    match entryAt (rangeTable s c) v with
    | none => s
    | some e =>
      if quotaMib s c dest < mib (chargeFrames s c dest + 1) then pauseDemotion s c fromT2 "DEMOTE_BLOCKED"
      else
        match chooseFrames s c dest 1 with
        | (none, s) => pauseDemotion s c fromT2 "DEMOTE_BLOCKED"
        | (some l, s) =>
          match placesOf s c dest l with
          | [] => s
          | p :: _ =>
            let m : Move := ⟨none, c, v, dest, pagePlace s c e v, p, none, false⟩
            if !tableFits (movedTable s (rangeTable s c) [m]) then pauseDemotion s c fromT2 "TABLE_FULL"
            else
              let s := notePool (takeFrames s c dest l) dest false
              copyPage { s with tier.moves := s.tier.moves ++ [m] } m

/-- A holder above its cut T1 cache share loses its least recently used frame (R220). -/
def cutShare (s : State) (c : Nat) : State :=
  if shareFrames s c < occupancy s c then
    match leastUsed (s.mem.cache.filter (fun f => decide (frameOwner s f.frame = some c))) with
    | some f => settleQuota (dropFrame s f) c
    | none => s
  else s

/-- DEMOTION (R214-R217, R220): while the holder is over its quota in the tier, its demotion has not paused and no page of it is
under move. -/
def execDemotion (c : Ctx) (fromT2 : Bool) (s : State) : Host.Outcome State Fault Refusal :=
  effectOn s (
    let c := c.toNat
    let s := if fromT2 then s else cutShare s c
    if overQuota s c (if fromT2 then 2 else 0) && !s.tier.paused.contains (c, fromT2) && !withdrawing s c &&
        !s.tier.moves.any (fun m => decide (m.ctx = c)) then demoteOne s c fromT2
    else s)

/-- DEMOTION_RESUME (R216): room has appeared in the destination tier, and the demotion-blocked bit clears. -/
def execDemotionResume (c : Ctx) (s : State) : Host.Outcome State Fault Refusal :=
  effectOn s (
    let c := c.toNat
    let left := s.tier.paused.filter (fun p => !(decide (p.1 = c) &&
      (let dest := if p.2 then 3 else 2
       decide (mib (chargeFrames s c dest + 1) ≤ quotaMib s c dest) && decide (0 < poolFree s dest))))
    let s := { s with tier.paused := left }
    if left.any (fun p => decide (p.1 = c)) then s else tierFlag s c 5 false)

/-- The lowest of the frames that are still to be drained. -/
def nextDrain (s : State) : Option CacheFrame :=
  (toDrain s).foldl (fun (b : Option CacheFrame) f =>
    match b with
    | none => some f
    | some g => if f.place < g.place then some f else some g) none

/-- CACHE_FRAME_DRAIN (R202): the lowest frame that is still to be drained is written back and dropped; it, and the frames up to the
next one, become allocatable. -/
def execCacheFrameDrain (s : State) : Host.Outcome State Fault Refusal :=
  effectOn s (
    match nextDrain s with
    | some f => notePool (dropFrame s f) 1 false
    | none => s)

/-- The key of the row of a frame. -/
def rowKey (frame : Nat) : Nat := grpOf frame * 2 ^ 30 + rowOf2 frame

/-- A frame's unit write is complete: what is still dirty with the count it had is clean (R403). -/
def endRowWrite (s : State) (key : Nat) (w : RowWrite) : State :=
  let still := (s.mem.cache.filter (fun f => f.frame = w.frame)).map (·.dirty) |>.flatten
  let lines := w.lines.filter (fun l => (tblFind still l.1).isSome)
  let s := lines.foldl (fun s l =>
    { s with mem.media := memWrite s.mem.media (w.frame * 4096 + l.1 * 128) ((w.data.drop (l.1 * 128)).take 128) }) s
  let clean (f : CacheFrame) : CacheFrame := { f with dirty := f.dirty.filter (fun d => !lines.contains d) }
  { setCache s (mapWhere (fun f => f.frame = w.frame) clean s.mem.cache) with cart.rows := tblErase s.cart.rows key }

/-- Every unit write already issued completes (R229). -/
def endRowWrites (s : State) : State := s.cart.rows.foldl (fun s e => endRowWrite s e.1 e.2) s

/-- Begin the unit write of a frame (R403): the row is held until its units have been acknowledged (R404). -/
def startRowWrite (s : State) (f : CacheFrame) : State :=
  let g := grpOf f.frame
  let row := rowOf2 f.frame
  let data := memRead s.mem.mem (f.frame * 4096) 4096
  let after := { s with mem.media := memWrite s.mem.media (f.frame * 4096) data }
  let outs : List (Nat × Nat) := ((writtenPos row (f.frame % 8)).map (fun p => (unitSlots s g row p).map (fun n => (n, p)))).flatten
  let w : RowWrite := ⟨f.frame, f.dirty, data, (outs.map (·.1)).eraseDups⟩
  let s := outs.foldl (fun s o => sendUnit s o.1 row o.2 (unitAt after g row o.2)) s
  if outs = [] then endRowWrite s (rowKey f.frame) w else { s with cart.rows := tblSet s.cart.rows (rowKey f.frame) w }

/-- DIRTY_WRITEBACK (R226, R227): from three quarters of C on, the least recently used dirty line is written back, together with
the dirty lines of its stripe unit; a row under write is left (R404). -/
def execDirtyWriteback (s : State) : Host.Outcome State Fault Refusal :=
  effectOn s (
    if 3 * dirtyCap s ≤ 4 * dirtyCharge s then
      let idle := s.mem.cache.filter (fun f => (tblFind s.cart.rows (rowKey f.frame)).isNone)
      match leastDirty idle with
      | some (f, _) =>
        match idle.find? (fun x => decide (x.frame = f)) with
        | some x => startRowWrite s x
        | none => s
      | none => s
    else s)

end Sys2Proof.Machine
end

