-- ==== Sys2Proof/Machine/Xlat.lean ====
section
/-! DEFINITION. Translation queues (R253-R256), the resolution of faults (R276-R279), and withdrawals as they drain
(R280-R282; their deadline stands in Coherence.lean, the end of a drain in Isolation.lean). -/

namespace Sys2Proof.Machine

/-! ## The body of a translation-queue descriptor (R254) -/

/-- PAGES. -/
def xPages (d : Nat) : Nat := field d 160 40

/-- ARG. -/
def xArg (d : Nat) : Nat := field d 256 64

/-- TARGET. -/
def xTarget (d : Nat) : Nat := field d 320 64

/-- TYPE of a MAP. -/
def xType (d : Nat) : Option RangeTy :=
  match field d 128 3 with
  | 0 => some .absent
  | 2 => some .host
  | 3 => some .peer
  | _ => none

/-- The checks on PAGES and ARG of MAP, UNMAP and PROTECT (R255). -/
def xlatFields (d : Nat) : Option Status :=
  if xPages d = 2 ^ 40 - 1 then some .reservedLength
  else if xPages d = 0 ∨ xArg d % 4096 ≠ 0 ∨ cvaEnd < xArg d + xPages d * 4096 then some .range
  else none

/-- A span is covered by windows: from its start, each window that holds the next address takes it on to the window's end. -/
def spanned (ws : List (Nat × Nat)) : (fuel a hi : Nat) → Bool
  | 0, a, hi => decide (hi ≤ a)
  | fuel + 1, a, hi =>
    if hi ≤ a then true
    else
      match ws.find? (fun w => decide (w.1 ≤ a) && decide (a < w.1 + w.2)) with
      | some w => spanned ws fuel (w.1 + w.2) hi
      | none => false

/-- The target of a MAP lies within the context's host or fabric windows (R255). -/
def targetAllowed (s : State) (c : Nat) (ty : RangeTy) (a n : Nat) : Bool :=
  let ws : List (Nat × Nat) :=
    match ty with
    | .host => ((hostWins s).filter (fun w => decide (w.ctx = c) && decide (w.port = ctxHostPort s c))).map (fun w => (w.hbase, w.pages * 4096))
    | .peer => ((fabWins s).filter (fun w => decide (w.role = 2) && decide (w.ctx = c))).map (fun w => (w.base, w.pages * 4096))
    | _ => []
  match ty with
  | .absent => decide (a = 0)
  | .device => false
  | _ => decide (a % 4096 = 0) && decide (a + n ≤ 2 ^ 64) && spanned ws (ws.length + 1) a (a + n)

/-- MAP (R241, R255). -/
def doMap (s : State) (c q : Nat) (x : Queue) (d : Nat) : State :=
  let v := xArg d / 4096
  let n := xPages d
  match xlatFields d, xType d with
  | some st, _ => tierEnd s c q x d st 0
  | none, none => tierEnd s c q x d .range 0
  | none, some ty =>
    if (piecesOf (rangeTable s c) v n).any (fun e => decide (e.ty ≠ .absent)) then tierEnd s c q x d .range 0
    else if !targetAllowed s c ty (xTarget d) (n * 4096) then tierEnd s c q x d .range 0
    else
      let e : RangeEntry := ⟨v, n, ty, bitOf d 131, bitOf d 132, bitOf d 133, false, false, xTarget d / 4096, epochOf s c⟩
      let t := replaceRange (epochOf s c) (rangeTable s c) v n [e]
      if !tableFits t then tierEnd s c q x d .quota 0 else putTable (tierEnd s c q x d .ok (n * 4096)) c t

/-- MAP (R255). -/
def execMap (c : Ctx) (q : QNum) (s : State) : Host.Outcome State Fault Refusal :=
  effectOn s (dispatchAs s c.toNat q.val [3] (fun d => dOp d = 0x30) (fun s x d =>
    if coreUp s then doMap s c.toNat q.val x d else s))

/-- UNMAP (R242, R255, R280). -/
def doUnmap (s : State) (c q : Nat) (x : Queue) (d : Nat) : State :=
  let v := xArg d / 4096
  let n := xPages d
  let t := rangeTable s c
  match xlatFields d with
  | some st => tierEnd s c q x d st 0
  | none =>
    if withdrawing s c then s
    else if !covered t v n || (piecesOf t v n).any (fun e => decide (e.ty = .device) || (decide (e.ty = .host) && e.t3)) then
      tierEnd s c q x d .range 0
    else
      let t' := replaceRange ((epochOf s c + 1) % 2 ^ 32) t v n []
      if !tableFits t' then tierEnd s c q x d .quota 0
      else
        beginWithdrawal (addJob s c q x d (.withdraw (n * 4096)) none) c .unmap v n t' (some (qKey c q, x.disp)) [] []

/-- UNMAP (R255). -/
def execUnmap (c : Ctx) (q : QNum) (s : State) : Host.Outcome State Fault Refusal :=
  effectOn s (dispatchAs s c.toNat q.val [3] (fun d => dOp d = 0x31) (fun s x d =>
    if coreUp s then doUnmap s c.toNat q.val x d else s))

/-- PROTECT: rights set complete at once; a right cleared is a withdrawal, which for a pinned page also waits for the Nib and
Quill descriptors dispatched before it (R244, R252, R255). -/
def doProtect (s : State) (c q : Nat) (x : Queue) (d : Nat) : State :=
  let v := xArg d / 4096
  let n := xPages d
  let t := rangeTable s c
  let ps := piecesOf t v n
  let rd := bitOf d 131
  let wr := bitOf d 132
  let at_ := bitOf d 133
  match xlatFields d with
  | some st => tierEnd s c q x d st 0
  | none =>
    let clears (e : RangeEntry) : Bool := (e.rd && !rd) || (e.wr && !wr) || (e.at_ && !at_)
    if movesIn s c v n || (ps.any clears && withdrawing s c) then s
    else if !covered t v n || ps.any (fun e => decide (e.ty = .absent)) then tierEnd s c q x d .range 0
    else
      let e' := if ps.any clears then (epochOf s c + 1) % 2 ^ 32 else epochOf s c
      let t' := replaceRange e' t v n (ps.map (fun e => { e with rd := rd, wr := wr, at_ := at_, epoch := e' }))
      if !tableFits t' then tierEnd s c q x d .quota 0
      else if ps.any clears then
        let wait := if ps.any (fun e => e.pin && clears e) then pinUsers s c else []
        beginWithdrawal (addJob s c q x d (.withdraw (n * 4096)) none) c .protect v n t' (some (qKey c q, x.disp)) wait []
      else putTable (tierEnd s c q x d .ok (n * 4096)) c t'

/-- PROTECT (R255). -/
def execProtect (c : Ctx) (q : QNum) (s : State) : Host.Outcome State Fault Refusal :=
  effectOn s (dispatchAs s c.toNat q.val [3] (fun d => dOp d = 0x32) (fun s x d =>
    if coreUp s then doProtect s c.toNat q.val x d else s))

/-- The stream that a RESOLVE or FAIL of a context names: held at the fault's SEQ, the issuer resolves its group, and its own
context is ACTIVE (R255, R278, R279). -/
def heldStream (s : State) (c d : Nat) : Option (Nat × Stream) :=
  let id := field d 256 16
  match streamOf s id with
  | some x =>
    match x.fault with
    | some f =>
      if f.seq = field d 272 32 ∧ odGet s (odKey 0x4100 f.group) = c ∧ ctxActive s x.ctx = true then some (id, x) else none
    | none => none
  | none => none

/-- RESOLVE (R277): the stream translates its faulting chunk again. -/
def execResolve (c : Ctx) (q : QNum) (s : State) : Host.Outcome State Fault Refusal :=
  effectOn s (dispatchAs s c.toNat q.val [3] (fun d => dOp d = 0x33) (fun s x d =>
    if coreUp s then
      (match heldStream s c.toNat d with
       | some (id, _) => issueChunk (clearFault (tierEnd s c.toNat q.val x d .ok 0) id) id none
       | none => tierEnd s c.toNat q.val x d .range 0)
    else s))

/-- FAIL (R255): the stream ends with FAULT_UNRESOLVED. -/
def execFail (c : Ctx) (q : QNum) (s : State) : Host.Outcome State Fault Refusal :=
  effectOn s (dispatchAs s c.toNat q.val [3] (fun d => dOp d = 0x34) (fun s x d =>
    if coreUp s then
      (match heldStream s c.toNat d with
       | some (id, y) => endStream (clearFault (tierEnd s c.toNat q.val x d .ok 0) id) id (standsAt y) .faultUnresolved
       | none => tierEnd s c.toNat q.val x d .range 0)
    else s))

/-- ADVANCE (R255, R276): the consumed index becomes HEAD, which lies within the posted records, and parked faults are posted. -/
def execAdvance (c : Ctx) (q : QNum) (s : State) : Host.Outcome State Fault Refusal :=
  effectOn s (dispatchAs s c.toNat q.val [3] (fun d => dOp d = 0x35) (fun s x d =>
    if coreUp s then
      let g := field d 256 6
      let h := field d 272 32
      let gr := groupOf s g
      if odGet s (odKey 0x4100 g) = c.toNat ∧ (h + 2 ^ 32 - gr.consumed) % 2 ^ 32 ≤ (gr.posted + 2 ^ 32 - gr.consumed) % 2 ^ 32 then
        drainParked (setGroup (tierEnd s c.toNat q.val x d .ok 0) g { gr with consumed := h }) g
      else tierEnd s c.toNat q.val x d .range 0
    else s))

/-! ## Withdrawals as they drain -/

/-- XLAT_INV_ACK (R475). -/
def ackXlat (s : State) (port c : Nat) : State :=
  match tblFind s.xlat.withdrawals c with
  | some w => { s with xlat.withdrawals := tblSet s.xlat.withdrawals c { w with xlatInv := w.xlatInv.filter (· != port) } }
  | none => s

/-- XLAT_INV_ACK (R475). -/
def execXlatInvAck (port : Fin 8) (c : Ctx) (s : State) : Host.Outcome State Fault Refusal := effectOn s (ackXlat s port.val c.toNat)

/-- An aborted transfer of a withdrawal (R281): counted, and named in an event. -/
def abortEvent (s : State) (c id : Nat) : State := logEv (odBump s (odKey 0x4001 5) 1) "WITHDRAW_ABORT" [c, id]

/-- A page range of a chunk's end overlaps a withdrawn range. -/
def chunkOverlaps (x : Stream) (k : Chunk) (v n : Nat) : Bool :=
  let hit (a : Nat) : Bool := decide (a + k.offset < (v + n) * 4096) && decide (v * 4096 < a + k.offset + k.len)
  hit x.dst || (!x.fillPat.isSome && hit x.src)

/-- One remaining transfer of the old epoch at the deadline (R281). -/
def deadlineChunk (s : State) (c : Nat) (w : Withdrawal) (id off : Nat) : State :=
  match streamOf s id with
  | none => s
  | some x =>
    match x.chunks.find? (fun k => decide (k.offset = off) && decide (k.epoch = w.oldEpoch)) with
    | none => s
    | some k =>
      let moving := match x.owner with | .move _ _ => true | _ => false
      if moving || decide (w.kind = .window) || !chunkOverlaps x k w.vpn w.pages then setChunk s id { k with epoch := (w.oldEpoch + 1) % 2 ^ 32 }
      else if w.kind = .move then reissueChunk (abortEvent s c id) id off
      else endStream (abortEvent s c id) id off .withdrawn

/-- The chunks of a context in flight at a withdrawal's deadline, of each stream the highest first, so that every one that is aborted is
counted and named (R281). -/
def deadlineChunks (s : State) (c : Nat) (w : Withdrawal) : State :=
  let ks := (s.feed.streams.filter (fun e => decide (e.2.ctx = c))).map (fun e => e.2.chunks.reverse.map (fun k => (e.1, k.offset)))
  ks.flatten.foldl (fun s p => deadlineChunk s c w p.1 p.2) s

/-- A request through an import window that was reduced or cleared is still outstanding at the deadline (R441): it is answered with
RANGE; a stream that waits for it ends WITHDRAWN, as at any withdrawal (R281). -/
def endImport (s : State) (tag : Nat) (r : PeerReq) : State :=
  let s := sendHeld { dropWaiting s [tag] with fab.peers := tblErase s.fab.peers tag }
  match r.asker with
  | .home => s
  | .chunk id off _ => endStream (abortEvent s r.ctx id) id off .withdrawn
  | .job k i =>
    match jobFind s (k / 16) (k % 16) i with
    | some j => jobEnd s (k / 16) (k % 16) i (recFabric .range j.op j.tag 0)
    | none => s
  | .commit k i => commitAnswer s k i tag .withdrawn
  | .ckpt c set => ckAnswer s c set tag .withdrawn

/-- The deadline of the import windows of a context (R441). -/
def importDeadline (s : State) (c : Nat) : State :=
  (s.fab.peers.filter (fun e => decide (e.2.ctx = c) && s.fab.changes.any (fun w => decide (w.wid = e.2.win)))).foldl
    (fun s e => endImport s e.1 e.2) s

/-- The status with which the descriptor of a withdrawal completes, and its bytes (R207, R255). -/
def withdrawRecord (j : Job) : Nat :=
  match j.body with
  | .withdraw b => recBytes .ok j.op j.tag b
  | .place _ n => recBytes .ok j.op j.tag (n * 4096)
  | _ => recHead .ok j.op j.tag

/-- Step 5 of R280: old frames return to their pools, forwarding ends, and the descriptor's work has ended. -/
def finishWithdrawal (s : State) (c : Nat) (w : Withdrawal) : State :=
  let s := { s with xlat.withdrawals := tblErase s.xlat.withdrawals c }
  let s := backAll s c w.frames
  let freed (page : Nat) : Bool := w.frames.any (fun f => decide (f.1 ≠ 3) && decide (f.2.1 ≤ page) && decide (page < f.2.1 + f.2.2))
  let s := { s with mem.forward := s.mem.forward.filter (fun e => !freed e.1), mem.away := s.mem.away.filter (fun e => !freed e.1) }
  let s := odBump s (odKey 0x4001 4) 1
  let s :=
    match w.job with
    | some (k, i) =>
      match jobFind s (k / 16) (k % 16) i with
      | some j => jobEnd s (k / 16) (k % 16) i (withdrawRecord j)
      | none => s
    | none => if w.kind = .move then odBump s (odKey 0x3005 3) (w.pages * 4096) else s
  let s := [1, 2, 3].foldl (fun s t => notePool s t false) s
  nextOwed (settleQuota s c) c

/-- MGT_ACK (R457): the packet type acknowledged, its status and its TAG. -/
def mgtAck (s : State) (port node tag ptype : Nat) (st : Status) : State :=
  sendFab s port (fabHdr 0x4F 0 1 node (nodeNo s) 0 tag 0 0 0 0 0 0 0 0 0) (natLe 1 ptype ++ natLe 1 (statusCode st) ++ natLe 2 tag)

/-- A request through an export window is still at its home. -/
def exportBusy (s : State) (wid : Nat) : Bool :=
  let names (r : Reply) : Bool := match r with | .fabric _ h => decide (field h 80 12 = wid) | _ => false
  s.coh.busy.any (fun e => names e.2.reply && !e.2.ended) ||
    s.coh.tickets.any (fun k => match k.waiting with | some t => names t.reply | none => false)

/-- The window changes whose old epoch has drained are acknowledged to the fabric manager (R441). -/
def ackWindows (s : State) : State :=
  let ready := s.fab.changes.filter (fun w => !s.fab.peers.any (fun p => decide (p.2.win = w.wid)) && !exportBusy s w.wid)
  let s := { s with fab.changes := s.fab.changes.filter (fun w => !ready.contains w) }
  ready.foldl (fun s w => mgtAck s w.port w.snode w.tag w.ptype .ok) s

end Sys2Proof.Machine
end

