-- ==== Sys2Proof/Machine/Coherence.lean ====
section
/-! DEFINITION. Coherence (R284-R313): what a home does with a request (R296, R297), tickets (R300-R302), what a cache does with
each message (R294, R295), atomics (R307, R308), hot lines (R310, R311) and caches that fail (R312). -/

namespace Sys2Proof.Machine

/-- Code of a granted state in DATA (R470). -/
def grantCode : CState → Nat
  | .e => 1
  | .m => 2
  | _ => 0

/-! ## Answers of a home -/

/-- DATA with a granted state to a requester: of the home, or of an owner, by its ID and one more. -/
def sendData (s : State) (owner : Nat) (t : Txn) (line : Nat) (g : CState) (data : Bytes) (poison : Bool) : State :=
  match t.reply with
  | .urzen p tag _ =>
    sendUrzen s p 0x20 (if poison then statusCode .poison else 0) t.ctx tag (line * 128) 0 (grantCode g) 0 data
  | _ => netSend s { plainMsg .data t.agent line with grant := g, data := some data, poison := poison, ctx := t.ctx, peer := owner }

/-- GRANT to a requester. -/
def sendGrant (s : State) (t : Txn) (line : Nat) : State :=
  match t.reply with
  | .urzen p tag _ => sendUrzen s p 0x21 0 t.ctx tag (line * 128) 0 0 0 []
  | _ => netSend s (plainMsg .grant t.agent line)

/-- The answer of a peer request: PRD_DATA, PWR_DONE or PATOM_DONE echoes the header's TAG to its source (R442, R443). -/
def answerPeer (s : State) (port hdr : Nat) (st : Status) (data : Bytes) : State :=
  let ptype := field hdr 0 8
  sendFab s port (fabHdr (ptype + 0x10) (statusCode st) (slotsOf data) (field hdr 36 12) (nodeNo s) 0 (field hdr 64 16) 0 0 0
    0 (field hdr 180 12) 0 0 0 0) data

/-- NC_DONE: the completion of RD_NC, WR_NC or ATOM, with the data or the old value (R297). -/
def sendDone (s : State) (t : Txn) (line : Nat) (st : Status) (data : Bytes) : State :=
  match t.reply with
  | .urzen p tag _ => sendUrzen s p 0x26 (statusCode st) t.ctx tag (line * 128) (t.len - 1) 0 0 data
  | .fabric p hdr => answerPeer s p hdr st data
  | .agent =>
    if firmwareAgent ≤ t.agent then s
    else netSend s { plainMsg .ncDone t.agent line with data := some data, poison := decide (st = .poison), ctx := t.ctx, ticket := some (statusCode st) }

/-- RETRY with a ticket (R300): the refused request's next attempt has a reserved place. -/
def sendRetry (s : State) (t : Txn) (line : Nat) : State :=
  let n := s.coh.nextTick
  let s := odBump s (odKey 0x5001 1) 1
  let s := { s with coh.nextTick := (n + 1) % 65536, coh.tickets := s.coh.tickets ++ [⟨n, t.agent, line, s.now, none⟩] }
  match t.reply with
  | .urzen p tag addr => hostRenamed (sendUrzen s p 0x28 0 t.ctx tag addr 0 0 n []) p t.ctx tag (65536 + n)
  | _ => netSend s { plainMsg .retry t.agent line with ticket := some n }

/-- A snoop from a home to a holder (R291). -/
def sendSnoop (s : State) (k : NetKind) (agent line requester : Nat) (ctx : Nat) : State :=
  let s := odBump s (odKey 0x5001 5) 1
  if isAdapter agent then
    let u := match k with | .fwdS => 0x10 | .fwdM => 0x11 | .fwdNc => 0x12 | .inv => 0x13 | _ => 0x14
    let (n, s) := draw s
    { sendUrzen s (agent - 336) u 0 ctx (n % 65536) (line * 128) 0 0 0 [] with
      fab.snoops := addOnce s.fab.snoops (agent - 336, line) }
  else netSend s { plainMsg k agent line with peer := requester, ctx := ctx }

/-! ## Atomics (R307, R308) -/

/-- Width of an atomic in bytes. -/
def txnWidth (t : Txn) : Nat := if t.kind = .roll then 16 else if t.wide then 8 else 4

/-- A line enters the atomic line buffer of its home, or stays in it; the place of the oldest line of a full buffer is needed
(R308). -/
def touchAtomBuf (s : State) (line : Nat) : State :=
  let rest := s.coh.atomBuf.filter (fun e => e.1 != line)
  let mine := rest.filter (fun e => decide (homeOf s e.1 = homeOf s line))
  let rest := if 64 ≤ mine.length then
      (match mine with | e :: _ => rest.erase e | [] => rest)
    else rest
  { s with coh.atomBuf := rest ++ [(line, s.now)] }

/-- Execute an atomic at its home, every cached copy being gone: the old value, or POISON and no change (R312). -/
def doAtomic (s : State) (line : Nat) (t : Txn) : Status × Bytes × State :=
  if poisoned s line then (.poison, [], s)
  else
    let w := txnWidth t
    let off := t.sa % 128
    let old := leAt (memLine s line) off w
    let new := if t.kind = .roll then rollNew old else atomicNew t.aop w old t.op1 t.op2
    let combined := odGet s (odKey 0x5000 4) = 1 ∧ combinable t.aop = true ∧ s.coh.atomBuf.any (fun e => decide (e.1 = line)) = true
    let s := odBump s (odKey 0x5001 6) 1
    let s := if combined then
        (let (n, s) := draw s
         if n % 2 = 0 then odBump s (odKey 0x5001 7) 1 else s)
      else s
    let s := if t.kind = .roll then odBump s (odKey 0x2101 9) 1 else s
    let s := touchAtomBuf s line
    let s := memTake s line ((2 ^ w - 1) * 2 ^ off) (List.replicate off 0#8 ++ natLe w new)
    (.ok, if t.fetch then padTo 8 (natLe (min w 8) old) else [], s)

/-- Apply a WR_NC or an atomic whose line no cache holds, and answer it. -/
def applyTxn (s : State) (line : Nat) (t : Txn) : State :=
  match t.kind with
  | .wrNc => sendDone (memTake s line t.mask t.data) t line .ok []
  | .atom =>
    let (st, d, s) := doAtomic s line t
    sendDone s t line st d
  | .roll =>
    let (st, d, s) := doAtomic s line t
    sendDone s t line st d
  | _ => s

/-- The bytes of a RD_NC from a line. -/
def ncBytes (t : Txn) (data : Bytes) : Bytes := (data.drop (t.sa % 128)).take t.len

/-! ## Transactions at the home -/

/-- Keep a line busy with a transaction (R297). -/
def setBusy (s : State) (line : Nat) (t : Txn) : State := { s with coh.busy := tblSet s.coh.busy line t }

/-- A line is no longer busy. -/
def clearBusy (s : State) (line : Nat) : State := { s with coh.busy := tblErase s.coh.busy line }

/-- Memory's copy of a line to a requester, with the state granted. -/
def grantFromMemory (s : State) (line : Nat) (t : Txn) (g : CState) : State :=
  let s := if inT2 (line * 128) 128 then cacheFill s line else s
  sendData s 0 t line g (memLine s line) (poisoned s line)

/-- The holders of a line other than an agent. -/
def othersOf (e : ShadowEnt) (agent : Nat) : List Nat := (e.sharers ++ e.owner.toList).filter (· != agent)

/-- What a home does once every reply that a transaction waits for has arrived: the state changes and the answer of R296, and
the close of R297. -/
def settleAnswer (s : State) (line : Nat) (t : Txn) : State × Txn :=
  let e := (shadowOf s line).getD ⟨.i, none, [], 0⟩
  let holds := e.sharers.contains t.agent || decide (e.owner = some t.agent)
  match t.kind with
  | .rdS =>
    if othersOf e t.agent = [] then
      (setShadow (grantFromMemory s line t .e) line .x (some t.agent) [], { t with supplied := true })
    else (setShadow (grantFromMemory s line t .s) line .s none (addOnce e.sharers t.agent), { t with supplied := true })
  | .rdM => (setShadow (grantFromMemory s line t .m) line .x (some t.agent) [], { t with supplied := true })
  | .upg =>
    if holds then (setShadow (sendGrant s t line) line .x (some t.agent) [], { t with supplied := true })
    else (setShadow (grantFromMemory s line t .m) line .x (some t.agent) [], { t with supplied := true })
  | .rdNc =>
    let s := if inT2 (line * 128) 128 then cacheFill s line else s
    let bad := poisoned s line
    (sendDone s t line (if bad then .poison else .ok) (if bad then [] else ncBytes t (memLine s line)),
      { t with supplied := true, ended := true })
  | .recall => ({ s with coh.shadow := tblErase s.coh.shadow line }, { t with supplied := true, ended := true })
  | _ => (applyTxn { s with coh.shadow := tblErase s.coh.shadow line } line t, { t with supplied := true, ended := true })

/-- The host write that a transaction was has been ordered, or refused (R482). -/
def hostDone (s : State) (t : Txn) : State :=
  match t.reply with
  | .urzen p tag _ => hostOrdered s p t.ctx tag
  | _ => s

/-- A transaction waits for replies, or is answered, or closes (R296, R297). -/
def settleWith (close : State → Nat → State) (s : State) (line : Nat) (t : Txn) : State :=
  if t.waitFor ≠ [] ∨ t.owner.isSome then setBusy s line t
  else
    let (s, t) := if t.supplied then (s, t) else settleAnswer s line t
    if t.ended then hostDone (close (clearBusy s line) line) t else setBusy s line t

/-- Snoops and the replies to wait for, when a transaction opens on a line (R296). -/
def openLine (close : State → Nat → State) (s : State) (line : Nat) (t : Txn) : State :=
  let e := (shadowOf s line).getD ⟨.i, none, [], 0⟩
  let others := othersOf e t.agent
  let holds := e.sharers.contains t.agent || decide (e.owner = some t.agent)
  let invs (s : State) (l : List Nat) : State := l.foldl (fun s a => sendSnoop s .inv a line t.agent t.ctx) s
  let owner := e.owner.filter (· != t.agent)
  match t.kind with
  | .rdS =>
    (match owner with
     | some o => settleWith close (sendSnoop s .fwdS o line t.agent t.ctx) line { t with owner := some o }
     | none => settleWith close s line t)
  | .rdNc =>
    (match e.owner with
     | some o => settleWith close (sendSnoop s .fwdNc o line t.agent t.ctx) line { t with owner := some o }
     | none => settleWith close s line t)
  | .upg =>
    if holds then settleWith close (invs s others) line { t with waitFor := others }
    else
      (match owner with
       | some o => settleWith close (invs (sendSnoop s .fwdM o line t.agent t.ctx) e.sharers) line
           { t with kind := .rdM, waitFor := e.sharers, owner := some o }
       | none => settleWith close (invs s others) line { t with kind := .rdM, waitFor := others })
  | .rdM =>
    let sh := e.sharers.filter (· != t.agent)
    (match owner with
     | some o => settleWith close (invs (sendSnoop s .fwdM o line t.agent t.ctx) sh) line { t with waitFor := sh, owner := some o }
     | none => settleWith close (invs s sh) line { t with waitFor := sh })
  | _ =>
    let s := invs s e.sharers
    let s := match e.owner with
      | some o => sendSnoop s .recall o line t.agent t.ctx
      | none => s
    settleWith close s line { t with waitFor := e.sharers ++ e.owner.toList }

/-- The home begins to take an entry out of a full shadow set: RECALL to its owner, INV to its sharers (R290). -/
def backInvalidate (close : State → Nat → State) (s : State) (line : Nat) (t : Txn) : State :=
  match shadowVictim s line with
  | some v =>
    openLine close (odBump s (odKey 0x5001 4) 1) v
      { t with kind := .recall, agent := firmwareAgent, reply := .agent, sa := v * 128, waitFor := [], epoch := none }
  | none => s

/-- A request that a bank has accepted opens its transaction (R297); a line that must enter a full shadow set waits for its place
(R289, R290). -/
def openWith (close : State → Nat → State) (s : State) (line : Nat) (t : Txn) : State :=
  let s := homeAccepts s line
  if takesState t.kind && !setHasRoom s line then backInvalidate close (setBusy s line { t with waitFor := [roomAgent] }) line t
  else openLine close s line t

/-- The device has asked adapters for a line on its own account and has not heard them all: the line is busy with that. -/
def askedBack (s : State) (line : Nat) : Bool := (tblFind s.coh.busy line).isNone && s.fab.snoops.any (fun e => decide (e.2 = line))

/-- A ticket is used: the longest wait of one is OD 0x5001.0B. -/
def ticketUsed (s : State) (k : Ticket) : State :=
  odSet { s with coh.tickets := s.coh.tickets.erase k } (odKey 0x5001 0x0B)
    (max (odGet s (odKey 0x5001 0x0B)) (min (s.now - k.since) (2 ^ 32 - 1)))

/-- The ticketed request that a free line serves next, in the order of tickets (R302), and the ticket used. -/
def nextTicket (s : State) (line : Nat) : Option (Txn × State) :=
  if (tblFind s.coh.busy line).isSome || askedBack s line || writesHeld s (line * 128) then none
  else
    match s.coh.tickets.find? (fun k => decide (k.line = line) && k.waiting.isSome) with
    | some k => k.waiting.map (fun t => (t, ticketUsed s k))
    | none => none

/-- A transaction that waits for a place in the shadow set of a line. -/
def nextBlocked (s : State) (line : Nat) : Option (Nat × Txn) :=
  s.coh.busy.find? (fun e => blocked e.2 && decide (shadowSetOf s e.1 = shadowSetOf s line))

/-- A recall of the home is under way in the shadow set of a line. -/
def recalling (s : State) (line : Nat) : Bool :=
  s.coh.busy.any (fun e => decide (e.2.kind = .recall) && decide (shadowSetOf s e.1 = shadowSetOf s line))

/-- A line is no longer busy: a request that waits for a place in its set takes it, or another entry of the set is taken out for it;
then the line serves its ticketed requests, until one of them keeps it busy. -/
def serveTickets : (fuel : Nat) → State → Nat → State
  | 0, s, _ => s
  | fuel + 1, s, line =>
    match nextBlocked s line with
    | some (l, t) =>
      if setHasRoom s l then serveTickets fuel (openLine (serveTickets fuel) s l { t with waitFor := [] }) line
      else serveNext fuel (if recalling s l then s else backInvalidate (serveTickets fuel) s l t) line
    | none => serveNext fuel s line
where
  /-- The next ticketed request of a line. -/
  serveNext (fuel : Nat) (s : State) (line : Nat) : State :=
    match nextTicket s line with
    | some (t, s) => openWith (serveTickets fuel) s (fwdLine s line) t
    | none => s

/-- Requests that wait, which bound how many are served in a row. -/
def serveLine (s : State) (line : Nat) : State := serveTickets (s.coh.tickets.length + s.coh.busy.length) s line

/-- Open a transaction on a free line. -/
def openTxn (s : State) (line : Nat) (t : Txn) : State := openWith serveLine s line t

/-- A transaction has heard a reply. -/
def settleTxn (s : State) (line : Nat) (t : Txn) : State := settleWith serveLine s line t

/-- The owner has supplied the line to the requester (R296): DIRTY keeps it as owner in O, CLEAN as a sharer. An owner whose
writeback came first is a holder no more. A requester that has failed meanwhile holds nothing, and a line handed to it with ownership is
lost (R312). -/
def ownerReplied (s : State) (line : Nat) (t : Txn) (o : Nat) (dirty : Bool) (data : Bytes) (poison : Bool) : State :=
  let t := { t with owner := none, supplied := true }
  let e := (shadowOf s line).getD ⟨.i, none, [], 0⟩
  let still := decide (e.owner = some o)
  let gone := s.coh.failed.contains t.agent
  match t.kind with
  | .rdS =>
    let sh := if gone then e.sharers else addOnce e.sharers t.agent
    let s :=
      if still && dirty then setShadow s line .o (some o) sh
      else if still then setShadow s line .s none (addOnce sh o)
      else setShadow s line .s none sh
    settleTxn s line t
  | .rdNc =>
    settleTxn (sendDone s t line (if poison then .poison else .ok) (if poison then [] else ncBytes t data)) line { t with ended := true }
  | _ =>
    let sh := e.sharers.filter (fun a => t.waitFor.contains a)
    settleTxn (if gone then poisonEvent (setShadow s line .s none sh) line else setShadow s line .x (some t.agent) sh) line t

/-! ## Requests at a home -/

/-- Requests that a page under move refuses (R305). -/
def takesWrite : ReqKind → Bool
  | .rdM => true
  | .upg => true
  | .wrNc => true
  | .atom => true
  | .roll => true
  | _ => false

/-- The request buffer of a line's bank is full (R300); its size is not stated (log entry 35). -/
def bankFull (s : State) (line : Nat) : Bool :=
  decide (Config.bankRoom + 1 ≤ (s.coh.busy.filter (fun e => decide (homeOf s e.1 = homeOf s line) && decide (bankOf s e.1 = bankOf s line))).length)

/-- A request that is not served: a host and a peer are told (R471, R444), an agent of the package too. -/
def refuse (s : State) (t : Txn) (st : Status) : State :=
  match t.reply with
  | .urzen p tag addr =>
    let s := if st = .range then odBump s (odKey 0x7110 2) 1 else s
    hostOrdered (sendUrzen s p 0x26 (statusCode st) t.ctx tag addr 0 0 0 []) p t.ctx tag
  | _ => sendDone s t (t.sa / 128) st []

/-- A request arrives at its bank: it is accepted, waits with its ticket, or is refused with a new one (R297, R300-R302). After the cut of
a flush it completes with THROTTLED (R229). -/
def arrive (s : State) (line : Nat) (t : Txn) (ticket : Option Nat) : State :=
  if cutOver s then (if takesState t.kind && decide (t.reply = .agent) then s else refuse s t .throttled)
  else
  let s := countReq s line t.ctx t.agent
  let busy := (tblFind s.coh.busy line).isSome || askedBack s line || (takesWrite t.kind && writesHeld s (line * 128))
  match ticket with
  | some n =>
    (match s.coh.tickets.find? (fun k => decide (k.n = n) && decide (k.agent = t.agent) && decide (k.line = line) && k.waiting.isNone) with
     | some k =>
       if busy then { s with coh.tickets := mapWhere (fun x => decide (x = k)) (fun x => { x with waiting := some t }) s.coh.tickets }
       else openTxn (ticketUsed s k) line t
     | none => s)
  | none => if busy || bankFull s line then sendRetry s t line else openTxn s line t

/-- The right that a host request needs (R474). -/
def needOf : ReqKind → Right
  | .rdS => .read
  | .rdNc => .read
  | .rdM => .write
  | .wrNc => .write
  | .upg => .write
  | _ => .atomic

/-- The host window that covers an address of a port (R473). -/
def winAt (s : State) (port addr : Nat) : Option HostWin :=
  (hostWins s).find? (fun w => decide (w.port = port) && decide (w.hbase ≤ addr) && decide (addr < w.hbase + w.pages * 4096))

/-- What the optical die makes of a host request before it translates it (R474): the CVA that the window gives, or the status that
refuses it, the first in the order of R20. A FAILED device answers reads with POISON (R47). -/
def admitHost (s : State) (port c addr len : Nat) (kind : ReqKind) : Nat ⊕ Status :=
  if ctxState s c = 2 then .inr .torn
  else if devState s = 3 ∧ needOf kind = .read then .inr .poison
  else if addr % 128 + len > 128 then .inr .range
  else if !(ctxMask s c).testBit port then .inr .range
  else
    match winAt s port addr with
    | none => .inr .range
    | some w =>
      let ok := match needOf kind with | .read => w.rd | .write => w.wr | .atomic => w.at_
      if w.ctx ≠ c ∨ ok = false ∨ (takesState kind = true ∧ w.cached = false) then .inr .range else .inl (w.cva + (addr - w.hbase))

/-- The store address behind a CVA of a context for a host request, none where the entry is no DEVICE entry or lacks the right. -/
def hostSa (s : State) (c cva : Nat) (kind : ReqKind) : Option Nat :=
  match entryAt (rangeTable s c) (cva / 4096) with
  | none => none
  | some e => if e.ty = .device ∧ hasRight e (needOf kind) = true then some ((e.base + (cva / 4096 - e.vpn)) * 4096 + cva % 4096) else none

/-- An atomic is aligned to its width (R307). -/
def atomAligned (t : Txn) : Bool := !(decide (t.kind = .atom) || decide (t.kind = .roll)) || decide (t.sa % txnWidth t = 0)

/-- Send on a request whose store address is known (R195, R307, R471): one outside the ranges of the store is refused. -/
def admitted (s : State) (t : Txn) (ticket : Option Nat) : State :=
  let line := fwdLine s (t.sa / 128)
  if !inStore s t.sa t.len then refuse s t .range
  else if !atomAligned t || decide (128 < t.sa % 128 + t.len) then hostDone (sendDone s t line .range []) t
  else arrive s line t ticket

/-- An earlier request of a host to the same line waits for a walk: a later one of its context does not pass it (R482). -/
def sameHostLine (who : WalkFor) (t : Txn) : Bool :=
  match who with
  | .request u _ =>
    (match u.reply, t.reply with
     | .urzen p _ a, .urzen q _ b => decide (p = q) && decide (u.ctx = t.ctx) && decide (a / 128 = b / 128)
     | _, _ => false)
  | .stream _ => false

/-- A host request at its optical die (R474, R476): it is refused, waits for a range walk (R247-R249), or goes to its home, tagged with
the context's range epoch (R245). Its data and its address are still the host's; `walked` is the page whose walk has just ended. -/
def hostRequest (s : State) (t : Txn) (ticket walked : Option Nat) : State :=
  match t.reply with
  | .urzen p _ addr =>
    (match admitHost s p t.ctx addr t.len t.kind with
     | .inr st => refuse s t st
     | .inl cva =>
       let vpn := cva / 4096
       let before := walked.isNone && s.xlat.walks.any (fun w => w.die = urzenDie p && sameHostLine w.waiter t)
       if before || !(rangeHit s (urzenDie p) t.ctx vpn || decide (walked = some vpn)) then rangeMiss s (urzenDie p) t.ctx vpn (.request t ticket)
       else
         match hostSa s t.ctx cva t.kind with
         | none => refuse s t .range
         | some sa =>
           if !admitting s then refuse s t .throttled
           else
             admitted (touchCva s t.ctx cva)
               { t with sa := sa, mask := if t.kind = .wrNc then (2 ^ t.len - 1) * 2 ^ (sa % 128) else t.mask,
                        data := if t.kind = .wrNc then List.replicate (sa % 128) 0#8 ++ t.data else t.data,
                        epoch := some (epochOf s t.ctx) } ticket)
  | _ => s

/-- A host write arrives, or comes again with its ticket: context-window writes of its function that follow wait for it (R482). -/
def hostAsks (s : State) (p c tag : Nat) (ticket : Option Nat) : State :=
  match ticket with
  | none => { s with fab.hostWrites := s.fab.hostWrites ++ [(p, c, tag)] }
  | some n => hostRenamed s p c (65536 + n) tag

/-- A request of R291 arrives at its home, or at the optical die that admits it. Cluster caches ask through the network; agents without
a cache take no state (R288); ROLL is the device's own (R127). An SA has no bit above 51 (R15). -/
def request (s : State) (r : Req) (kind : ReqKind) (len : Nat) (data : Bytes) (mask aop : Nat) (wide fetch : Bool) (op1 op2 : Nat) : State :=
  let agent := r.agent.val
  let c := r.ctx.toNat
  let t : Txn := ⟨kind, agent, c, genNow s, 0, len, data, mask, aop, wide, fetch, op1, op2, [], none, false, false, .agent, none⟩
  if s.coh.failed.contains agent || !s.power.on then s
  else
    match r.place with
    | .sa a =>
      if isAdapter agent then
        (if decide (kind = .upg) && decide (urzenState s (agent - 336) = 2) then
          admitted s { t with sa := a.toNat, reply := .urzen (agent - 336) r.tag.toNat a.toNat } r.ticket
        else s)
      else if takesState kind = true then s
      else admitted s { t with sa := a.toNat } r.ticket
    | .host p _ addr =>
      if urzenState s p.val ≠ 2 ∨ agent < 336 ∨ kind = .upg ∨ (takesState kind = true ∧ isAdapter agent = false) then s
      else
        let t := { t with reply := .urzen p.val r.tag.toNat addr.toNat }
        let s := if kind = .wrNc ∨ kind = .atom then hostAsks s p.val c r.tag.toNat r.ticket else s
        if kind = .roll then refuse s t .range else hostRequest s t r.ticket none

/-- A request that a cluster cache has put on the network arrives at its home. -/
def fromNet (s : State) (k : NetKind) (kind : ReqKind) (agent line : Nat) : State :=
  match netFind s k agent line with
  | some m =>
    arrive (netDrop s m) (fwdLine s line)
      ⟨kind, agent, m.ctx, genNow s, line * 128, 128, [], 0, 0, false, false, 0, 0, [], none, false, false, .agent, none⟩ m.ticket
  | none => s

/-- A cached request: of a cluster cache from the network, of an adapter cache from its link. -/
def cachedReq (s : State) (r : Req) (k : NetKind) (kind : ReqKind) : State :=
  match r.place with
  | .sa a => if r.agent.val < 336 then fromNet s k kind r.agent.val (a.toNat / 128) else request s r kind 128 [] 0 0 false false 0 0
  | .host _ _ addr =>
    -- the whole line is asked for
    request s { r with place := match r.place with
      | .host p m _ => .host p m (BitVec.ofNat 64 (addr.toNat / 128 * 128))
      | x => x } kind 128 [] 0 0 false false 0 0

/-- RD_S (R291, R296). -/
def execRdS (r : Req) (s : State) : Host.Outcome State Fault Refusal := effectOn s (cachedReq s r .rdS .rdS)

/-- RD_M (R291, R296). -/
def execRdM (r : Req) (s : State) : Host.Outcome State Fault Refusal := effectOn s (cachedReq s r .rdM .rdM)

/-- UPG (R291, R296). -/
def execUpg (r : Req) (s : State) : Host.Outcome State Fault Refusal := effectOn s (cachedReq s r .upg .upg)

/-- RD_NC (R291, R296). -/
def execRdNc (r : Req) (lenm1 : BitVec 7) (s : State) : Host.Outcome State Fault Refusal :=
  effectOn s (request s r .rdNc (lenm1.toNat + 1) [] 0 0 false false 0 0)

/-- WR_NC (R291, R296): over a link the bytes from the address on; on the package a line under its byte mask. -/
def execWrNc (r : Req) (data : Bytes) (mask : BitVec 128) (s : State) : Host.Outcome State Fault Refusal :=
  effectOn s (
    if data = [] ∨ 128 < data.length then s
    else
      match r.place with
      | .sa a => request s { r with place := .sa (BitVec.ofNat 64 (a.toNat / 128 * 128)) } .wrNc 128 (padTo 128 data) mask.toNat 0 false false 0 0
      | .host _ _ _ => request s r .wrNc data.length data 0 0 false false 0 0)

/-- An atomic arrives (R307). -/
def atomReq (s : State) (r : Req) (aop : Nat) (wide fetch : Bool) (op1 op2 : BitVec 64) : State :=
  request s r .atom (if wide then 8 else 4) [] 0 aop wide fetch op1.toNat op2.toNat

/-- ADD (R307). -/
def execAdd (r : Req) (wide fetch : Bool) (op1 op2 : BitVec 64) (s : State) : Host.Outcome State Fault Refusal :=
  effectOn s (atomReq s r 0x01 wide fetch op1 op2)

/-- AND (R307). -/
def execAnd (r : Req) (wide fetch : Bool) (op1 op2 : BitVec 64) (s : State) : Host.Outcome State Fault Refusal :=
  effectOn s (atomReq s r 0x02 wide fetch op1 op2)

/-- OR (R307). -/
def execOr (r : Req) (wide fetch : Bool) (op1 op2 : BitVec 64) (s : State) : Host.Outcome State Fault Refusal :=
  effectOn s (atomReq s r 0x03 wide fetch op1 op2)

/-- XOR (R307). -/
def execXor (r : Req) (wide fetch : Bool) (op1 op2 : BitVec 64) (s : State) : Host.Outcome State Fault Refusal :=
  effectOn s (atomReq s r 0x04 wide fetch op1 op2)

/-- UMAX (R307). -/
def execUmax (r : Req) (wide fetch : Bool) (op1 op2 : BitVec 64) (s : State) : Host.Outcome State Fault Refusal :=
  effectOn s (atomReq s r 0x05 wide fetch op1 op2)

/-- UMIN (R307). -/
def execUmin (r : Req) (wide fetch : Bool) (op1 op2 : BitVec 64) (s : State) : Host.Outcome State Fault Refusal :=
  effectOn s (atomReq s r 0x06 wide fetch op1 op2)

/-- SMAX (R307). -/
def execSmax (r : Req) (wide fetch : Bool) (op1 op2 : BitVec 64) (s : State) : Host.Outcome State Fault Refusal :=
  effectOn s (atomReq s r 0x07 wide fetch op1 op2)

/-- SMIN (R307). -/
def execSmin (r : Req) (wide fetch : Bool) (op1 op2 : BitVec 64) (s : State) : Host.Outcome State Fault Refusal :=
  effectOn s (atomReq s r 0x08 wide fetch op1 op2)

/-- SWAP (R307). -/
def execSwap (r : Req) (wide fetch : Bool) (op1 op2 : BitVec 64) (s : State) : Host.Outcome State Fault Refusal :=
  effectOn s (atomReq s r 0x09 wide fetch op1 op2)

/-- CAS (R307). -/
def execCas (r : Req) (wide fetch : Bool) (op1 op2 : BitVec 64) (s : State) : Host.Outcome State Fault Refusal :=
  effectOn s (atomReq s r 0x0A wide fetch op1 op2)

/-- ROLL of an amax slot (R127, R307). -/
def execRoll (r : Req) (s : State) : Host.Outcome State Fault Refusal :=
  effectOn s (request s r .roll 16 [] 0 0x10 false true 0 0)

/-! ## Writebacks (R296, R298, R299, R306) -/

/-- A forward or a recall to an agent still on its way. -/
def snoopOnWay (s : State) (agent line : Nat) : Option NetMsg :=
  s.coh.net.find? (fun m => decide (m.agent = agent) && decide (m.line = line) &&
    (decide (m.kind = .fwdS) || decide (m.kind = .fwdM) || decide (m.kind = .fwdNc) || decide (m.kind = .recall)))

/-- A transaction whose snoop has not reached an owner that has written the line back: it is served from the writeback buffer
(R298). -/
def serveFromWb (s : State) (agent line : Nat) : State :=
  match tblFind s.coh.busy line, snoopOnWay s agent line with
  | some t, some m =>
    settleTxn (netDrop s m) line { t with owner := t.owner.filter (· != agent), waitFor := t.waitFor.filter (· != agent) }
  | _, _ => s

/-- WB_ACK (R296): CURRENT where the flag is true. -/
def sendWbAck (s : State) (agent line : Nat) (current : Bool) : State :=
  if isAdapter agent then sendUrzen s (agent - 336) 0x27 0 0 0 (line * 128) 0 (if current then 0 else 1) 0 []
  else netSend s { plainMsg .wbAck agent line with flag := current }

/-- A writeback or a notice of a line that is no line of the store is answered with RANGE, and nothing of it is taken (R15, R195). -/
def refuseWb (s : State) (agent line : Nat) : State :=
  if isAdapter agent then sendUrzen s (agent - 336) 0x27 (statusCode .range) 0 0 (line * 128) 0 1 0 [] else s

/-- The owner has already handed the line on: its forward of ownership is done, and only its acknowledgement is on its way. -/
def handedOn (s : State) (agent line : Nat) : Bool :=
  match tblFind s.coh.busy line with
  | some t =>
    decide (agent < 336) && decide (t.owner = some agent) && (decide (t.kind = .rdM) || decide (t.kind = .upg)) &&
      (snoopOnWay s agent line).isNone
  | none => false

/-- A bank takes a WB (R296): bytes of a poisoned line clear its poison only where the agent has written all of them (R312). -/
def takeWb (s : State) (agent line : Nat) (keep : Bool) (data : Bytes) (poison allWritten : Bool) : State :=
  let s := odBump s (odKey 0x5001 2) 1
  match shadowOf s line with
  | some e =>
    if e.owner = some agent ∧ handedOn s agent line = false then
      let bad := (poison || poisoned s line) && !allWritten
      let s := memTake s line fullMask (padTo 128 data)
      let s := if bad then poisonLine s line else s
      let s :=
        if keep then (if e.st = .x then s else setShadow s line .s none (addOnce e.sharers agent))
        else setShadow s line (if e.sharers = [] then .i else .s) none e.sharers
      serveFromWb (sendWbAck s agent line true) agent line
    else sendWbAck (odBump s (odKey 0x5001 3) 1) agent line false
  | none => sendWbAck (odBump s (odKey 0x5001 3) 1) agent line false

/-- A bank takes an EVICT (R296). -/
def takeEvict (s : State) (agent line : Nat) : State :=
  match shadowOf s line with
  | some e =>
    if e.st = .x ∧ e.owner = some agent then serveFromWb (sendWbAck (leaveShadow s line agent) agent line true) agent line
    else if e.sharers.contains agent then sendWbAck (leaveShadow s line agent) agent line true
    else sendWbAck (odBump s (odKey 0x5001 3) 1) agent line false
  | none => sendWbAck (odBump s (odKey 0x5001 3) 1) agent line false

/-- A writeback of a cluster cache arrives at its home. -/
def wbArrives (s : State) (a l : Nat) : State :=
  match netFind s .wb a l with
  | some m => takeWb (netDrop s m) a l m.flag (m.data.getD []) m.poison m.allWritten
  | none => s

/-- An adapter's message reaches the home: its port is AGREED, and it has not failed. -/
def adapterUp (s : State) (a : Nat) : Bool := decide (urzenState s (a - 336) = 2) && !s.coh.failed.contains a

/-- WB (R296, R306). -/
def execWb (agent : Fin 344) (line : Line) (keep : Bool) (data : Bytes) (allWritten : Bool) (s : State) : Host.Outcome State Fault Refusal :=
  effectOn s (
    let a := agent.val
    let l := line.toNat
    if cutOver s then s
    else if !isAdapter a then wbArrives s a l
    else if !adapterUp s a then s
    else if !inStore s (l * 128) 128 then refuseWb s a l
    else takeWb s a l keep data false allWritten)

/-- A notice of a clean eviction of a cluster cache arrives at its home. -/
def evictArrives (s : State) (a l : Nat) : State :=
  match netFind s .evict a l with
  | some m => takeEvict (netDrop s m) a l
  | none => s

/-- EVICT as it arrives at its home (R296). -/
def execEvictNotice (agent : Fin 344) (line : Line) (s : State) : Host.Outcome State Fault Refusal :=
  effectOn s (
    let a := agent.val
    let l := line.toNat
    if !isAdapter a then evictArrives s a l
    else if !adapterUp s a then s
    else if !inStore s (l * 128) 128 then refuseWb s a l
    else takeEvict s a l)

/-- Writebacks of an agent to the home of a line that have not been acknowledged (R299). -/
def wbOut (s : State) (agent line : Nat) : Nat :=
  (s.coh.caches.filter (fun e => decide (e.1 / 2 ^ 45 = agent) && e.2.sent && decide (homeOf s (e.1 % 2 ^ 45) = homeOf s line))).length

/-- A victim sends its WB or EVICT where a credit is free (R299). -/
def sendVictim (s : State) (agent line : Nat) : State :=
  match cacheLine s agent line with
  | some c =>
    if c.sent ∨ 2 ≤ wbOut s agent line then s
    else
      let s := setCacheLine s agent line { c with sent := true }
      if c.st = .mi ∨ c.st = .oi then
        netSend s { plainMsg .wb agent line with ctx := c.ctx, data := some c.data, poison := clinePoison c, allWritten := decide (c.written = fullMask) }
      else netSend s { plainMsg .evict agent line with ctx := c.ctx }
  | none => s

/-- EVICT at a cache (R294). -/
def execEvict (agent : Fin 336) (line : Line) (s : State) : Host.Outcome State Fault Refusal :=
  effectOn s (
    let a := agent.val
    let l := line.toNat
    match cacheLine s a l with
    | some c =>
      (match (match c.st with | .s => some CState.si | .e => some .ei | .o => some .oi | .m => some .mi | _ => none) with
       | some st => sendVictim (setCacheLine s a l { c with st := st, sent := false }) a l
       | none => s)
    | none => s)

/-- WB_ACK at a cache (R295): the line is I, and the credit goes to a victim that waits for it. -/
def hearWbAck (s : State) (a l : Nat) : State :=
  match netFind s .wbAck a l with
  | some m =>
    let s := dropCacheLine (netDrop s m) a l
    (match s.coh.caches.find? (fun e => decide (e.1 / 2 ^ 45 = a) && !e.2.sent && decide (homeOf s (e.1 % 2 ^ 45) = homeOf s l) &&
        (decide (e.2.st = .mi) || decide (e.2.st = .oi) || decide (e.2.st = .ei) || decide (e.2.st = .si))) with
     | some e => sendVictim s a (e.1 % 2 ^ 45)
     | none => s)
  | none => s

/-- WB_ACK (R295). -/
def execWbAck (agent : Fin 336) (line : Line) (s : State) : Host.Outcome State Fault Refusal := effectOn s (hearWbAck s agent.val line.toNat)

/-! ## Snoops at a cache (R294, R295) -/

/-- States in which an owner supplies the line. -/
def supplies : CState → Bool
  | .m => true
  | .o => true
  | .e => true
  | .om => true
  | .mi => true
  | .oi => true
  | .ei => true
  | _ => false

/-- A cache takes a forward: the line to the requester, the acknowledgement to the home. Of FWD_NC an agent of the package takes the
copy from the owner; for a host or a peer the acknowledgement carries it to the completion. -/
def takeForward (s : State) (k : NetKind) (agent line : Nat) : State :=
  match netFind s k agent line, cacheLine s agent line, tblFind s.coh.busy line with
  | some m, some c, some t =>
    if !supplies c.st || !c.hasData then s
    else
      let s := netDrop s m
      let s :=
        match k with
        | .fwdS => setCacheLine (sendData s (agent + 1) t line .s c.data (clinePoison c)) agent line { c with st := afterFwdS c.st }
        | .fwdM =>
          let s := sendData s (agent + 1) t line .m c.data (clinePoison c)
          if c.st = .om then setCacheLine s agent line { c with hasData := false }
          else if c.st = .mi ∨ c.st = .oi ∨ c.st = .ei then s
          else dropCacheLine s agent line
        | _ =>
          if t.reply = .agent then
            netSend s { plainMsg .copy t.agent line with data := some (ncBytes t c.data), poison := clinePoison c, peer := agent + 1 }
          else s
      netSend s { plainMsg .fwdAck agent line with flag := dirtySt c.st, data := some c.data, poison := clinePoison c }
  | _, _, _ => s

/-- FWD_S (R294, R295). -/
def execFwdS (agent : Fin 336) (line : Line) (s : State) : Host.Outcome State Fault Refusal := effectOn s (takeForward s .fwdS agent.val line.toNat)

/-- FWD_M (R294, R295). -/
def execFwdM (agent : Fin 336) (line : Line) (s : State) : Host.Outcome State Fault Refusal := effectOn s (takeForward s .fwdM agent.val line.toNat)

/-- FWD_NC (R294, R295). -/
def execFwdNc (agent : Fin 336) (line : Line) (s : State) : Host.Outcome State Fault Refusal := effectOn s (takeForward s .fwdNc agent.val line.toNat)

/-- A cache takes an INV. -/
def takeInv (s : State) (a l : Nat) : State :=
  match netFind s .inv a l with
  | some m =>
    let s := netSend (netDrop s m) (plainMsg .invAck a l)
    (match cacheLine s a l with
     | some c =>
       (match c.st with
        | .s => dropCacheLine s a l
        | .o => dropCacheLine s a l
        | .sm => setCacheLine s a l { c with hasData := false }
        | .om => setCacheLine s a l { c with hasData := false }
        | _ => s)
     | none => s)
  | none => s

/-- INV (R294, R295). -/
def execInv (agent : Fin 336) (line : Line) (s : State) : Host.Outcome State Fault Refusal := effectOn s (takeInv s agent.val line.toNat)

/-- A cache takes a RECALL: an owner in OM gives its line and waits on without data (log entry 31). -/
def takeRecall (s : State) (a l : Nat) : State :=
  match netFind s .recall a l with
  | some m =>
    let s := netDrop s m
    (match cacheLine s a l with
     | some c =>
       let s := netSend s { plainMsg .recallAck a l with data := if dirtySt c.st && c.hasData then some c.data else none, poison := clinePoison c, allWritten := decide (c.written = fullMask) }
       (match c.st with
        | .s => dropCacheLine s a l
        | .e => dropCacheLine s a l
        | .o => dropCacheLine s a l
        | .m => dropCacheLine s a l
        | .sm => setCacheLine s a l { c with hasData := false }
        | .om => setCacheLine s a l { c with hasData := false }
        | _ => s)
     | none => netSend s (plainMsg .recallAck a l))
  | none => s

/-- RECALL (R294, R295). -/
def execRecall (agent : Fin 336) (line : Line) (s : State) : Host.Outcome State Fault Refusal := effectOn s (takeRecall s agent.val line.toNat)

/-! ## Answers at a cache (R295) -/

/-- Apply a store to a line in M; the bytes that are written since a poisoned line was obtained are marked (R312). -/
def storeInto (c : CLine) (off : Nat) (data : Bytes) : CLine :=
  { c with data := spliceBytes c.data off data, written := c.written ||| ((2 ^ data.length - 1) * 2 ^ off) }

/-- A line is in M, and the store that asked for it is applied. -/
def installM (c : CLine) : CLine :=
  let c := { c with st := .m, hasData := true }
  match c.pend with
  | some (off, d, _) => storeInto { c with pend := none } off d
  | none => c

/-- A cache takes DATA. -/
def hearData (s : State) (a l : Nat) : State :=
  match netFind s .data a l, cacheLine s a l with
  | some m, some c =>
    let c' := { c with hasData := true, data := m.data.getD [], poison := m.poison, written := 0 }
    let done (x : CLine) : State := netSend (setCacheLine (netDrop s m) a l x) (plainMsg .compack a l)
    (match c.st with
     | .is => if m.grant = .m then s else done { c' with st := m.grant }
     | .im => if m.grant = .m then done (installM c') else s
     | .sm => if m.grant = .m then done (installM c') else s
     | .om => if m.grant = .m then done (installM c') else s
     | _ => s)
  | _, _ => s

/-- DATA (R295). -/
def execData (agent : Fin 336) (line : Line) (s : State) : Host.Outcome State Fault Refusal := effectOn s (hearData s agent.val line.toNat)

/-- A cache takes a GRANT. -/
def hearGrant (s : State) (a l : Nat) : State :=
  match netFind s .grant a l, cacheLine s a l with
  | some m, some c =>
    if (c.st = .sm ∨ c.st = .om) ∧ c.hasData = true then
      netSend (setCacheLine (netDrop s m) a l (installM c)) (plainMsg .compack a l)
    else s
  | _, _ => s

/-- GRANT (R295). -/
def execGrant (agent : Fin 336) (line : Line) (s : State) : Host.Outcome State Fault Refusal := effectOn s (hearGrant s agent.val line.toNat)

/-- An agent takes a RETRY: a cache sends its request again with the ticket, any other agent holds the ticket for the command that sends
its request again. -/
def hearRetry (s : State) (a l : Nat) : State :=
  match netFind s .retry a l, cacheLine s a l with
  | some m, some c =>
    (match (match c.st with | .is => some NetKind.rdS | .im => some .rdM | .sm => some .upg | .om => some .upg | _ => none) with
     | some k => netSend (netDrop s m) { plainMsg k a l with ctx := c.ctx, ticket := m.ticket }
     | none => netDrop s m)
  | some m, none => netDrop s m
  | none, _ => s

/-- RETRY (R295, R302). -/
def execRetry (agent : Fin 374) (line : Line) (s : State) : Host.Outcome State Fault Refusal := effectOn s (hearRetry s agent.val line.toNat)

/-! ## Replies at the home -/

/-- An adapter's reply uses up the snoop. -/
def snoopDone (s : State) (agent line : Nat) : State :=
  { s with fab.snoops := s.fab.snoops.filter (· != (agent - 336, line)) }

/-- An owner of the package has supplied a line. -/
def hearFwdAck (s : State) (a l : Nat) : State :=
  match tblFind s.coh.busy l, netFind s .fwdAck a l with
  | some t, some m => if t.owner = some a then ownerReplied (netDrop s m) l t a m.flag (m.data.getD []) m.poison else s
  | _, _ => s

/-- An adapter has supplied a line, with the DATA that carries the snoop's TAG (R471). -/
def adapterSupplied (s : State) (a l : Nat) (dirty : Bool) (supplied : Bytes) : State :=
  match tblFind s.coh.busy l with
  | some t =>
    if t.owner = some a ∧ s.fab.snoops.contains (a - 336, l) = true then
      let d := padTo 128 supplied
      let bad := poisoned s l
      let s := snoopDone s a l
      let s := match t.kind with
        | .rdS => sendData s (a + 1) t l .s d bad
        | .rdM => sendData s (a + 1) t l .m d bad
        | .upg => sendData s (a + 1) t l .m d bad
        | _ => s
      ownerReplied s l t a dirty d bad
    else s
  | none => s

/-- FWD_ACK (R291, R296). -/
def execFwdAck (agent : Fin 344) (line : Line) (dirty : Bool) (supplied : Bytes) (s : State) : Host.Outcome State Fault Refusal :=
  effectOn s (if isAdapter agent.val then adapterSupplied s agent.val line.toNat dirty supplied else hearFwdAck s agent.val line.toNat)

/-- An invalidated holder is out of the shadow, and its transaction waits for it no more. -/
def holderReplied (s : State) (agent line : Nat) (dirty : Option Bytes) (poison allWritten : Bool) : State :=
  match tblFind s.coh.busy line with
  | some t =>
    if t.waitFor.contains agent then
      let s := match dirty with
        | some d =>
          let s' := memTake s line fullMask (padTo 128 d)
          if poison && !allWritten then poisonLine s' line else s'
        | none => s
      settleTxn (leaveShadow s line agent) line { t with waitFor := t.waitFor.filter (· != agent) }
    else s
  | none =>
    -- an adapter's answer to a recall that the device itself asked for
    match dirty with
    | some d => serveLine (leaveShadow (memTake s line fullMask (padTo 128 d)) line agent) line
    | none => serveLine (leaveShadow s line agent) line

/-- A holder of the package has invalidated its line. -/
def hearInvAck (s : State) (a l : Nat) : State :=
  match netFind s .invAck a l with
  | some m => holderReplied (netDrop s m) a l none false false
  | none => s

/-- A holder of the package has given its line back. -/
def hearRecallAck (s : State) (a l : Nat) : State :=
  match netFind s .recallAck a l with
  | some m => holderReplied (netDrop s m) a l m.data m.poison m.allWritten
  | none => s

/-- INV_ACK (R296). -/
def execInvAck (agent : Fin 344) (line : Line) (s : State) : Host.Outcome State Fault Refusal :=
  effectOn s (
    let a := agent.val
    let l := line.toNat
    if isAdapter a then (if s.fab.snoops.contains (a - 336, l) then holderReplied (snoopDone s a l) a l none false false else s)
    else hearInvAck s a l)

/-- RECALL_ACK (R296). -/
def execRecallAck (agent : Fin 344) (line : Line) (dirty : Option Bytes) (s : State) : Host.Outcome State Fault Refusal :=
  effectOn s (
    let a := agent.val
    let l := line.toNat
    if isAdapter a then
      (if s.fab.snoops.contains (a - 336, l) then holderReplied (snoopDone s a l) a l dirty (poisoned s l) false else s)
    else hearRecallAck s a l)

/-- The requester has installed its state: its transaction can close (R297). -/
def installed (s : State) (a l : Nat) : State :=
  match tblFind s.coh.busy l with
  | some t => if t.agent = a ∧ takesState t.kind = true ∧ blocked t = false then settleTxn s l { t with ended := true } else s
  | none => s

/-- COMPACK of an agent of the package. -/
def hearCompack (s : State) (a l : Nat) : State :=
  match netFind s .compack a l with
  | some m => installed (netDrop s m) a l
  | none => s

/-- COMPACK (R297). -/
def execCompack (agent : Fin 344) (line : Line) (s : State) : Host.Outcome State Fault Refusal :=
  effectOn s (
    let a := agent.val
    let l := line.toNat
    if isAdapter a then
      (match tblFind s.coh.busy l with
       | some t => if t.supplied ∧ urzenState s (a - 336) = 2 then installed s a l else s
       | none => s)
    else hearCompack s a l)

/-- NC_DONE as its requester on the package receives it (R297), with the copy that an owner has sent. -/
def hearNcDone (s : State) (a l : Nat) : State :=
  match netFind s .ncDone a l with
  | some m =>
    let s := netDrop s m
    (match s.coh.net.find? (fun m => decide (m.kind = .copy) && decide (m.agent = a) && decide (m.line = l)) with
     | some k => netDrop s k
     | none => s)
  | none => s

/-- NC_DONE (R297). -/
def execNcDone (agent : Fin 374) (line : Line) (s : State) : Host.Outcome State Fault Refusal := effectOn s (hearNcDone s agent.val line.toNat)

/-- A message on the package arrives where it goes. -/
def deliver (s : State) (m : NetMsg) : State :=
  match m.kind with
  | .rdS => fromNet s .rdS .rdS m.agent m.line
  | .rdM => fromNet s .rdM .rdM m.agent m.line
  | .upg => fromNet s .upg .upg m.agent m.line
  | .wb => wbArrives s m.agent m.line
  | .evict => evictArrives s m.agent m.line
  | .fwdS => takeForward s .fwdS m.agent m.line
  | .fwdM => takeForward s .fwdM m.agent m.line
  | .fwdNc => takeForward s .fwdNc m.agent m.line
  | .inv => takeInv s m.agent m.line
  | .recall => takeRecall s m.agent m.line
  | .data => hearData s m.agent m.line
  | .grant => hearGrant s m.agent m.line
  | .fwdAck => hearFwdAck s m.agent m.line
  | .invAck => hearInvAck s m.agent m.line
  | .recallAck => hearRecallAck s m.agent m.line
  | .compack => hearCompack s m.agent m.line
  | .ncDone => hearNcDone s m.agent m.line
  | .wbAck => hearWbAck s m.agent m.line
  | .retry => hearRetry s m.agent m.line
  | _ => s

/-- Messages on the package arrive, round by round, while any is under way (R229). -/
def deliverAll : (fuel : Nat) → State → State
  | 0, s => s
  | fuel + 1, s => if s.coh.net.isEmpty then s else deliverAll fuel (s.coh.net.foldl deliver s)

/-! ## Loads and stores of an engine (R294, R315, R316, R319) -/

/-- A line as an engine sees it over what its cache or the home gives. -/
def seenLine (s : State) (e : Eng) (line : Nat) (base : Bytes) : Bytes :=
  (holdPath e).reverse.foldl (fun b p =>
    match heldAt s p line with
    | some h => maskMerge h.mask b h.data
    | none => b) base

/-- An operand copy of a line (R319). -/
def copyOf (s : State) (e : Eng) (line : Nat) : Option OperandCopy :=
  s.q.copies.find? (fun k => decide (k.eng = e) && decide (k.line = line))

/-- A line that an engine can read now, with its poison: from its operand copy, its cluster's cache, or the home. -/
def readable (s : State) (e : Eng) (line : Nat) : Option (Bytes × Bool) :=
  match copyOf s e line with
  | some k => some (k.data, false)
  | none =>
    match cacheAgent e with
    | some a =>
      (match cacheLine s a line with
       | some c => if loadHits c.st then some (c.data, clinePoison c || decide (devState s = 3)) else none
       | none => none)
    | none => if lineFree s line then some (lineNow s line) else none

/-- A cluster cache asks for a line (R294); a cache that is full has to evict first. -/
def askLine (s : State) (agent c line : Nat) (k : NetKind) (x : CLine) : State :=
  if !maySend s agent c line || s.coh.failed.contains agent then s
  else if (cacheLine s agent line).isNone && decide (16384 ≤ linesHeld s agent) then s
  else netSend (setCacheLine (notePaced s agent c line) agent line x) { plainMsg k agent line with ctx := c }

/-- The last access that an engine completed. -/
def setLoaded (s : State) (e : Eng) (sa : Nat) (st : Status) (b : Bytes) : State :=
  { s with q.loaded := s.q.loaded.filter (fun x => !decide (x.eng = e)) ++ [⟨e, sa, st, b⟩] }

/-- A load that does not hit asks for its line. -/
def missLoad (s : State) (e : Eng) (c line : Nat) : State :=
  match cacheAgent e with
  | some a =>
    if (cacheLine s a line).isSome then s
    else askLine s a c line .rdS ⟨.is, false, [], false, 0, false, c, none⟩
  | none => askRecall s (fwdLine s line)

/-- Lines of operand copies that an engine has places for (R28, R319): a Nib's buffer, a Quill's context store, a Feed's stream buffer, the
data cache of 32 KiB of a scribe core; the others keep none. -/
def copyPlaces : EngKind → Nat
  | .nib => T0Part.lines .nibBuffer
  | .quill => T0Part.lines .quillStore
  | .feed => T0Part.lines .feedBuffer
  | .scribe => 256
  | _ => 0

/-- Operand copies that an engine can still take. -/
def copyRoom (s : State) (e : Eng) : Nat := copyPlaces e.kind - (s.q.copies.filter (fun k => decide (k.eng = e))).length

/-- LOAD (R294, R316): its bytes where every line of it can be read, else its misses are sent. A load keeps operand copies where
`keep` says so. Outside the ranges that the engine can reach it completes with RANGE (R195). -/
def doLoad (s : State) (e : Eng) (c sa len : Nat) (keep : Bool) : State :=
  if firmwareReach e.kind sa len then setLoaded s e sa .ok (memRead s.mem.mem sa len)
  else if !inStore s sa len then setLoaded s e sa .range []
  else
    let ls := linesOf sa len
    if ls.all (fun l => (readable s e l).isSome) then
      let seen := ls.map (fun l => ((readable s e l).getD ([], true)))
      let all := ((ls.zip seen).map (fun p => seenLine s e p.1 p.2.1)).flatten
      let bad := seen.any (·.2)
      let s := touchSa (if (cacheAgent e).isNone then (homeRead s (engAgent e) c sa len).2 else s) sa
      let new : List OperandCopy := ((ls.zip seen).filter (fun p => (copyOf s e p.1).isNone && !p.2.2)).map (fun p => ⟨e, p.1, p.2.1⟩)
      let s := if keep then { s with q.copies := s.q.copies ++ new.take (copyRoom s e) } else s
      if bad then setLoaded s e sa .poison [] else setLoaded s e sa .ok ((all.drop (sa % 128)).take len)
    else ls.foldl (fun s l => if (readable s e l).isSome then s else missLoad s e c l) s

/-- LOAD (R294, R315). -/
def execLoad (e : Eng) (c : Ctx) (sa : Sa) (lenm1 : BitVec 7) (keep : Bool) (s : State) : Host.Outcome State Fault Refusal :=
  effectOn s (doLoad s e c.toNat sa.toNat (lenm1.toNat + 1) keep)

/-- The part of a store that lies in one line: line, mask, bytes of the whole line. -/
def storePart (sa : Nat) (data : Bytes) (l : Nat) : Nat × Nat × Bytes :=
  let lo := max sa (l * 128)
  let hi := min (sa + data.length) (l * 128 + 128)
  (lo - l * 128, (2 ^ (hi - lo) - 1) * 2 ^ (lo - l * 128), (data.drop (lo - sa)).take (hi - lo))

/-- An engine sees its own stores in its operand copies (R316). -/
def copyTakes (s : State) (e : Eng) (l mask : Nat) (data : Bytes) : State :=
  { s with q.copies := mapWhere (fun k => decide (k.eng = e) && decide (k.line = l)) (fun k => { k with data := maskMerge mask k.data data }) s.q.copies }

/-- A store into the holding points of an engine (R319): its store queue, or, of a Feed or a scribe core, the die's write combiner
where it is not held. -/
def storeHeld (s : State) (p : HoldAt) (c l mask : Nat) (data : Bytes) : State :=
  match holdInto s p ⟨p, l, mask, padTo 128 data, c, s.now⟩ with
  | (s, false) => s
  | (s, true) =>
    match s.q.stores.find? (fun x => decide (x.place = p)) with
    | some o => passOn 4 s o
    | none => s

/-- One line of a store (R294, R319). A store that is not to be held asks for ownership where its cluster has none; a line that
already holds stores of the engine takes it there, so that they stay in order (R316). -/
def storeLine (s : State) (e : Eng) (c l off mask : Nat) (part : Bytes) (hold : Bool) : State :=
  let whole := padTo 128 (List.replicate off 0#8 ++ part)
  let s := copyTakes s e l mask whole
  if hold || (holdPath e).any (fun p => (heldAt s p l).isSome) then storeHeld s (.engine e) c l mask whole
  else
    match cacheAgent e with
    | none =>
      if e.die.val < 24 then storeHeld s (.die e.die.val) c l mask whole
      else if lineFree s l && !writesHeld s (l * 128) then homeWriteLine s (engAgent e) c l mask whole
      else storeHeld (askRecall s (fwdLine s l)) (.engine e) c l mask whole
    | some a =>
      match cacheLine s a l with
      | none => askLine s a c l .rdM ⟨.im, false, [], false, 0, false, c, some (off, part, c)⟩
      | some x =>
        match x.st with
        | .m => setCacheLine s a l (storeInto x off part)
        | .e => setCacheLine s a l (storeInto { x with st := .m } off part)
        | .s => askLine s a c l .upg { x with st := .sm, ctx := c, pend := some (off, part, c) }
        | .o => askLine s a c l .upg { x with st := .om, ctx := c, pend := some (off, part, c) }
        | _ => storeHeld s (.engine e) c l mask whole

/-- STORE (R294, R315, R319); outside the ranges that the engine can reach it completes with RANGE (R195). -/
def execStore (e : Eng) (c : Ctx) (sa : Sa) (data : Bytes) (hold : Bool) (s : State) : Host.Outcome State Fault Refusal :=
  effectOn s (
    if data = [] ∨ 128 < data.length ∨ cutOver s = true then s
    else if firmwareReach e.kind sa.toNat data.length then
      setLoaded { s with mem.mem := memWrite s.mem.mem sa.toNat data } e sa.toNat .ok []
    else if !inStore s sa.toNat data.length then setLoaded s e sa.toNat .range []
    else
      (linesOf sa.toNat data.length).foldl (fun s l =>
        let p := storePart sa.toNat data l
        storeLine s e c.toNat l p.1 p.2.1 p.2.2 hold) (touchSa s sa.toNat))

/-! ## Pacing at agents and windows at banks -/

/-- HOT at an agent (R311): it paces the pair; of 16 pairs the oldest gives way. -/
def execHot (agent : Fin 374) (c : Ctx) (line : Line) (interval : Nat) (s : State) : Host.Outcome State Fault Refusal :=
  effectOn s (
    let a := agent.val
    match s.coh.net.find? (fun m => decide (m.kind = .hot) && decide (m.agent = a) && decide (m.line = line.toNat) &&
        decide (m.ctx = c.toNat) && decide (m.ticket = some interval)) with
    | none => s
    | some m =>
      if !mayArrive s m then s
      else
      let s := netDrop s m
      let pair (p : Pacing) : Bool := decide (p.agent = a) && decide (p.ctx = c.toNat) && decide (p.line = line.toNat)
      if s.coh.pacing.any pair then
        let l := mapWhere pair (fun p => { p with interval := interval }) s.coh.pacing
        { s with coh.pacing := l }
      else
        let mine := s.coh.pacing.filter (fun p => decide (p.agent = a))
        let kept := if 16 ≤ mine.length then (match mine with | p :: _ => s.coh.pacing.erase p | [] => s.coh.pacing) else s.coh.pacing
        { s with coh.pacing := kept ++ [⟨a, c.toNat, line.toNat, interval, s.now⟩] })

/-- Requests of the window for a line. -/
def lineCount (s : State) (line : Nat) : Nat := ((s.coh.counts.filter (fun e => decide (e.1 = line))).map (·.2.2.2)).sum

/-- Requests of the window for a line from a context. -/
def ctxCount (s : State) (line c : Nat) : Nat :=
  ((s.coh.counts.filter (fun e => decide (e.1 = line) && decide (e.2.1 = c))).map (·.2.2.2)).sum

/-- The context with most requests to a line. -/
def topCtx (s : State) (line : Nat) : Nat :=
  ((s.coh.counts.filter (fun e => decide (e.1 = line))).map (·.2.1)).foldl (fun b c => if ctxCount s line b < ctxCount s line c then c else b) 0

/-- Contexts that reached a line in the window. -/
def ctxsOf (s : State) (line : Nat) : List Nat :=
  ((s.coh.counts.filter (fun e => decide (e.1 = line))).map (·.2.1)).dedup

/-- A window ends for one line (R310, R311). -/
def windowLine (s : State) (line : Nat) : State :=
  let n := lineCount s line
  let limit := odGet s (odKey 0x5000 1)
  let was := s.coh.hotLines.contains line
  let hot := decide (limit < n) || (was && decide (limit ≤ 2 * n))
  let s := if hot && !was then
      odBump (logEv { s with coh.hotLines := s.coh.hotLines ++ [line] } "HOT_LINE" [line * 128, topCtx s line]) (odKey 0x5001 8) 1
    else if was && !hot then { s with coh.hotLines := s.coh.hotLines.filter (· != line) }
    else s
  let s := { s with coh.paced := s.coh.paced.filter (fun p => p.2.1 != line) }
  if hot then
    (ctxsOf s line).foldl (fun s c =>
      let agents := (s.coh.counts.filter (fun e => decide (e.1 = line) && decide (e.2.1 = c))).map (·.2.2.1)
      sendHots { s with coh.paced := s.coh.paced ++ [(c, line, agents)] } c line agents) s
  else s

/-- HOT_WINDOW (R310): a bank's window of 100 µs ends; it follows its 32 busiest lines. -/
def execHotWindow (inkwell : Fin 24) (bank : Fin 8) (s : State) : Host.Outcome State Fault Refusal :=
  effectOn s (
    let here (l : Nat) : Bool := decide (homeOf s l = inkwell.val) && decide (bankOf s l = bank.val)
    let ls := ((s.coh.counts.map (·.1) ++ s.coh.hotLines).dedup).filter here
    let busiest := (ls.mergeSort (fun a b => decide (lineCount s b ≤ lineCount s a))).take 32
    let s := (ls.filter (fun l => busiest.contains l || s.coh.hotLines.contains l)).foldl windowLine s
    { s with coh.counts := s.coh.counts.filter (fun e => !here e.1) })

/-- ATOMIC_BUFFER_WRITEOUT (R308): the line leaves the atomic line buffer; its value is the line's at the home. -/
def execAtomicBufferWriteout (line : Line) (s : State) : Host.Outcome State Fault Refusal :=
  effectOn s { s with coh.atomBuf := s.coh.atomBuf.filter (fun e => e.1 != line.toNat) }

/-! ## Caches that fail (R312) -/

/-- A line that a failed cache held in M or O is poisoned, recorded I and logged; one held in E or S is dropped. Of an adapter's
line in X the home cannot tell E from M, and takes M. -/
def failLine (s : State) (agent line : Nat) : State :=
  match shadowOf s line with
  | some e =>
    if e.owner = some agent then
      let clean : Bool := match cacheLine s agent line with
        | some c => decide (c.st = .e) || decide (c.st = .ei)
        | none => false
      if clean then leaveShadow s line agent
      else
        let s := { s with coh.caches := e.sharers.foldl (fun t a => tblErase t (cacheKey a line)) s.coh.caches }
        poisonEvent { s with coh.shadow := tblErase s.coh.shadow line } line
    else leaveShadow s line agent
  | none => s

/-- A failed cache (R312): its lines, its tickets (R302), its messages, the context-window writes that waited for its writes (log entry
107), and the transactions that wait for its replies. -/
def failAgent (s : State) (agent : Nat) : State :=
  let s := { s with coh.failed := addOnce s.coh.failed agent }
  let held := (s.coh.shadow.filter (fun e => e.2.sharers.contains agent || decide (e.2.owner = some agent))).map (·.1)
  let s := held.foldl (fun s l => failLine s agent l) s
  let s := { s with coh.tickets := s.coh.tickets.filter (fun k => k.agent != agent),
                    coh.caches := s.coh.caches.filter (fun e => e.1 / 2 ^ 45 != agent),
                    coh.net := s.coh.net.filter (fun m => m.agent != agent),
                    coh.pacing := s.coh.pacing.filter (fun p => p.agent != agent),
                    fab.snoops := s.fab.snoops.filter (fun p => p.1 + 336 != agent),
                    fab.hostWrites := s.fab.hostWrites.filter (fun w => w.1 + 336 != agent),
                    fab.heldCw := s.fab.heldCw.filter (fun h => h.port + 336 != agent) }
  let s := s.coh.busy.foldl (fun s b =>
    match tblFind s.coh.busy b.1 with
    | some t =>
      let gone := decide (t.agent = agent)
      if gone && blocked t then clearBusy s b.1
      else settleTxn s b.1 { t with waitFor := t.waitFor.filter (· != agent), owner := t.owner.filter (· != agent),
                                    supplied := t.supplied || gone, ended := t.ended || gone }
    | none => s) s
  held.foldl serveLine s

/-- SNOOP_TIMEOUT (R312): a snoop of an adapter cache has had no reply. -/
def execSnoopTimeout (port : Fin 8) (s : State) : Host.Outcome State Fault Refusal :=
  effectOn s (if s.fab.snoops.any (fun p => decide (p.1 = port.val)) then failAgent s (336 + port.val) else s)

/-- XLAT_INV_TIMEOUT (R475): the adapter is failed, and the withdrawals go on without it. -/
def execXlatInvTimeout (port : Fin 8) (s : State) : Host.Outcome State Fault Refusal :=
  effectOn s (
    if s.xlat.withdrawals.any (fun w => w.2.xlatInv.contains port.val) then
      let s := failAgent s (336 + port.val)
      { s with xlat.withdrawals := s.xlat.withdrawals.map (fun w => (w.1, { w.2 with xlatInv := w.2.xlatInv.filter (· != port.val) })) }
    else s)

/-! ## Requests that wait for a page under move -/

/-- Writes held are released after a switch (R221, R305): ticketed requests for free lines are served. -/
def serveHeld (s : State) : State :=
  ((s.coh.tickets.filter (fun k => k.waiting.isSome)).map (·.line)).foldl serveLine s

/-- CHUNK_DONE (R261, R221). -/
def execChunkDone (stream : BitVec 16) (offset : Nat) (s : State) : Host.Outcome State Fault Refusal :=
  effectOn s (serveHeld (doneChunk s stream.toNat offset))

/-! ## The deadline of a withdrawal -/

/-- A store page lies in the range of a withdrawal: in frames that it gave up, or in pages that it left where they are. -/
def inWithdrawn (s : State) (c : Nat) (w : Withdrawal) (page : Nat) : Bool :=
  w.frames.any (fun f => decide (f.1 ≠ 3) && decide (f.2.1 ≤ page) && decide (page < f.2.1 + f.2.2)) ||
    (piecesOf (rangeTable s c) w.vpn w.pages).any (fun e => decide (e.ty = .device) && decide (e.base ≤ page) && decide (page < e.base + e.pages))

/-- A withdrawal aborts a request of a host or a peer at its deadline: what a move left is served at its new place (R281). -/
def abortsTxn (s : State) (c : Nat) (w : Withdrawal) (t : Txn) : Bool :=
  decide (w.kind ≠ .move) && decide (w.kind ≠ .window) && inWithdrawn s c w (t.sa / 4096)

/-- The requests of a context at their homes under the old epoch at a withdrawal's deadline (R281, R282): an overlapping one completes
with RANGE, and its write is dropped; the line of one that is open goes back to memory. Any other is tagged anew, and so is one whose line
an owner is already handing on (log entry 84). -/
def deadlineTxns (s : State) (c : Nat) (w : Withdrawal) : State :=
  let retag (t : Txn) : Txn := { t with epoch := some ((w.oldEpoch + 1) % 2 ^ 32) }
  let mine (t : Txn) : Bool := txnTagged c w.oldEpoch t
  let s := s.coh.tickets.foldl (fun s k =>
    match k.waiting with
    | some t =>
      if !mine t then s
      else if abortsTxn s c w t then
        hostDone (sendDone (abortEvent { s with coh.tickets := s.coh.tickets.erase k } c t.agent) t (t.sa / 128) .range []) t
      else { s with coh.tickets := mapWhere (fun x => decide (x = k)) (fun x => { x with waiting := some (retag t) }) s.coh.tickets }
    | none => s) s
  s.coh.busy.foldl (fun s e =>
    match tblFind s.coh.busy e.1 with
    | some t =>
      if !mine t then s
      else if abortsTxn s c w t && !t.supplied && (t.owner.isNone || decide (t.kind = .rdNc)) then
        settleTxn (hostDone (sendDone (abortEvent s c t.agent) t e.1 .range []) t) e.1
          { t with kind := if t.kind = .rdNc then .rdNc else .recall, epoch := none, agent := firmwareAgent, reply := .agent }
      else setBusy s e.1 (retag t)
    | none => s) s

/-- The deadline of a withdrawal (R281): every remaining transfer of the old epoch is aborted, reissued or tagged anew. -/
def withdrawalDeadline (s : State) (c : Nat) : State :=
  match tblFind s.xlat.withdrawals c with
  | none => s
  | some w =>
    let s := deadlineTxns (deadlineChunks s c w) c w
    { s with xlat.withdrawals := tblSet s.xlat.withdrawals c { w with overdue := true } }

/-- WITHDRAW_DEADLINE (R281, R441). -/
def execWithdrawDeadline (c : Ctx) (s : State) : Host.Outcome State Fault Refusal :=
  effectOn s (importDeadline (withdrawalDeadline s c.toNat) c.toNat)

end Sys2Proof.Machine
end

