-- ==== Sys2Proof/Machine/MemModel.lean ====
section
/-! DEFINITION. Releases, acquires and ageing (R315-R322), sync queues (R336, R337) and wake notices (R335). -/

namespace Sys2Proof.Machine

/-! ## Releases and acquires of an engine (R315-R322) -/

/-- RELEASE_AT_SCOPE (R315, R320). -/
def execReleaseAtScope (e : Eng) (scope : Scope) (s : State) : Host.Outcome State Fault Refusal := effectOn s (doRelease s e scope)

/-- ACQUIRE_AT_SCOPE (R315, R322). -/
def execAcquireAtScope (e : Eng) (scope : Scope) (s : State) : Host.Outcome State Fault Refusal := effectOn s (doAcquire s e scope)

/-- FENCE_AT_SCOPE (R315): a release and an acquire, in that order. -/
def execFenceAtScope (e : Eng) (scope : Scope) (s : State) : Host.Outcome State Fault Refusal :=
  effectOn s (doAcquire (doRelease s e scope) e scope)

/-- A line that has aged moves one holding point on; lines that leave a cluster store buffer so are counted in OD 0x5003.05. -/
def ageLine (s : State) (p : HoldAt) (line : Nat) : State :=
  match p, heldAt s p line with
  | .cluster _, some _ => odBump (drainLine s p line) (odKey 0x5003 5) 1
  | _, _ => drainLine s p line

/-- STORE_AGEING (R321): stores to a line that no release has drained reach the home. -/
def execStoreAgeing (e : Eng) (line : Line) (s : State) : Host.Outcome State Fault Refusal :=
  effectOn s (if cutOver s then s else (holdPath e).foldl (fun s p => ageLine s p line.toNat) s)

/-! ## Sync queues (R332, R336, R337) -/

/-- MID. -/
def sMid (d : Nat) : Nat := field d 128 16

/-- OPERAND. -/
def sOperand (d : Nat) : Nat := field d 192 64

/-- Complete a sync descriptor. -/
def syncEnd (s : State) (c q : Nat) (x : Queue) (d : Nat) (st : Status) (value lscope : Nat) : State :=
  addJob s c q x d .plain (some (recSync st (dOp d) (dTag d) value lscope))

/-- The serving scribe core executes a mordant operation: at the home, the mordant must still belong to the context (R332). MADD and MSET
release first, and wait while a store has not reached its home (R320); MREAD acquires. -/
def doMordant (s : State) (c q : Nat) (x : Queue) (d : Nat) : State :=
  let m := sMid d
  if !mordOwned s c m then syncEnd s c q x d .range 0 0
  else
    let r := mordGet s m
    let (inst, s) := instanceOf s c q x (dScope d)
    if dOp d = 0x52 then
      let s := acquireIn s (locProc s x.scribe) (dScope d)
      mordAcquire (syncEnd s c q x d .ok r.value r.lscope) c m (dScope d) inst (locProc s x.scribe)
    else
      let s := releaseIn s c inst (dScope d)
      if unreleased s c inst (dScope d) ≠ [] then s
      else
        mordUpdate (syncEnd s c q x d .ok r.value r.lscope) m (if dOp d = 0x50 then r.value + sOperand d else sOperand d) (dScope d) inst

/-- MADD (R332, R336). -/
def execMadd (c : Ctx) (q : QNum) (s : State) : Host.Outcome State Fault Refusal :=
  effectOn s (dispatchAs s c.toNat q.val [5] (fun d => dOp d = 0x50) (fun s x d => doMordant s c.toNat q.val x d))

/-- MSET (R332, R336). -/
def execMset (c : Ctx) (q : QNum) (s : State) : Host.Outcome State Fault Refusal :=
  effectOn s (dispatchAs s c.toNat q.val [5] (fun d => dOp d = 0x51) (fun s x d => doMordant s c.toNat q.val x d))

/-- MREAD (R332, R336). -/
def execMread (c : Ctx) (q : QNum) (s : State) : Host.Outcome State Fault Refusal :=
  effectOn s (dispatchAs s c.toNat q.val [5] (fun d => dOp d = 0x52) (fun s x d => doMordant s c.toNat q.val x d))

/-- WAKE_NOTICE (R335): a processor whose SUBS bit is set checks its waiting descriptors again. -/
def execWakeNotice (p : Fin 64) (m : BitVec 16) (s : State) : Host.Outcome State Fault Refusal :=
  effectOn s (
    if (mordGet s m.toNat).subs.testBit p.val then
      (s.q.queues.filter (fun e => decide (e.2.scribe = p.val) && decide (e.2.wait = .waiting m.toNat))).foldl
        (fun s e => queuePoll s (e.1 / 16) (e.1 % 16)) s
    else s)

end Sys2Proof.Machine
end

