-- ==== Sys2Proof/Machine/Windows.lean ====
section
/-! DEFINITION. Layer windows (R177-R190): opening and closing, fills, bindings and releases. -/

namespace Sys2Proof.Machine

/-- Key of a window. -/
def winKey (c w : Nat) : Nat := c * 16 + w

/-- An open window. -/
def windowOf (s : State) (k : Nat) : Option Window := tblFind s.q.windows k

/-- Put back a window. -/
def setWindow (s : State) (k : Nat) (w : Window) : State := { s with q.windows := tblSet s.q.windows k w }

/-- A window holds all its layers at once (R188). -/
def resident (w : Window) : Bool := decide (w.nlayers ≤ w.depth)

/-- SRC, LEN and CONSUMERS of the layer of a fill. -/
def fillLayer (w : Window) (g : Nat) : Nat × Nat × Nat := w.layers.getD (g % max w.nlayers 1) (0, 0, 0)

/-- A fill that has been made known. -/
def fillOf (w : Window) (g : Nat) : Option Fill := w.fills.find? (fun f => decide (f.g = g))

/-- A fill before anything has happened to it. -/
def newFill (g : Nat) : Fill := ⟨g, false, 0, false, .ok, [], 0, false, 0⟩

/-- Change a fill, which becomes known. -/
def updFill (w : Window) (g : Nat) (f : Fill → Fill) : Window :=
  if (fillOf w g).isSome then { w with fills := mapWhere (fun x => decide (x.g = g)) f w.fills }
  else { w with fills := w.fills ++ [f (newFill g)] }

/-- A fill exists within the passes of a window (R180, R188). -/
def fillExists (w : Window) (g : Nat) : Bool :=
  if resident w then decide (g < w.nlayers) else decide (w.passes = 0) || decide (g < w.passes * w.nlayers)

/-- A fill has been released. -/
def fillReleased (w : Window) (g : Nat) : Bool :=
  decide (g < w.releasedCnt) || (match fillOf w g with | some f => f.released | none => false)

/-- Descriptors are bound to a fill. -/
def fillBound (w : Window) (g : Nat) : Bool := match fillOf w g with | some f => decide (f.bound ≠ []) | none => false

/-- The next fill to start: in order of g; after a close, only those with a bound descriptor (R181, R189). -/
def nextToStart (w : Window) : Option Nat :=
  if w.closed then
    (w.fills.filter (fun f => !f.started && decide (f.bound ≠ []))).foldl (fun b f =>
      match b with
      | none => some f.g
      | some g => some (min f.g g)) none
  else if fillExists w w.nextFill then some w.nextFill
  else none

/-- The slot of a fill is free: the fill before it there has been released (R181); after a close, no bound descriptor of an earlier fill of
the slot is still to complete (R189). -/
def slotReady (w : Window) (g : Nat) : Bool :=
  decide (g < w.depth) || resident w || fillReleased w (g - w.depth) ||
    (w.closed && !w.fills.any (fun h => decide (h.g < g) && decide (h.g % w.depth = g % w.depth) && decide (h.completed < h.bound.length)))

/-- Fills of a window in flight at most, in the generation it opened with (R181, R190). -/
def flightLimit (s : State) (w : Window) : Nat := odAt s w.gen (odKey 0x2200 3)

/-- A fill may start: its slot is free, and fewer fills of the window are in flight than OD 0x2200.03 (R181). -/
def mayStart (s : State) (w : Window) (g : Nat) : Bool := slotReady w g && decide (w.inFlight < flightLimit s w)

/-- CVA of the slot of a fill (R180). -/
def slotAddr (w : Window) (g : Nat) : Nat := w.slots + g % max w.depth 1 * w.slotSize

/-- Start the next fill of a window where one may start (R180, R181). -/
def startFill (s : State) (k : Nat) : State :=
  match windowOf s k with
  | none => s
  | some w =>
    match nextToStart w with
    | none => s
    | some g =>
      let l := fillLayer w g
      if !mayStart s w g || !slotsFree s (streamCount l.2.1) || !ctxActive s w.ctx || !admitting s then s
      else
        let s := startStreams s (newStream (.fill k g) w.gen w.ctx w.queue w.tag l.1 (slotAddr w g) l.2.1) l.2.1
        setWindow s k { updFill w g (fun f => { f with started := true, streams := streamCount l.2.1 }) with
          nextFill := max w.nextFill (g + 1), inFlight := w.inFlight + 1 }

/-- Start the first fills of a window, or those that a release has made possible. -/
def startFills : (fuel : Nat) → State → (k : Nat) → State
  | 0, s, _ => s
  | fuel + 1, s, k => startFills fuel (startFill s k) k

/-- WINDOW_FILL_START (R181). -/
def execWindowFillStart (c : Ctx) (win : Fin 16) (s : State) : Host.Outcome State Fault Refusal :=
  effectOn s (startFill s (winKey c.toNat win.val))

/-- FILLED_ID counts the fills that have completed without a gap; each increment is a release at device scope (R182). -/
def advanceFilled : (fuel : Nat) → State → (k : Nat) → State
  | 0, s, _ => s
  | fuel + 1, s, k =>
    match windowOf s k with
    | none => s
    | some w =>
      match fillOf w w.filled with
      | some f =>
        if f.done then
          let s := setWindow s k { w with filled := w.filled + 1 }
          advanceFilled fuel (mordUpdate s w.filledId ((mordGet s w.filledId).value + 1) 4 (locDevice s)) k
        else s
      | none => s

/-- RELEASED_ID counts the fills that have been released without a gap (R184). -/
def advanceReleased : (fuel : Nat) → State → (k : Nat) → State
  | 0, s, _ => s
  | fuel + 1, s, k =>
    match windowOf s k with
    | none => s
    | some w =>
      match fillOf w w.releasedCnt with
      | some f =>
        if f.released then
          let s := setWindow s k { w with releasedCnt := w.releasedCnt + 1 }
          advanceReleased fuel (mordUpdate s w.releasedId ((mordGet s w.releasedId).value + 1) 4 (locDevice s)) k
        else s
      | none => s

/-- WINDOW_FILL_DONE (R182, R187): the last stream of a fill has ended. -/
def execWindowFillDone (c : Ctx) (win : Fin 16) (fill : Nat) (s : State) : Host.Outcome State Fault Refusal :=
  effectOn s (
    let k := winKey c.toNat win.val
    let xs := (streamsOf s (.fill k fill)).map (·.2)
    match windowOf s k with
    | none => s
    | some w =>
      if xs = [] ∨ xs.all (·.done) = false then s
      else
        let st := statusOf (xs.map (·.status))
        let bytes := (xs.map (·.bytes)).sum
        let s := dropStreams s (.fill k fill)
        let s := setWindow s k { updFill w fill (fun f => { f with done := true, status := st, bytes := bytes }) with inFlight := w.inFlight - 1 }
        let s := odBump s (odKey 0x2201 2) bytes
        let s := odBump s (odKey 0x2201 (if st = .ok then 1 else 3)) 1
        advanceFilled (w.fills.length + 1) s k)

/-- The oldest fill of a layer with an unbound place among its CONSUMERS (R183); a resident layer has one fill for all (R188). -/
def fillFor (w : Window) (layer : Nat) : Option Nat :=
  if resident w then some layer
  else
    let n := max w.nlayers 1
    let g0 := (w.releasedCnt + n - 1 - layer) / n * n + layer
    ((List.range (w.fills.length + 1)).map (fun i => g0 + i * n)).find? (fun g =>
      fillExists w g && !fillReleased w g &&
        (match fillOf w g with | some f => decide (f.bound.length < (fillLayer w g).2.2) | none => true))

/-- What a MATMUL that names a window finds at its dispatch. -/
inductive Binding where
  | bad | wait (s : State) | ready (s : State) (g : Nat) | failed (s : State) (g : Nat) (st : Status)

/-- The fill to which the descriptor at the head of a queue has been bound. -/
def boundFill (w : Window) (key idx : Nat) : Option Nat :=
  match w.waiters.find? (fun x => decide (x.1 = key)) with
  | some x => if (fillOf w x.2.1).any (fun f => f.bound.contains (key, idx)) then some x.2.1 else none
  | none => none

/-- A descriptor takes a place among the CONSUMERS of a fill. -/
def addBinding (s : State) (w : Window) (g key idx : Nat) : Window :=
  { updFill w g (fun f => { f with bound := f.bound ++ [(key, idx)] }) with
    waiters := w.waiters.filter (fun x => x.1 != key) ++ [(key, g, s.now, false)] }

/-- Bind the MATMUL at the head of a queue to its fill, once, and see whether the fill has completed (R183, R187). -/
def bindFill (s : State) (c q idx win layer : Nat) : Binding :=
  let k := winKey c win
  let key := qKey c q
  match windowOf s k with
  | none => .bad
  | some w =>
    let mine := boundFill w key idx
    match (if mine.isSome then mine else if w.closed ∨ w.nlayers ≤ layer then none else fillFor w layer) with
    | none => .bad
    | some g =>
      let w := if mine.isSome then w else addBinding s w g key idx
      let s := setWindow s k w
      match fillOf w g with
      | none => .bad
      | some f => if !f.done then .wait s else if f.status = .ok then .ready s g else .failed s g f.status

/-- A bound descriptor leaves the head of its queue. -/
def unwait (s : State) (k key : Nat) : State :=
  match windowOf s k with
  | some w => setWindow s k { w with waiters := w.waiters.filter (fun x => x.1 != key) }
  | none => s

/-- A waiter whose fill has not completed, and which has not been reported (R186). -/
def stalled (w : Window) (x : Nat × Nat × Nat × Bool) : Bool := !x.2.2.2 && !(fillOf w x.2.1).any (·.done)

/-- WINDOW_STALL (R186): a descriptor has waited on a fill for OD 0x2200.04; it keeps waiting. -/
def execWindowStall (c : Ctx) (q : QNum) (s : State) : Host.Outcome State Fault Refusal :=
  effectOn s (
    let key := qKey c.toNat q.val
    match s.q.windows.find? (fun e => e.2.waiters.any (fun x => decide (x.1 = key) && stalled e.2 x)) with
    | none => s
    | some (k, w) =>
      match w.waiters.find? (fun x => decide (x.1 = key)) with
      | none => s
      | some x =>
        let s := setWindow s k { w with waiters := mapWhere (fun y => decide (y.1 = key)) (fun y => (y.1, y.2.1, y.2.2.1, true)) w.waiters }
        let s := odBump (logEv s "WINDOW_STALL" [k % 16, x.2.1 % max w.nlayers 1, x.2.1]) (odKey 0x2201 4) 1
        flagEvent s c.toNat 5)

/-- A closed window whose bound descriptors have all completed: the close completes, and the window is gone (R189). -/
def settleClose (s : State) (k : Nat) : State :=
  match windowOf s k with
  | none => s
  | some w =>
    match w.closer with
    | none => s
    | some (qk, i) =>
      if w.fills.all (fun f => decide (f.completed = f.bound.length)) then
        let s := w.fills.foldl (fun s f => dropStreams s (.fill k f.g)) s
        let s := { s with q.windows := tblErase s.q.windows k }
        match jobFind s (qk / 16) (qk % 16) i with
        | some j => jobEnd s (qk / 16) (qk % 16) i (recHead .ok j.op j.tag)
        | none => s
      else s

/-- A descriptor bound to a fill has completed (R184): the fill is released after the last of its CONSUMERS, and a later fill may
start. -/
def boundDone (s : State) (k g : Nat) : State :=
  match windowOf s k with
  | none => s
  | some w =>
    let w' := updFill w g (fun f =>
      let n := f.completed + 1
      { f with completed := n, released := f.released || (!resident w && decide ((fillLayer w g).2.2 ≤ n)) })
    settleClose (startFills (flightLimit s w) (advanceReleased (w'.fills.length + 1) (setWindow s k w') k) k) k

/-- The entries of a layer table: SRC, LEN, CONSUMERS (R178). -/
def layerTable (s : State) (c cva n : Nat) : List (Nat × Nat × Nat) :=
  let b := (cvaBytes s c cva (32 * n)).1
  (List.range n).map (fun i =>
    let e := leAt b (32 * i) 32
    (field e 0 64, field e 64 40, field e 112 16))

/-- Every store page behind a CVA range lies in the T1 placed region. -/
def inPlaced (s : State) (c cva n : Nat) : Bool := (saParts s c cva n).all (fun p => inT1 s p.1 p.2)

/-- Complete a Nib-queue descriptor other than MATMUL at once (R169). -/
def nibEnd (s : State) (c q : Nat) (x : Queue) (d : Nat) (st : Status) : State :=
  addJob s c q x d .plain (some (recHead st (dOp d) (dTag d)))

/-- Size of a window's slots: the largest layer, in whole pages (R180). -/
def slotSizeOf (ls : List (Nat × Nat × Nat)) : Nat := roundUp ((ls.map (·.2.1)).foldl max 0) 4096

/-- A WINDOW_OPEN whose checks have passed: both mordants begin at zero, the window is there, and its first fills begin (R177, R179,
R181). -/
def windowOpens (s : State) (c q : Nat) (x : Queue) (d : Nat) (ls : List (Nat × Nat × Nat)) (depth : Nat) : State :=
  let k := winKey c (field d 128 4)
  let n := field d 144 16
  let filledId := field d 160 16
  let relId := field d 176 16
  let s := (cvaRead s firmwareAgent c (field d 256 64) (32 * n)).2
  let s := mordUpdate (mordUpdate s filledId 0 4 (locDevice s)) relId 0 4 (locDevice s)
  let g := stampOf s x x.disp
  let s := setWindow s k ⟨c, q, dTag d, n, filledId, relId, field d 192 32, field d 320 64, depth, slotSizeOf ls, g, 0, ls, [], 0, 0, 0,
    false, none, []⟩
  startFills (odAt s g (odKey 0x2200 3)) (nibEnd s c q x d .ok) k

/-- The slot region, the mordants and every layer of a WINDOW_OPEN are as R177 to R179 ask; CONSUMERS is used by no resident window
(R188). -/
def windowFits (s : State) (c : Nat) (d : Nat) (ls : List (Nat × Nat × Nat)) (depth sizeMiB : Nat) : Bool :=
  let slots := field d 320 64
  let size := slotSizeOf ls
  mordOwned s c (field d 160 16) && mordOwned s c (field d 176 16) && decide (slots % 4096 = 0) && (windowOf s (winKey c (field d 128 4))).isNone &&
    decide (size ≤ sizeMiB * 2 ^ 20) &&
    ls.all (fun l => decide (l.2.1 ≠ 0) && decide (l.2.1 % 16 = 0) && decide (l.1 % 16 = 0) && decide (l.1 + l.2.1 ≤ cvaEnd) &&
      (decide (ls.length ≤ depth) || decide (l.2.2 ≠ 0))) &&
    pinnedOk s c slots (depth * size) .read && pinnedOk s c slots (depth * size) .write && inPlaced s c slots (depth * size)

/-- WINDOW_OPEN (R177-R179), with the first status of R20 that applies: what the table holds is known only where it can be read. -/
def doWindowOpen (s : State) (c q : Nat) (x : Queue) (d : Nat) : State :=
  let n := field d 144 16
  let tab := field d 256 64
  if n = 0 ∨ 4096 < n ∨ tab % 32 ≠ 0 ∨ pinnedOk s c tab (32 * n) .read = false then nibEnd s c q x d .range
  else if !cvaFree s c tab (32 * n) then askRanges s (saParts s c tab (32 * n))
  else if (cvaBytes s c tab (32 * n)).2 then nibEnd s c q x d .poison
  else
    let ls := layerTable s c tab n
    let cfg := stamped s x
    let depth := cfg.getD 9 12
    if ls.any (fun l => decide (l.2.1 = 2 ^ 40 - 1)) then nibEnd s c q x d .reservedLength
    else if !windowFits s c d ls depth (cfg.getD 10 8192) then nibEnd s c q x d .range
    else if 256 ≤ s.q.windows.length then nibEnd s c q x d .throttled
    else windowOpens s c q x d ls depth

/-- WINDOW_OPEN (R177-R179). -/
def execWindowOpen (c : Ctx) (q : QNum) (s : State) : Host.Outcome State Fault Refusal :=
  effectOn s (dispatchAs s c.toNat q.val [1] (fun d => dOp d = 4) (fun s x d => doWindowOpen s c.toNat q.val x d))

/-- A window after the close: fills with no bound descriptor are dropped (R189). -/
def closedWindow (w : Window) (closer : Nat × Nat) : Window :=
  let live := (w.fills.filter (fun f => decide (f.bound = []) && f.started && !f.done)).length
  { w with fills := w.fills.filter (fun f => decide (f.bound ≠ [])), closed := true, inFlight := w.inFlight - live, closer := some closer }

/-- WINDOW_CLOSE (R189): fills with no bound descriptor are dropped, those with one start, and the close waits for the bound descriptors.
A window that is not open gives RANGE, as for a descriptor after the close (log entry 41). -/
def doWindowClose (s : State) (c q : Nat) (x : Queue) (d : Nat) : State :=
  let k := winKey c (field d 128 4)
  match windowOf s k with
  | none => nibEnd s c q x d .range
  | some w =>
    if w.closed then nibEnd s c q x d .range
    else
      let s := (w.fills.filter (fun f => decide (f.bound = []))).foldl (fun s f => dropStreams s (.fill k f.g)) s
      let s := addJob s c q x d (.close k) none
      settleClose (startFills (flightLimit s w) (setWindow s k (closedWindow w (qKey c q, x.disp))) k) k

/-- WINDOW_CLOSE (R189). -/
def execWindowClose (c : Ctx) (q : QNum) (s : State) : Host.Outcome State Fault Refusal :=
  effectOn s (dispatchAs s c.toNat q.val [1] (fun d => dOp d = 5) (fun s x d => doWindowClose s c.toNat q.val x d))

end Sys2Proof.Machine
end

