-- ==== Sys2Proof/Machine/NibExec.lean ====
section
/-! DEFINITION. MATMUL (R158-R161, R169-R174), its tasks, the sampled shadow check and promotion (R125-R146), and the completion
of descriptors of every KIND. -/

namespace Sys2Proof.Machine

/-! ## NOP -/

/-- NOP (R156): of a queue of any KIND. -/
def execNop (c : Ctx) (q : QNum) (s : State) : Host.Outcome State Fault Refusal :=
  effectOn s (dispatchAs s c.toNat q.val [1, 2, 3, 4, 5, 6, 7] (fun d => dOp d = 0) (fun s x d =>
    addJob s c.toNat q.val x d .plain (some (plainRecord x.kind .ok d))))

/-! ## Matrix images (R160) -/

/-- Tiles of a strip for a reduction of `k` elements. -/
def stripTiles (f k : Nat) : Nat := ceilDiv k (fmtDepth f)

/-- Segments of a strip: 64 tiles each. -/
def stripSegs (f k : Nat) : Nat := ceilDiv (stripTiles f k) 64

/-- An image of the format begins with a strip index. -/
def indexed (f : Nat) : Bool := decide (f ≤ 2)

/-- Bytes of the strip index, padded to 16. -/
def indexBytes (f k strips : Nat) : Nat := if indexed f then roundUp (4 * stripSegs f k * strips) 16 else 0

/-- Bytes of a tile's planes of fixed length. -/
def planeBytes (f : Nat) : Nat := (tilePlanes f).1 + (tilePlanes f).2.1 + (tilePlanes f).2.2

/-- Length of the tile at a CVA. -/
def tileLenAt (s : State) (c f a : Nat) : Nat := tileLen f (cvaBytes s c a (planeBytes f)).1

/-- Addresses of up to `n` tiles that follow each other from `a`. -/
def walkTiles (s : State) (c f : Nat) : (n a : Nat) → List Nat
  | 0, _ => []
  | n + 1, a => a :: walkTiles s c f n (a + tileLenAt s c f a)

/-- Addresses of the tiles of a strip. -/
def tileAddrs (s : State) (c f k base strip : Nat) : List Nat :=
  let kt := stripTiles f k
  if indexed f then
    ((List.range (stripSegs f k)).map (fun g =>
      let e := leAt (cvaBytes s c (base + 4 * (strip * stripSegs f k + g)) 4).1 0 4
      walkTiles s c f (min 64 (kt - 64 * g)) (base + 16 * e))).flatten
  else (List.range kt).map (fun t => base + (strip * kt + t) * planeBytes f)

/-- CVA ranges of a strip's tiles. -/
def stripRanges (s : State) (c f k base strip : Nat) : List (Nat × Nat) :=
  (tileAddrs s c f k base strip).map (fun a => (a, tileLenAt s c f a))

/-- CVA range of an image's strip index. -/
def indexRange (f k base strips : Nat) : List (Nat × Nat) := if indexed f then [(base, indexBytes f k strips)] else []

/-- Elements of the reduction in one slice of 16,384 beats (R170); a slice is a whole number of segments. -/
def sliceLen (f : Nat) : Nat := if f = 0 ∨ f = 1 then 16384 else if f = 2 then 32768 else if f = 3 then 65536 else if f = 7 then 1024 else 4096

/-- Slices of the reduction for a weight format. -/
def slicesOf (f k : Nat) : Nat := ceilDiv k (sliceLen f)

/-- Tiles of a strip that a slice covers. -/
def sliceTiles (f : Nat) : Nat := sliceLen f / fmtDepth f

/-- CVA ranges of the tiles of a strip in a slice (R171). -/
def sliceRanges (s : State) (c f k base strip slice : Nat) : List (Nat × Nat) :=
  ((stripRanges s c f k base strip).drop (slice * sliceTiles f)).take (sliceTiles f)

/-- CVA range of the strip index that a slice of a strip uses (R160). -/
def sliceIndex (f k base strip slice : Nat) : List (Nat × Nat) :=
  let g := slice * sliceTiles f / 64
  if indexed f then [(base + 4 * (strip * stripSegs f k + g), 4 * min (sliceTiles f / 64) (stripSegs f k - g))] else []

/-- An image lies wholly in pinned ranges. -/
def imagePinned (s : State) (c f k base strips : Nat) : Bool :=
  (indexRange f k base strips).all (fun r => pinnedOk s c r.1 r.2 .read) &&
    (List.range strips).all (fun t => (stripRanges s c f k base t).all (fun r => pinnedOk s c r.1 r.2 .read))

/-! ## The fields of a MATMUL -/

/-- K. -/
def mK (m : MatmulSt) : Nat := m.kblocks * 32

/-- N. -/
def mN (m : MatmulSt) : Nat := m.strips * 64

/-- Row groups of 64 rows. -/
def mGroups (m : MatmulSt) : Nat := ceilDiv m.m 64

/-- A MATMUL whose weights are F4, I4, T2 or B1 is sampled (R130). -/
def mChecked (m : MatmulSt) : Bool := decide (m.wfmt ≤ 3)

/-- EPI takes an operand E (R161). -/
def epiTakesE (e : Nat) : Bool := decide (e = 4) || decide (e = 5) || decide (e = 6)

/-- Output tiles. -/
def mTiles (m : MatmulSt) : Nat := m.strips * mGroups m

/-- Rows of a row group. -/
def groupRows (m : MatmulSt) (g : Nat) : List Nat := (List.range 64).map (· + 64 * g) |>.filter (fun r => decide (r < m.m))

/-- CVA ranges of rows: first address, pitch, bytes of a row. -/
def rowRanges (a pitch bytes : Nat) (rows : List Nat) : List (Nat × Nat) := rows.map (fun r => (a + r * pitch, bytes))

/-- CVA ranges that the tile of a strip and row group writes: elements, then scales (R160). -/
def outRanges (m : MatmulSt) (strip g : Nat) : List (Nat × Nat) :=
  let eb := fmtBits m.ofmt / 8
  ((groupRows m g).map (fun r =>
    (m.oaddr + r * m.opitch + strip * 64 * eb, 64 * eb) ::
      (if fmtScaled m.ofmt then [(m.oaddr + r * m.opitch + mN m * eb + strip * 2, 2)] else []))).flatten

/-- Every page of some CVA ranges is pinned and holds a right. -/
def allPinned (s : State) (c : Nat) (rs : List (Nat × Nat)) (r : Right) : Bool := rs.all (fun p => pinnedOk s c p.1 p.2 r)

/-- Every line of some CVA ranges can be served at once. -/
def allFree (s : State) (c : Nat) (rs : List (Nat × Nat)) : Bool := rs.all (fun p => cvaFree s c p.1 p.2)

/-- Every line of some CVA ranges can be written at once. -/
def allTake (s : State) (c : Nat) (rs : List (Nat × Nat)) : Bool := rs.all (fun p => cvaTakes s c p.1 p.2)

/-- Ask adapters for the lines of CVA ranges that are to be read, and of those that are to be written. -/
def askAll (s : State) (c : Nat) (reads writes : List (Nat × Nat)) : State :=
  writes.foldl (fun s p => askWrites s (saParts s c p.1 p.2)) (reads.foldl (fun s p => askRanges s (saParts s c p.1 p.2)) s)

/-- Some line of CVA ranges is poisoned. -/
def anyPoison (s : State) (c : Nat) (rs : List (Nat × Nat)) : Bool := rs.any (fun p => (cvaBytes s c p.1 p.2).2)

/-- The agent of a Nib cluster of the device (R288, R35). -/
def nibAgent (cluster : Nat) : Nat := cluster / 12 * 14 + cluster % 12

/-- A Nib cluster reads CVA ranges through its cache (R45, R46). -/
def readAll (s : State) (cluster c : Nat) (rs : List (Nat × Nat)) : State := rs.foldl (fun s p => clusterRead s (nibAgent cluster) c p.1 p.2) s

/-- Read the fields of a MATMUL from its descriptor and its operand block (R158, R159); the weights' place is filled in later. -/
def matmulOf (d ob : Nat) (cfg : List Nat) : MatmulSt where
  wfmt := field d 128 4
  afmt := field d 132 4
  ofmt := field d 136 4
  refFmt := field d 140 4
  tensor := bitOf d 144
  mode := field d 145 2
  roll := bitOf d 147
  epi := field d 149 3
  thresh := field d 160 16
  layer := field d 176 16
  m := field d 192 20
  strips := field d 224 15
  kblocks := field d 240 16
  wref := 0
  bound := none
  aaddr := field d 320 64
  oaddr := field d 384 64
  refAddr := field ob 0 64
  amax := field ob 64 64
  eaddr := field ob 128 64
  alpha := field ob 192 64
  beta := field ob 256 64
  apitch := field ob 320 32
  opitch := field ob 352 32
  epitch := field ob 384 32
  cfg := cfg
  amaxCur := none
  parts := []
  tilesDone := []
  sampled := []
  compared := []
  failed := 0
  eps := 0
  kept := []
  refRead := []
  sat := 0
  esc := 0
  nonfin := 0
  tileEsc := []
  amaxSeen := []
  promo := 0
  promoting := false

/-- Check 2 of R157 on the descriptor's own fields. -/
def matmulFields (d : Nat) : Bool :=
  let m := matmulOf d 0 []
  fmtLegal m.wfmt m.afmt m.ofmt && decide (m.mode ≠ 3) && decide (m.epi ≠ 7) && decide (m.m ≠ 0) && decide (1 ≤ m.strips) &&
    decide (m.strips ≤ 16384) && decide (1 ≤ m.kblocks) && decide (m.kblocks ≤ 32768) &&
    (!mChecked m || decide (m.refFmt = 4) || decide (m.refFmt = 6)) && decide (m.aaddr % 16 = 0) && decide (m.oaddr % 16 = 0) &&
    decide (field d 448 64 % 64 = 0) && (bitOf d 148 || decide (field d 256 64 % 16 = 0))

/-- A pitch: a multiple of 16, at least the row (R159). -/
def pitchOk (pitch row : Nat) : Bool := decide (pitch % 16 = 0) && decide (row ≤ pitch)

/-- Checks 2 and 3 of R157 on the operand block and on every CVA that it names. EADDR, ALPHA_ADDR and BETA_ADDR need no alignment (R159 gives
none; log entry 17). -/
def operandsOk (s : State) (c : Nat) (m : MatmulSt) : Bool :=
  let arow := rowBytes m.afmt (mK m)
  let orow := rowBytes m.ofmt (mN m)
  let rows := List.range m.m
  pitchOk m.apitch arow && pitchOk m.opitch orow && (!epiTakesE m.epi || pitchOk m.epitch (2 * mN m)) &&
    (!m.tensor || decide (m.amax ≠ 0)) && decide (m.amax % 16 = 0) &&
    (decide (m.amax = 0) || (pinnedOk s c m.amax 16 .atomic && (!m.tensor || pinnedOk s c m.amax 16 .read))) &&
    allPinned s c (rowRanges m.aaddr m.apitch arow rows) .read && allPinned s c (rowRanges m.oaddr m.opitch orow rows) .write &&
    (!epiTakesE m.epi || allPinned s c (rowRanges m.eaddr m.epitch (2 * mN m) rows) .read) &&
    (decide (m.wfmt ≠ 3) || (pinnedOk s c m.alpha (4 * mN m) .read && pinnedOk s c m.beta (4 * m.m) .read)) &&
    (!mChecked m || (decide (m.refAddr % 16 = 0) && imagePinned s c m.refFmt (mK m) m.refAddr m.strips))

/-! ## Dispatch -/

/-- Values of R137 for a MATMUL: sample interval, floor exponent, sampling mode, saturation limit, margin exponent. -/
def mCfg (m : MatmulSt) (i : Nat) : Nat := m.cfg.getD i 0

/-- The sampled tiles: one of every group of N tiles in issue order (R131). -/
def chooseSamples (s : State) (m : MatmulSt) : List Nat × State :=
  if !mChecked m then ([], s)
  else
    let n := max (mCfg m 0) 1
    (List.range (ceilDiv (mTiles m) n)).foldl (fun r g =>
      let size := min n (mTiles m - g * n)
      if mCfg m 2 = 1 then (r.1 ++ [g * n], r.2)
      else
        let (k, s) := draw r.2
        (r.1 ++ [g * n + k % size], s)) ([], s)

/-- The tasks of a MATMUL (R170): one strip and a band of eight row groups, or eight strips of the one row group, for each slice. -/
def tasksOf (m : MatmulSt) (c qkey idx : Nat) : List Task :=
  let slices := slicesOf m.wfmt (mK m)
  let g := mGroups m
  let cuts : List (Nat × Nat × Nat × Nat) :=
    if g ≤ 1 then (List.range (ceilDiv m.strips 8)).map (fun i => (8 * i, min 8 (m.strips - 8 * i), 0, 1))
    else ((List.range m.strips).map (fun t => (List.range (ceilDiv g 8)).map (fun b => (t, 1, 8 * b, min 8 (g - 8 * b))))).flatten
  (cuts.map (fun k => (List.range slices).map (fun sl =>
    (⟨qkey, idx, c, k.1, k.2.1, k.2.2.1, k.2.2.2, sl, none⟩ : Task)))).flatten

/-- Put tasks on the boards. -/
def addTasks (s : State) (l : List Task) : State :=
  l.foldl (fun s t => { s with q.tasks := tblSet s.q.tasks s.q.nextTask t, q.nextTask := s.q.nextTask + 1 }) s

/-- Complete a MATMUL at dispatch without arithmetic; its record carries its LAYER_ID (R169). -/
def matmulEnd (s : State) (c q : Nat) (x : Queue) (d : Nat) (st : Status) : State :=
  addJob s c q x d .plain (some (recHead st (dOp d) (dTag d) + field d 176 16 * 2 ^ 32))

/-- A descriptor bound to a fill that failed (R187): it completes with the fill's status, and counts among its consumers. -/
def matmulFailed (s : State) (c q : Nat) (x : Queue) (d : Nat) (k g : Nat) (st : Status) : State :=
  let m := { matmulOf d 0 [] with bound := some (k, g) }
  addJob s c q x d (.matmul m) (some (recHead st (dOp d) (dTag d) + m.layer * 2 ^ 32))

/-- A MATMUL that is dispatched leaves the head of its queue: a bound one waits there no more. -/
def leaveHead (s : State) (c q : Nat) (bound : Option (Nat × Nat)) : State :=
  match bound with
  | some (k, _) => unwait s k (qKey c q)
  | none => s

/-- A MATMUL that ends at dispatch, without arithmetic (R157); one that is bound counts among its fill's consumers (R184, R187). -/
def matmulStops (s : State) (c q : Nat) (x : Queue) (d : Nat) (bound : Option (Nat × Nat)) (st : Status) : State :=
  match bound with
  | some (k, g) => matmulFailed (leaveHead s c q bound) c q x d k g st
  | none => matmulEnd s c q x d st

/-- A MATMUL whose checks have passed: its operand block has been read, its sampled tiles are drawn (R131), and its tasks are on the
boards (R170). -/
def matmulBegins (s : State) (c q : Nat) (x : Queue) (d : Nat) (m : MatmulSt) : State :=
  let s := leaveHead (cvaRead s firmwareAgent c (field d 448 64) 64).2 c q m.bound
  let (smp, s) := chooseSamples s m
  addTasks (addJob s c q x d (.matmul { m with sampled := smp }) none) (tasksOf m c (qKey c q) x.disp)

/-- Start a MATMUL whose weights lie at a CVA (R157, R170): what the operand block holds is known only where it is not poisoned (R20). -/
def startMatmul (s : State) (c q : Nat) (x : Queue) (d : Nat) (wref : Nat) (bound : Option (Nat × Nat)) : State :=
  let opb := field d 448 64
  if !pinnedOk s c opb 64 .read then matmulStops s c q x d bound .range
  else if !cvaFree s c opb 64 then askRanges s (saParts s c opb 64)
  else
    let ob := cvaBytes s c opb 64
    let m := { matmulOf d (leNat ob.1) (stamped s x) with wref := wref, bound := bound }
    if ob.2 then matmulStops s c q x d bound .poison
    else if !operandsOk s c m || !imagePinned s c m.wfmt (mK m) wref m.strips then matmulStops s c q x d bound .range
    else matmulBegins s c q x d m

/-- Dispatch a MATMUL (R157, R158, R183, R187). One that is refused on its own fields is bound to no fill (log entry 86). -/
def doMatmul (s : State) (c q : Nat) (x : Queue) (d : Nat) : State :=
  if !matmulFields d then matmulEnd s c q x d .range
  else if bitOf d 148 then
    let win := field d 256 4
    let k := winKey c win
    match bindFill s c q x.disp win (field d 260 12) with
    | .bad => matmulEnd s c q x d .range
    | .wait s => s
    | .failed s g st => matmulStops s c q x d (some (k, g)) st
    | .ready s g =>
      match windowOf s k with
      | none => matmulEnd s c q x d .range
      | some w =>
        let off := 16 * field d 272 32
        if (fillLayer w g).2.1 ≤ off then matmulStops s c q x d (some (k, g)) .range
        else startMatmul s c q x d (slotAddr w g + off) (some (k, g))
  else startMatmul s c q x d (field d 256 64) none

/-- MATMUL (R158). -/
def execMatmul (c : Ctx) (q : QNum) (s : State) : Host.Outcome State Fault Refusal :=
  effectOn s (dispatchAs s c.toNat q.val [1] (fun d => dOp d = 1) (fun s x d => doMatmul s c.toNat q.val x d))

/-! ## Tasks (R170-R174) -/

/-- Nib share weight of a context (R173). -/
def nibWeight (s : State) (c : Nat) : Nat := odGet s (odCtx 0x2220 c)

/-- Nib cluster `n` of the device: die and cluster. -/
def nibCluster (n : Nat) : Nat × Nat := (n / 12, n % 12)

/-- What has been handed out to each of the contexts that have work ready, since these contexts last changed. -/
def shareTable (handed : Tbl Nat) (ready : List Nat) : Tbl Nat :=
  let cs := ready.dedup.mergeSort
  if handed.map (·.1) = cs then handed else cs.map (fun c => (c, 0))

/-- In proportion to the weights, a context is ahead of no other one by more than a lead (log entry 87). -/
def inShare (weight : Nat → Nat) (tab : Tbl Nat) (c lead : Nat) : Bool :=
  tab.all (fun e => decide (tblGet 0 tab c * weight e.1 ≤ (e.2 + lead) * weight c))

/-- Clusters handed out to each context of a weight that has tasks ready. -/
def handedOut (s : State) : Tbl Nat :=
  shareTable s.q.handed (((s.q.tasks.filter (fun e => e.2.cluster.isNone)).map (·.2.ctx)).filter (fun c => decide (nibWeight s c ≠ 0)))

/-- A context may get the next cluster (R173): in proportion to the weights it is ahead of no other context by more than a device's
clusters; weight 0 gets one only when no other context has tasks ready. -/
def mayHand (s : State) (c : Nat) : Bool :=
  if nibWeight s c = 0 then !s.q.tasks.any (fun e => e.2.cluster.isNone && decide (e.2.ctx ≠ c))
  else inShare (nibWeight s) (handedOut s) c 288

/-- Nibs of a cluster that take work. -/
def nibsUp (s : State) (cluster : Nat) : Nat :=
  ((List.range 8).filter (engineUp s (nibCluster cluster).1 (nibCluster cluster).2)).length

/-- The parts of a task that a cluster of `n` Nibs takes and leaves: one row group for each Nib, or one strip for each (R170, R174). -/
def splitTask (t : Task) (n : Nat) : Task × Option Task :=
  if t.groups ≤ n ∧ t.strips ≤ n then (t, none)
  else if n < t.groups then ({ t with groups := n }, some { t with group := t.group + n, groups := t.groups - n })
  else ({ t with strips := n }, some { t with strip := t.strip + n, strips := t.strips - n })

/-- A ready task takes a cluster. -/
def startTask (s : State) (task : Nat) (t : Task) (cluster : Nat) : State :=
  let h := handedOut s
  let (mine, rest) := splitTask t (nibsUp s cluster)
  let s := { s with q.tasks := tblSet s.q.tasks task { mine with cluster := some cluster },
                    q.handed := if nibWeight s t.ctx = 0 then h else tblSet h t.ctx (tblGet 0 h t.ctx + 1) }
  match rest with
  | some r => addTasks s [r]
  | none => s

/-- TASK_START (R173, R174): a ready task takes a free cluster. -/
def execTaskStart (cluster : Fin 288) (task : Nat) (s : State) : Host.Outcome State Fault Refusal :=
  effectOn s (
    match tblFind s.q.tasks task with
    | none => s
    | some t =>
      if t.cluster.isSome || s.q.tasks.any (fun e => decide (e.2.cluster = some cluster.val)) ||
          !admitting s || !clusterUp s (nibCluster cluster.val).1 (nibCluster cluster.val).2 || !ctxActive s t.ctx || !mayHand s t.ctx then s
      else startTask s task t cluster.val)

/-- Drop the tasks of a job. -/
def dropTasks (s : State) (qkey idx : Nat) : State :=
  { s with q.tasks := s.q.tasks.filter (fun e => !(decide (e.2.qkey = qkey) && decide (e.2.idx = idx))) }

/-- Blocks of an activation row; for a B1 reference run, each element is ±β of its row (R132). -/
def actBlock (s : State) (c : Nat) (m : MatmulSt) (reference : Bool) (r b : Nat) : Block :=
  let row := (cvaBytes s c (m.aaddr + r * m.apitch) (rowBytes m.afmt (mK m))).1
  let blk := rowBlock m.afmt (mK m) row b
  if reference && decide (m.wfmt = 3) then
    { blk with scale := decF32 (leAt (cvaBytes s c (m.beta + 4 * r) 4).1 0 4) }
  else blk

/-- The image bytes of a strip's tiles in a slice. -/
def sliceImages (s : State) (c f k base strip slice : Nat) : List Bytes :=
  (sliceRanges s c f k base strip slice).map (fun r => (cvaBytes s c r.1 r.2).1)

/-- Weight block `b` of a slice along the reduction, of column `n` of a strip. -/
def weightBlock (f : Nat) (imgs : List Bytes) (n b : Nat) : Block :=
  let per := fmtDepth f / 32
  tileBlock f (imgs.getD (b / per) []) n (b % per)

/-- Blocks of a slice of the reduction: numbers within the slice. -/
def sliceBlocks (f k slice : Nat) : List Nat :=
  let per := sliceLen f / 32
  (List.range per).filter (fun b => decide (per * slice + b < k / 32))

/-- The blocks of an activation row in a slice. -/
def rowBlocks (s : State) (c : Nat) (m : MatmulSt) (f : Nat) (reference : Bool) (r slice : Nat) : List Block :=
  (sliceBlocks f (mK m) slice).map (fun b => actBlock s c m reference r (sliceLen f / 32 * slice + b))

/-- The blocks of a weight column in a slice. -/
def columnBlocks (f k : Nat) (imgs : List Bytes) (n slice : Nat) : List Block := (sliceBlocks f k slice).map (weightBlock f imgs n)

/-- Partial sums of a tile over a slice: one for each row of the group and each of 64 columns, row by row; slices are as long as R170 lets
them be, and one is summed in depth order (log entry 88). -/
def tilePart (s : State) (c : Nat) (m : MatmulSt) (f : Nat) (reference : Bool) (imgs : List Bytes) (rows : List Nat) (slice : Nat) :
    List Fl × List Int :=
  let pairs (r n : Nat) : List (Block × Block) := (columnBlocks f (mK m) imgs n slice).zip (rowBlocks s c m f reference r slice)
  if f = 3 then ([], (rows.map (fun r => (List.range 64).map (fun n => sliceB1 (pairs r n)))).flatten)
  else ((rows.map (fun r => (List.range 64).map (fun n => sliceSum f (pairs r n)))).flatten, [])

/-- Escapes consumed and malformed blocks met by an output tile in a slice: of the weights and of the activation rows (R105, R111). -/
def sliceCounts (s : State) (c : Nat) (m : MatmulSt) (f : Nat) (imgs : List Bytes) (rows : List Nat) (slice : Nat) : Nat × Nat :=
  let ws := ((List.range 64).map (fun n => columnBlocks f (mK m) imgs n slice)).flatten
  let as := (rows.map (fun r => rowBlocks s c m f false r slice)).flatten
  ((ws.map (·.escapes)).sum, (ws.map (·.malformed)).sum + (as.map (·.malformed)).sum)

/-- NIB_MALFORMED for each weight tile of a slice with malformed escape data (R111): the descriptor's layer ID, the strip, the tile. -/
def logMalformed (s : State) (m : MatmulSt) (strip slice : Nat) (imgs : List Bytes) : State :=
  let per := fmtDepth m.wfmt / 32
  (List.range imgs.length).foldl (fun s i =>
    let bs := ((List.range 64).map (fun n => ((sliceBlocks m.wfmt (mK m) slice).filter (fun b => decide (b / per = i))).map
      (weightBlock m.wfmt imgs n))).flatten
    if bs.any (fun b => decide (b.badLanes ≠ 0)) then logEv s "NIB_MALFORMED" [m.layer, strip, slice * sliceTiles m.wfmt + i] else s) s

/-- The accumulated FP32 values of an output tile (R113-R115, R119): its slices combined in the device's order, for B1 the INT32
sum times α and β. -/
def combineTile (s : State) (c : Nat) (m : MatmulSt) (f strip : Nat) (rows : List Nat) (ps : List (List Fl × List Int)) : List Fl × State :=
  let ix := (rows.zip (List.range rows.length)).map (fun p => (List.range 64).map (fun n => (p.1, n, p.2 * 64 + n))) |>.flatten
  if f = 3 then
    (ix.map (fun e =>
      let acc := (ps.map (fun p => p.2.getD e.2.2 0)).sum
      b1Result acc (decF32 (leAt (cvaBytes s c (m.alpha + 4 * (strip * 64 + e.2.1)) 4).1 0 4))
        (decF32 (leAt (cvaBytes s c (m.beta + 4 * e.1) 4).1 0 4))), s)
  else (ix.map (fun e => combineSums s.free (ps.map (fun p => p.1.getD e.2.2 flZero))), { s with free := s.free + 1 })

/-- Epilogue operands of a tile's outputs, row by row. -/
def epiOperand (s : State) (c : Nat) (m : MatmulSt) (strip r n : Nat) : Fl :=
  if epiTakesE m.epi then decBF16 (leAt (cvaBytes s c (m.eaddr + r * m.epitch + 2 * (strip * 64 + n)) 2).1 0 2) else flZero

/-- The magnitude that TENSOR mode scales by: A × 2^g (R122); a negative A, which only software writes, is no magnitude (log entry 16). -/
def tensorMag (a : Fl) (g : Nat) : Fl :=
  match a with
  | .fin m e => if m < 0 then .nan else flMulX (.fin m e) (.fin 1 g)
  | .inf true => .nan
  | x => x

/-- Convert and write one row of a tile (R121-R124): the new state, clamps and non-finite values. -/
def writeRow (s : State) (agent c : Nat) (m : MatmulSt) (strip r : Nat) (tensor : Option Fl) (ys : List Fl) : State × Nat × Nat :=
  let mode := (rmodeOf m.mode).getD .rne
  let b0 := convBlock m.ofmt mode tensor s.free (ys.take 32)
  let b1 := convBlock m.ofmt mode tensor (s.free + 33) (ys.drop 32)
  let s := { s with free := s.free + 66 }
  let eb := fmtBits m.ofmt / 8
  let row := m.oaddr + r * m.opitch
  let s := cvaWrite s agent c (row + strip * 64 * eb) (b0.1 ++ b1.1)
  let s := if fmtScaled m.ofmt then cvaWrite s agent c (row + mN m * eb + strip * 2) (natLe 1 b0.2.1 ++ natLe 1 b1.2.1) else s
  (s, b0.2.2.1 + b1.2.2.1, b0.2.2.2 + b1.2.2.2)

/-- Outputs of a tile after the epilogue. -/
def tileOutputs (s : State) (c : Nat) (m : MatmulSt) (strip : Nat) (rows : List Nat) (acc : List Fl) : List (Nat × List Fl) × State :=
  ((rows.zip (List.range rows.length)).map (fun p =>
    (p.1, (List.range 64).map (fun n =>
      epilogue m.epi (Config.freeNat (s.free + p.2 * 64 + n)) (acc.getD (p.2 * 64 + n) flZero) (epiOperand s c m strip p.1 n)))),
    { s with free := s.free + 4096 })

/-- A 32-bit counter of a descriptor after some events; it holds at its largest value (log entry 89). -/
def count32 (n k : Nat) : Nat := capTo 32 (n + k)

/-- Convert and write an output tile on a cluster; the running counts of the descriptor follow. An output that is not finite after
accumulation counts (R118), as does one that is not finite at its conversion (R123): once each. -/
def convertTile (s : State) (c : Nat) (m : MatmulSt) (cluster strip : Nat) (rows : List Nat) (acc : List Fl) (tensor : Option Fl) :
    State × MatmulSt :=
  let (ys, s) := tileOutputs s c m strip rows acc
  let all := (ys.map (·.2)).flatten
  let mended := ((acc.zip all).filter (fun p => !flFinite p.1 && flFinite p.2)).length
  let r := ys.foldl (fun (p : State × Nat × Nat) y =>
    let w := writeRow p.1 (nibAgent cluster) c m strip y.1 tensor y.2
    (w.1, p.2.1 + w.2.1, p.2.2 + w.2.2)) (s, 0, 0)
  (r.1, { m with sat := count32 m.sat (min r.2.1 0xFFFF), nonfin := count32 m.nonfin (r.2.2 + mended),
                 amaxSeen := tblSet m.amaxSeen cluster (maxFinite (tblGet flZero m.amaxSeen cluster :: all)) })

/-! ## Amax (R125-R129) -/

/-- An atomic that an agent of the device issues on a store address (R307, R308): executed at once where the home can serve its line, else
from a reserved place. -/
def ownAtomic (s : State) (agent c sa : Nat) (kind : ReqKind) (aop op1 : Nat) : State :=
  let sa := fwdSa s sa
  let line := sa / 128
  let t : Txn := ⟨kind, agent, c, genNow s, sa, if kind = .roll then 16 else 4, [], 0, aop, false, false, op1, 0, [], none, false, false, .agent, none⟩
  if lineTakes s line then (doAtomic (recallLine (homeAsked s agent c line) line) line t).2.2
  else
    let s := askHolders (countReq s line c agent) line
    { s with coh.nextTick := (s.coh.nextTick + 1) % 65536,
             coh.tickets := s.coh.tickets ++ [⟨s.coh.nextTick, agent, line, s.now, some t⟩] }

/-- The largest finite |y| of a descriptor over all its clusters. -/
def amaxAll (m : MatmulSt) : Fl := maxFinite (m.amaxSeen.map (·.2))

/-- The maximum of each Nib cluster, and the roll of the descriptor after them (R126, R127). -/
def amaxUpdate (s : State) (c : Nat) (m : MatmulSt) : State :=
  match (if m.amax = 0 then none else cvaSa s c m.amax) with
  | none => s
  | some sa =>
    let s := m.amaxSeen.foldl (fun s e => ownAtomic s (nibAgent e.1) c sa .atom 0x05 (encF32 0 e.2)) s
    if m.roll then ownAtomic s (nibAgent ((m.amaxSeen.map (·.1)).headD 0)) c sa .roll 0x10 0 else s

/-- The amax slot of a descriptor, which it updates. -/
def amaxRange (m : MatmulSt) : List (Nat × Nat) := if m.amax = 0 then [] else [(m.amax, 16)]

/-! ## The end of a MATMUL -/

/-- The completion record of a MATMUL (R169); its 32-bit counts hold at all ones (log entry 89). -/
def matmulRecord (op tag : Nat) (st : Status) (m : MatmulSt) : Nat :=
  recHead st op tag + m.layer * 2 ^ 32 + m.eps * 2 ^ 48 + capTo 32 m.sat * 2 ^ 64 + capTo 32 m.esc * 2 ^ 96 + capTo 32 m.nonfin * 2 ^ 128 +
    capTo 32 m.compared.length * 2 ^ 160 + capTo 32 m.failed * 2 ^ 192 + m.promo * 2 ^ 224

/-- Put back the state of a MATMUL's job. -/
def setMatmul (s : State) (c q i : Nat) (m : MatmulSt) : State := jobUpd s c q i (fun j => { j with body := .matmul m })

/-- Device-wide counters that sum all descriptors (R146). -/
def sumCounters (s : State) (m : MatmulSt) : State :=
  odBump (odBump (odBump s (odKey 0x2101 5) m.sat) (odKey 0x2101 6) m.esc) (odKey 0x2101 7) m.nonfin

/-- The work of a MATMUL ends. -/
def endMatmul (s : State) (j : Job) (m : MatmulSt) (st : Status) : State :=
  jobEnd (setMatmul (sumCounters s m) j.ctx j.queue j.idx m) j.ctx j.queue j.idx (matmulRecord j.op j.tag st m)

/-- The saturation check (R135). -/
def satFails (m : MatmulSt) : Bool := decide (mCfg m 3 * (m.m * mN m) < m.sat * 65536)

/-- All tiles are converted and all samples compared: the descriptor is promoted (R139, R143), or its work has ended. -/
def decideMatmul (s : State) (j : Job) (m : MatmulSt) : State :=
  if m.tilesDone.length = mTiles m ∧ m.compared.length = m.sampled.length ∧ m.promoting = false then
    let promo := if mChecked m then (if m.failed = 0 then 0 else 1) + (if satFails m then 2 else 0) else 0
    if promo = 0 then endMatmul (amaxUpdate s j.ctx m) j m .ok
    else
      let m := { m with promo := promo, promoting := true }
      let s := logEv (odBump s (odKey 0x2101 4) 1) "NIB_PROMOTED" [m.layer, promo]
      setMatmul s j.ctx j.queue j.idx m
  else setMatmul s j.ctx j.queue j.idx m

/-- The work of a MATMUL ends early: a poisoned operand, or a context that is no longer ACTIVE. -/
def abandonMatmul (s : State) (j : Job) (m : MatmulSt) (st : Status) : State :=
  endMatmul (dropTasks s (qKey j.ctx j.queue) j.idx) j m st

/-- Rows of a task. -/
def taskRows (m : MatmulSt) (t : Task) : List Nat := ((List.range t.groups).map (fun g => groupRows m (t.group + g))).flatten

/-- The CVA ranges a task reads: of each strip the tiles of its slice, once (R171). -/
def taskReads (s : State) (c : Nat) (m : MatmulSt) (t : Task) : List (Nat × Nat) :=
  let rows := taskRows m t
  ((List.range t.strips).map (fun i => sliceIndex m.wfmt (mK m) m.wref (t.strip + i) t.slice ++
    sliceRanges s c m.wfmt (mK m) m.wref (t.strip + i) t.slice)).flatten ++
    rowRanges m.aaddr m.apitch (rowBytes m.afmt (mK m)) rows ++
    (if epiTakesE m.epi then rowRanges m.eaddr m.epitch (2 * mN m) rows else []) ++
    (if m.wfmt = 3 then [(m.alpha, 4 * mN m), (m.beta, 4 * m.m)] else []) ++ amaxRange m

/-- The CVA ranges a task may write. -/
def taskWrites (m : MatmulSt) (t : Task) : List (Nat × Nat) :=
  amaxRange m ++ ((List.range t.strips).map (fun i => ((List.range t.groups).map (fun g => outRanges m (t.strip + i) (t.group + g))).flatten)).flatten

/-- Number of an output tile in issue order (R172). -/
def tileNo (m : MatmulSt) (strip g : Nat) : Nat := strip * mGroups m + g

/-- Key of a tile's partial sums over a slice. -/
def partKey (tile slice : Nat) : Nat := tile * 2 ^ 20 + slice

/-- The magnitude of TENSOR mode, none in BLOCK mode (R122). -/
def tensorOf (m : MatmulSt) (a : Fl) : Option Fl := if m.tensor then some (tensorMag a (mCfg m 4)) else none

/-- A tile whose slices have all ended is combined, kept if it is sampled, converted and written (R119, R121, R129). -/
def finishTile (s : State) (c : Nat) (m : MatmulSt) (cluster strip g : Nat) : State × MatmulSt :=
  let tile := tileNo m strip g
  let slices := slicesOf m.wfmt (mK m)
  let ps := (List.range slices).filterMap (fun i => tblFind m.parts (partKey tile i))
  if ps.length ≠ slices then (s, m)
  else
    let rows := groupRows m g
    let (acc, s) := combineTile s c m m.wfmt strip rows ps
    let cur := m.amaxCur.getD (if m.tensor then leAt (cvaBytes s c m.amax 16).1 4 4 else 0)
    let m := { m with amaxCur := some cur, parts := m.parts.filter (fun e => e.1 / 2 ^ 20 != tile), tilesDone := tblSet m.tilesDone tile cluster,
                      kept := if m.sampled.contains tile then tblSet m.kept tile acc else m.kept,
                      esc := count32 m.esc (tblGet 0 m.tileEsc tile), tileEsc := tblErase m.tileEsc tile }
    convertTile (odBump s (odKey 0x2101 1) 1) c m cluster strip rows acc (tensorOf m (decF32 cur))

/-- One tile of a task: its partial sums over the task's slice, and its escapes, which hold at 0xFFFF over all of K (R146). -/
def taskTile (s : State) (c : Nat) (m : MatmulSt) (t : Task) (imgs : List Bytes) (strip g : Nat) : State × MatmulSt :=
  let tile := tileNo m strip g
  let part := tilePart s c m m.wfmt false imgs (groupRows m g) t.slice
  let n := sliceCounts s c m m.wfmt imgs (groupRows m g) t.slice
  let m := { m with parts := tblSet m.parts (partKey tile t.slice) part,
                    tileEsc := tblSet m.tileEsc tile (min (tblGet 0 m.tileEsc tile + n.1) 0xFFFF) }
  finishTile (odBump s (odKey 0x2101 8) n.2) c m (t.cluster.getD 0) strip g

/-- One strip of a task: its tiles, row group by row group. -/
def taskStrip (s : State) (c : Nat) (m : MatmulSt) (t : Task) (strip : Nat) : State × MatmulSt :=
  let imgs := sliceImages s c m.wfmt (mK m) m.wref strip t.slice
  (List.range t.groups).foldl (fun (p : State × MatmulSt) g => taskTile p.1 c p.2 t imgs strip (t.group + g))
    (logMalformed s m strip t.slice imgs, m)

/-- TASK_END (R170-R173): a task's partial sums are formed; tiles that are complete are converted; a task of a context that is no
longer ACTIVE ends its descriptor with TORN at this boundary (R460). -/
def endTask (s : State) (task : Nat) (t : Task) : State :=
  match jobFind s (t.qkey / 16) (t.qkey % 16) t.idx with
  | none => { s with q.tasks := tblErase s.q.tasks task }
  | some j =>
    match j.body with
    | .matmul m =>
      let reads := taskReads s t.ctx m t
      if !ctxActive s t.ctx then abandonMatmul s j m .torn
      else if !allFree s t.ctx reads || !allTake s t.ctx (taskWrites m t) then askAll s t.ctx reads (taskWrites m t)
      else if anyPoison s t.ctx reads then abandonMatmul s j m .poison
      else
        let s := readAll s (t.cluster.getD 0) t.ctx reads
        let r := (List.range t.strips).foldl (fun (p : State × MatmulSt) i => taskStrip p.1 t.ctx p.2 t (t.strip + i)) (s, m)
        decideMatmul { r.1 with q.tasks := tblErase r.1.q.tasks task } j r.2
    | _ => { s with q.tasks := tblErase s.q.tasks task }

/-- TASK_END (R173). -/
def execTaskEnd (task : Nat) (s : State) : Host.Outcome State Fault Refusal :=
  effectOn s (match tblFind s.q.tasks task with
    | some t => if t.cluster.isSome && !cutOver s then endTask s task t else s
    | none => s)

/-! ## Shadow check and promotion (R130-R143) -/

/-- The accumulated values of a tile on the reference image (R132), and the malformed blocks it met. -/
def referenceTile (s : State) (c : Nat) (m : MatmulSt) (strip g : Nat) : List Fl × State :=
  let rows := groupRows m g
  let runs := (List.range (slicesOf m.refFmt (mK m))).map (fun i =>
    let imgs := sliceImages s c m.refFmt (mK m) m.refAddr strip i
    (tilePart s c m m.refFmt true imgs rows i, (sliceCounts s c m m.refFmt imgs rows i).2))
  combineTile (odBump s (odKey 0x2101 8) (runs.map (·.2)).sum) c m m.refFmt strip rows (runs.map (·.1))

/-- The CVA ranges that reference runs of tiles read: the tiles of their strips, and the operands of their rows. -/
def referenceReads (s : State) (c : Nat) (m : MatmulSt) (strips : List Nat) (rows : List Nat) : List (Nat × Nat) :=
  (strips.map (stripRanges s c m.refFmt (mK m) m.refAddr)).flatten ++ rowRanges m.aaddr m.apitch (rowBytes m.afmt (mK m)) rows ++
    (if epiTakesE m.epi then rowRanges m.eaddr m.epitch (2 * mN m) rows else []) ++
    (if m.wfmt = 3 then [(m.beta, 4 * m.m)] else [])

/-- The threshold of a MATMUL (R134). -/
def thresholdOf (m : MatmulSt) : Nat := if m.thresh = 0 then mCfg m (5 + m.wfmt) else m.thresh

/-- The cluster that converted a tile: a Nib of it makes the tile's reference run (R132). -/
def tileCluster (m : MatmulSt) (tile : Nat) : Nat := tblGet 0 m.tilesDone tile

/-- SHADOW_CHECK (R132-R136): the reference run of a sampled tile ends, and ε is compared. The reference tiles of a strip are read once
for the descriptor (R172). -/
def shadowTile (s : State) (j : Job) (m : MatmulSt) (tile : Nat) : State :=
  match tblFind m.kept tile with
  | none => s
  | some acc =>
    let strip := tile / max (mGroups m) 1
    let g := tile % max (mGroups m) 1
    let reads := referenceReads s j.ctx m (if m.refRead.contains strip then [] else [strip]) (groupRows m g)
    if m.compared.contains tile || !m.sampled.contains tile then s
    else if !allFree s j.ctx reads || !allTake s j.ctx (amaxRange m) then askAll s j.ctx reads (amaxRange m)
    else if anyPoison s j.ctx reads then abandonMatmul s j m .poison
    else
      let s := readAll s (tileCluster m tile) j.ctx reads
      let (r, s) := referenceTile s j.ctx m strip g
      let norm := errNorm (acc.zip r)
      let bad := epsExceeds norm (mCfg m 1) (thresholdOf m)
      let (n, s) := draw s
      let s := odBump s (odKey 0x2101 2) 1
      let s := if bad then odBump s (odKey 0x2101 3) 1 else s
      decideMatmul s j { m with compared := m.compared ++ [tile], failed := m.failed + (if bad then 1 else 0), refRead := addOnce m.refRead strip,
                                eps := max m.eps (epsU16 norm (mCfg m 1) (decide (n % 2 = 1))), kept := tblErase m.kept tile }

/-- The MATMUL that a job is. -/
def matmulJob (s : State) (c q i : Nat) : Option (Job × MatmulSt) :=
  match jobFind s c q i with
  | some j =>
    match j.body with
    | .matmul m => if j.result.isNone then some (j, m) else none
    | _ => none
  | none => none

/-- SHADOW_CHECK (R132-R136). -/
def execShadowCheck (c : Ctx) (q : QNum) (index : BitVec 32) (tile : Nat) (s : State) : Host.Outcome State Fault Refusal :=
  effectOn s (match matmulJob s c.toNat q.val index.toNat with
    | some (j, m) =>
      if cutOver s then s
      else if ctxActive s c.toNat then shadowTile s j m tile else abandonMatmul s j m .torn
    | none => s)

/-- One output tile of a promoted run (R139, R141), on the cluster that converted it first (log entry 87). -/
def promoteTile (s : State) (c : Nat) (m : MatmulSt) (mag : Fl) (tile : Nat) : State × MatmulSt :=
  let strip := tile / max (mGroups m) 1
  let g := tile % max (mGroups m) 1
  let (acc, s) := referenceTile s c m strip g
  convertTile (odBump s (odKey 0x2101 1) 1) c m (tileCluster m tile) strip (groupRows m g) acc (tensorOf m mag)

/-- PROMOTED_RUN_END (R139-R142): every output is written anew from the reference image; then the maximum and the roll. -/
def promotedRun (s : State) (j : Job) (m : MatmulSt) : State :=
  let c := j.ctx
  let reads := referenceReads s c m (List.range m.strips) (List.range m.m)
  let writes := amaxRange m ++
    ((List.range m.strips).map (fun t => ((List.range (mGroups m)).map (outRanges m t)).flatten)).flatten
  if !ctxActive s c then abandonMatmul s j m .torn
  else if !allFree s c reads || !allTake s c writes then askAll s c reads writes
  else if anyPoison s c reads then abandonMatmul s j m .poison
  else
    let s := readAll s (tileCluster m 0) c reads
    let r := (List.range (mTiles m)).foldl (fun (p : State × MatmulSt) t => promoteTile p.1 c p.2 (amaxAll m) t) (s, { m with amaxSeen := [] })
    endMatmul (amaxUpdate r.1 c r.2) j r.2 .promoted

/-- PROMOTED_RUN_END (R139-R142). -/
def execPromotedRunEnd (c : Ctx) (q : QNum) (index : BitVec 32) (s : State) : Host.Outcome State Fault Refusal :=
  effectOn s (match matmulJob s c.toNat q.val index.toNat with
    | some (j, m) => if m.promoting && !cutOver s then promotedRun s j m else s
    | none => s)

end Sys2Proof.Machine
end

