-- ==== Sys2Proof/Machine/AttnRow.lean ====
section
/-! DEFINITION. ATTN (R162-R167), ROWOP (R168) and the completion of descriptors (R150-R153, R184, R189). -/

namespace Sys2Proof.Machine

/-! ## Rows of values -/

/-- Formats of rows that ATTN and ROWOP take: F8E4, F8E5, I8 and BF16, and FP32 where the flag says so. -/
def rowFmt (f : Nat) (fp32 : Bool) : Bool := (decide (4 ≤ f) && decide (f ≤ 7)) || (fp32 && decide (f = 8))

/-- The values of a row of `k` elements, in FP32. -/
def rowValues (f k : Nat) (row : Bytes) : List Fl :=
  ((List.range (k / 32)).map (fun b =>
    let blk := rowBlock f k row b
    (List.range 32).map (fun i => round32 (blockValue blk i)))).flatten

/-- A row of `k` values converted in BLOCK mode: its elements, then its scales (R121, R122, R160). -/
def rowOut (s : State) (f mode k : Nat) (ys : List Fl) : Bytes × State :=
  let md := (rmodeOf mode).getD .rne
  let bs := (List.range (k / 32)).map (fun b => convBlock f md none (s.free + 33 * b) ((ys.drop (32 * b)).take 32))
  ((bs.map (·.1)).flatten ++ (if fmtScaled f then (bs.map (fun b => natLe 1 b.2.1)).flatten else []), { s with free := s.free + 33 * (k / 32) })

/-- The largest of some values; a NaN among them makes it NaN. -/
def maxVal (l : List Fl) : Fl :=
  match l with
  | [] => flZero
  | a :: t => t.foldl (fun m x =>
    match m, x with
    | .nan, _ => .nan
    | _, .nan => .nan
    | .inf true, y => y
    | .inf false, _ => .inf false
    | y, .inf neg => if neg then y else .inf false
    | y, z => if flLt y z then z else y) a

/-- The softmax of some scores in FP32 (R165, R168): the free values from `draw` on, one for each exponential and one for the order of
the sum (R119). -/
def softmax (draw : Nat) (l : List Fl) : List Fl :=
  let m := maxVal l
  let es := (l.zip (List.range l.length)).map (fun p => exp32 (Config.freeNat (draw + p.2)) (add32 p.1 (flNeg m)))
  let sum := combineSums (draw + l.length) es
  es.map (fun e => div32 e sum)

/-! ## ATTN (R162-R167) -/

/-- The fields of an ATTN. -/
structure AttnDesc where
  qfmt : Nat
  kvfmt : Nat
  ofmt : Nat
  mode : Nat
  hq : Nat
  hkv : Nat
  dhead : Nat
  layer : Nat
  nseq : Nat
  nlayers : Nat
  scale : Nat
  seqtab : Nat
  qaddr : Nat
  kvnew : Nat
  oaddr : Nat
  deriving DecidableEq, Repr

/-- Read the fields of an ATTN (R162). -/
def attnOf (d : Nat) : AttnDesc :=
  ⟨field d 128 4, field d 132 4, field d 136 4, field d 140 2, field d 144 16, field d 160 8, field d 168 8, field d 176 16, field d 192 16,
    field d 208 16, field d 224 32, field d 256 64, field d 320 64, field d 384 64, field d 448 64⟩

/-- Check 2 of R157 on an ATTN. -/
def attnFields (a : AttnDesc) : Bool :=
  rowFmt a.qfmt false && rowFmt a.kvfmt false && rowFmt a.ofmt true && decide (a.mode ≠ 3) && decide (1 ≤ a.hkv) && decide (1 ≤ a.hq) &&
    decide (a.hq ≤ 1024) && decide (a.hq % a.hkv = 0) && (decide (a.dhead = 64) || decide (a.dhead = 128)) &&
    decide (a.layer < a.nlayers) && decide (1 ≤ a.nseq) && decide (a.nseq ≤ 4096) && decide (1 ≤ a.nlayers) && decide (a.nlayers ≤ 4096) &&
    decide (a.seqtab % 64 = 0)

/-- An entry of the sequence table (R163). -/
structure SeqEnt where
  slot : Nat
  qcount : Nat
  start : Nat
  qrow : Nat
  pagetab : Nat
  deriving DecidableEq, Repr

/-- The pitches and the entries of a sequence table. -/
def seqTable (a : AttnDesc) (b : Bytes) : (Nat × Nat × Nat) × List SeqEnt :=
  ((leAt b 0 4, leAt b 4 4, leAt b 8 4),
    (List.range a.nseq).map (fun i =>
      let e := leAt b (64 + 32 * i) 32
      ⟨field e 0 12, field e 16 16, field e 32 32, field e 64 32, field e 128 64⟩))

/-- Bytes of one K or V row, and RB (R164). -/
def kvRow (a : AttnDesc) : Nat := rowBytes a.kvfmt (a.hkv * a.dhead)

/-- RB. -/
def kvRB (a : AttnDesc) : Nat := 2 * kvRow a

/-- Bytes of a page (R164). -/
def pageBytes (a : AttnDesc) : Nat := 64 * a.nlayers * kvRB a

/-- Pages that a sequence names up to its last position. -/
def seqPages (e : SeqEnt) : Nat := ceilDiv (e.start + e.qcount) 64

/-- CVA of a page. -/
def pageCva (s : State) (c : Nat) (e : SeqEnt) (p : Nat) : Nat := leAt (cvaBytes s c (e.pagetab + 8 * p) 8).1 0 8

/-- CVA of the K row of a position in a layer (R164); its V row follows. -/
def kvAddr (s : State) (c : Nat) (a : AttnDesc) (e : SeqEnt) (t : Nat) : Nat :=
  pageCva s c e (t / 64) + a.layer * 64 * kvRB a + t % 64 * kvRB a

/-- CVA ranges that an ATTN reads, beside its sequence table. -/
def attnReads (s : State) (c : Nat) (a : AttnDesc) (p : Nat × Nat × Nat) (es : List SeqEnt) : List (Nat × Nat) :=
  (es.map (fun e =>
    (e.pagetab, 8 * seqPages e) :: (List.range (seqPages e)).map (fun i => (pageCva s c e i, pageBytes a)) ++
      rowRanges a.qaddr p.1 (rowBytes a.qfmt (a.hq * a.dhead)) ((List.range e.qcount).map (· + e.qrow)) ++
      rowRanges a.kvnew p.2.1 (kvRB a) ((List.range e.qcount).map (· + e.qrow)))).flatten

/-- CVA ranges that an ATTN writes: appended rows and output rows. -/
def attnWrites (s : State) (c : Nat) (a : AttnDesc) (p : Nat × Nat × Nat) (es : List SeqEnt) : List (Nat × Nat) :=
  (es.map (fun e =>
    (List.range e.qcount).map (fun j => (kvAddr s c a e (e.start + j), kvRB a)) ++
      rowRanges a.oaddr p.2.2 (rowBytes a.ofmt (a.hq * a.dhead)) ((List.range e.qcount).map (· + e.qrow)))).flatten

/-- R166 and check 3 of R157. -/
def attnOk (s : State) (c : Nat) (a : AttnDesc) (p : Nat × Nat × Nat) (es : List SeqEnt) : Bool :=
  es.all (fun e => decide (e.slot < odGet s (odCtx 0x2210 c)) && decide (1 ≤ e.qcount) && decide (e.pagetab % 8 = 0) &&
    pinnedOk s c e.pagetab (8 * seqPages e) .read &&
    (List.range (seqPages e)).all (fun i => decide (pageCva s c e i ≠ 0) && decide (pageCva s c e i % 4096 = 0))) &&
    decide (rowBytes a.qfmt (a.hq * a.dhead) ≤ p.1) && decide (kvRB a ≤ p.2.1) && decide (rowBytes a.ofmt (a.hq * a.dhead) ≤ p.2.2) &&
    allPinned s c (attnReads s c a p es) .read && allPinned s c (attnWrites s c a p es) .write

/-- q · k over one head, in FP32 (R113, R114, R165); where only one of them is BF16 the block sum of R113 is taken (log entry 90). -/
def headDot (qf kf qk kk : Nat) (qrow krow : Bytes) (qh kh dhead : Nat) : Fl :=
  let bs := (List.range (dhead / 32)).map (fun b => (rowBlock kf kk krow (kh * dhead / 32 + b), rowBlock qf qk qrow (qh * dhead / 32 + b)))
  if qf = 7 ∧ kf = 7 then sliceSum 7 bs else sliceSum 4 bs

/-- One head of one query token (R165), with free values of its own. -/
def headOut (s : State) (c : Nat) (a : AttnDesc) (e : SeqEnt) (qrow : Bytes) (j h : Nat) : List Fl × State :=
  let kh := h / max (a.hq / max a.hkv 1) 1
  let kk := a.hkv * a.dhead
  let n := e.start + j + 1
  let rows := (List.range n).map (fun t => (cvaBytes s c (kvAddr s c a e t) (kvRB a)).1)
  let scores := rows.map (fun r => mul32 (decF32 a.scale) (headDot a.qfmt a.kvfmt (a.hq * a.dhead) kk qrow (r.take (kvRow a)) h kh a.dhead))
  let ps := softmax s.free scores
  let vs := rows.map (fun r => (rowValues a.kvfmt kk (r.drop (kvRow a))).drop (kh * a.dhead))
  ((List.range a.dhead).map (fun i => combineSums (s.free + n + 1 + i) ((ps.zip vs).map (fun p => mul32 p.1 (p.2.getD i flZero)))),
    { s with free := s.free + n + 1 + a.dhead })

/-- Every head of one query token, in order. -/
def tokenOut (s : State) (c : Nat) (a : AttnDesc) (e : SeqEnt) (qrow : Bytes) (j : Nat) : List Fl × State :=
  (List.range a.hq).foldl (fun r h =>
    let (ys, s) := headOut r.2 c a e qrow j h
    (r.1 ++ ys, s)) ([], s)

/-- Append the new rows of a sequence (R165). -/
def appendKv (s : State) (agent c : Nat) (a : AttnDesc) (p : Nat × Nat × Nat) (e : SeqEnt) : State :=
  (List.range e.qcount).foldl (fun s j =>
    cvaWrite s agent c (kvAddr s c a e (e.start + j)) (cvaBytes s c (a.kvnew + (e.qrow + j) * p.2.1) (kvRB a)).1) s

/-- Attend for a sequence (R165). -/
def attendSeq (s : State) (agent c : Nat) (a : AttnDesc) (p : Nat × Nat × Nat) (e : SeqEnt) : State :=
  (List.range e.qcount).foldl (fun s j =>
    let qrow := (cvaBytes s c (a.qaddr + (e.qrow + j) * p.1) (rowBytes a.qfmt (a.hq * a.dhead))).1
    let (ys, s) := tokenOut s c a e qrow j
    let (b, s) := rowOut s a.ofmt a.mode (a.hq * a.dhead) ys
    cvaWrite s agent c (a.oaddr + (e.qrow + j) * p.2.2) b) s

/-- A Nib cluster that takes work, as the scribe core chooses it; which one runs an ATTN or a ROWOP is not stated (log entry 87). -/
def anyCluster (s : State) : Nat × State :=
  let up := (List.range 288).filter (fun n => clusterUp s (nibCluster n).1 (nibCluster n).2)
  let (n, s) := draw s
  (up.getD (n % max up.length 1) 0, s)

/-- Earlier ATTN jobs of a context that name one of some slots and have not completed (R167). -/
def slotsTaken (c : Nat) (slots : List Nat) (before : List Job) : Bool :=
  before.any (fun j => decide (j.ctx = c) &&
    (match j.body with
     | .attn a => a.slots.any slots.contains
     | _ => false))

/-- CVA range of the sequence table. -/
def seqRange (a : AttnDesc) : Nat × Nat := (a.seqtab, 64 + 32 * a.nseq)

/-- The sequence table as it lies in memory. -/
def seqNow (s : State) (c : Nat) (a : AttnDesc) : (Nat × Nat × Nat) × List SeqEnt := seqTable a (cvaBytes s c a.seqtab (64 + 32 * a.nseq)).1

/-- Page tables that can be read are not poisoned, nor is the sequence table: what a poisoned one holds is not known (R20). -/
def tablesPoisoned (s : State) (c : Nat) (a : AttnDesc) : Bool :=
  anyPoison s c (seqRange a :: ((seqNow s c a).2.map (fun e => (e.pagetab, 8 * seqPages e))).filter (fun r => pinnedOk s c r.1 r.2 .read))

/-- The status with which an ATTN is refused, the first of R20 that applies; none where it can run. -/
def attnRefused (s : State) (c : Nat) (a : AttnDesc) : Option Status :=
  let t := seqNow s c a
  if tablesPoisoned s c a then some .poison
  else if !attnOk s c a t.1 t.2 then some .range
  else if anyPoison s c (attnReads s c a t.1 t.2) then some .poison
  else none

/-- Run an ATTN that is not refused on a Nib cluster: appends, then attention, for each sequence; the record it ends with. -/
def runAttn (s : State) (c op tag d : Nat) : Nat × State :=
  let a := attnOf d
  match attnRefused s c a with
  | some st => (recHead st op tag, s)
  | none =>
    let t := seqNow s c a
    let (n, s) := anyCluster s
    let s := readAll s n c (seqRange a :: attnReads s c a t.1 t.2)
    (recHead .ok op tag, t.2.foldl (fun s e => attendSeq (appendKv s (nibAgent n) c a t.1 e) (nibAgent n) c a t.1 e) s)

/-- The lines that an ATTN touches can be served at once. -/
def attnFree (s : State) (c d : Nat) : Bool :=
  let a := attnOf d
  let t := seqNow s c a
  allFree s c (seqRange a :: attnReads s c a t.1 t.2) && allTake s c (attnWrites s c a t.1 t.2)

/-- Ask adapters for the lines that an ATTN touches. -/
def attnAsk (s : State) (c d : Nat) : State :=
  let a := attnOf d
  let t := seqNow s c a
  askAll s c (seqRange a :: attnReads s c a t.1 t.2) (attnWrites s c a t.1 t.2)

/-- An ATTN whose checks have passed runs at once, or waits for the earlier ones of its slots (R167). -/
def attnBegins (s : State) (c q : Nat) (x : Queue) (d : Nat) (slots : List Nat) : State :=
  if slotsTaken c slots s.q.jobs then addJob s c q x d (.attn ⟨d, slots, false⟩) none
  else
    let (r, s) := runAttn s c (dOp d) (dTag d) d
    addJob s c q x d (.attn ⟨d, slots, true⟩) (some r)

/-- Dispatch an ATTN: it runs at once, or after the earlier one of a same slot (R166, R167). -/
def doAttn (s : State) (c q : Nat) (x : Queue) (d : Nat) : State :=
  let a := attnOf d
  if !attnFields a || !pinnedOk s c a.seqtab (64 + 32 * a.nseq) .read then nibEnd s c q x d .range
  else if !attnFree s c d then attnAsk s c d
  else
    match attnRefused s c a with
    | some st => nibEnd s c q x d st
    | none => attnBegins s c q x d ((seqNow s c a).2.map (·.slot))

/-- ATTN (R162-R167). -/
def execAttn (c : Ctx) (q : QNum) (s : State) : Host.Outcome State Fault Refusal :=
  effectOn s (dispatchAs s c.toNat q.val [1] (fun d => dOp d = 2) (fun s x d => doAttn s c.toNat q.val x d))

/-- Jobs of a list before the first one equal to `j`. -/
def jobsBefore (j : Job) : List Job → List Job
  | [] => []
  | k :: t => if k = j then [] else k :: jobsBefore j t

/-- An ATTN that waits for its slots runs when the earlier ones have completed (R167), under the generation stamped on it (R87); of a
context that is no longer ACTIVE it ends with TORN. -/
def resumeAttn (s : State) (j : Job) : State :=
  match j.body with
  | .attn a =>
    if a.ran || j.result.isSome || slotsTaken j.ctx a.slots (jobsBefore j s.q.jobs) then s
    else if !ctxActive s j.ctx then jobEnd s j.ctx j.queue j.idx (recHead .torn j.op j.tag)
    else underGen s j.gen (fun s =>
      if !attnFree s j.ctx a.desc then attnAsk s j.ctx a.desc
      else
        let (r, s) := runAttn s j.ctx j.op j.tag a.desc
        jobUpd s j.ctx j.queue j.idx (fun k => { k with body := .attn { a with ran := true }, result := some r }))
  | _ => s

/-- Waiting ATTN descriptors go on, in dispatch order. -/
def resumeAttns (s : State) : State := s.q.jobs.foldl resumeAttn s

/-! ## ROWOP (R168) -/

/-- The fields of a ROWOP. -/
structure RowDesc where
  ifmt : Nat
  ofmt : Nat
  mode : Nat
  op : Nat
  eps : Nat
  m : Nat
  l : Nat
  iaddr : Nat
  oaddr : Nat
  param : Nat
  ipitch : Nat
  opitch : Nat
  deriving DecidableEq, Repr

/-- Read the fields of a ROWOP. -/
def rowOf (d : Nat) : RowDesc :=
  ⟨field d 128 4, field d 132 4, field d 136 2, field d 140 4, field d 160 32, field d 192 20, field d 224 32, field d 256 64, field d 320 64,
    field d 384 64, field d 448 32, field d 480 32⟩

/-- Bytes of PARAM: γ, and β for LAYERNORM. -/
def paramBytes (r : RowDesc) : Nat := if r.op = 0 then 4 * r.l else if r.op = 1 then 8 * r.l else 0

/-- Checks 2 and 3 of R157 on a ROWOP. -/
def rowOk (s : State) (c : Nat) (r : RowDesc) : Bool :=
  let ib := rowBytes r.ifmt r.l
  let ob := rowBytes r.ofmt r.l
  rowFmt r.ifmt true && rowFmt r.ofmt true && decide (r.mode ≠ 3) && decide (1 ≤ r.m) && decide (1 ≤ r.l) && decide (r.l % 32 = 0) &&
    decide (r.l ≤ 2 ^ 20) && decide (ib ≤ r.ipitch) && decide (ob ≤ r.opitch) &&
    allPinned s c (rowRanges r.iaddr r.ipitch ib (List.range r.m)) .read && allPinned s c (rowRanges r.oaddr r.opitch ob (List.range r.m)) .write &&
    (decide (paramBytes r = 0) || pinnedOk s c r.param (paramBytes r) .read)

/-- The mean of a row's values, summed in the device's order. -/
def meanOf (draw : Nat) (l : Nat) (xs : List Fl) : Fl := div32 (combineSums draw xs) (.fin l 0)

/-- One row of a ROWOP in FP32. -/
def rowResult (r : RowDesc) (draw : Nat) (γ β xs : List Fl) : List Fl :=
  if r.op = 0 then
    let ms := meanOf draw r.l (xs.map (fun x => mul32 x x))
    let den := sqrt32 (add32 ms (decF32 r.eps))
    (xs.zip γ).map (fun p => div32 (mul32 p.1 p.2) den)
  else if r.op = 1 then
    let mu := meanOf draw r.l xs
    let cs := xs.map (fun x => add32 x (flNeg mu))
    let var := meanOf (draw + 1) r.l (cs.map (fun x => mul32 x x))
    let den := sqrt32 (add32 var (decF32 r.eps))
    ((cs.zip γ).zip β).map (fun p => add32 (mul32 (div32 p.1.1 den) p.1.2) p.2)
  else softmax draw xs

/-- FP32 vector of PARAM. -/
def paramVec (s : State) (c : Nat) (r : RowDesc) (i : Nat) : List Fl :=
  let b := (cvaBytes s c r.param (paramBytes r)).1
  (List.range r.l).map (fun k => decF32 (leAt b (4 * (i * r.l + k)) 4))

/-- What a ROWOP reads: its rows and its parameters. -/
def rowReads (r : RowDesc) : List (Nat × Nat) :=
  rowRanges r.iaddr r.ipitch (rowBytes r.ifmt r.l) (List.range r.m) ++ (if paramBytes r = 0 then [] else [(r.param, paramBytes r)])

/-- What a ROWOP writes. -/
def rowWrites (r : RowDesc) : List (Nat × Nat) := rowRanges r.oaddr r.opitch (rowBytes r.ofmt r.l) (List.range r.m)

/-- Row `i` of a ROWOP is computed and written, with free values of its own. -/
def rowStep (agent c : Nat) (r : RowDesc) (γ β : List Fl) (s : State) (i : Nat) : State :=
  let xs := rowValues r.ifmt r.l (cvaBytes s c (r.iaddr + i * r.ipitch) (rowBytes r.ifmt r.l)).1
  let ys := rowResult r s.free γ β xs
  let (b, s) := rowOut { s with free := s.free + r.l + 2 } r.ofmt r.mode r.l ys
  cvaWrite s agent c (r.oaddr + i * r.opitch) b

/-- A ROWOP whose checks have passed runs on a Nib cluster: every row in order, and its record is OK (R168). -/
def rowopRuns (s : State) (c q : Nat) (x : Queue) (d : Nat) : State :=
  let r := rowOf d
  let (n, s) := anyCluster s
  let s := readAll s n c (rowReads r)
  let γ := paramVec s c r 0
  let β := paramVec s c r 1
  (List.range r.m).foldl (rowStep (nibAgent n) c r γ β) (nibEnd s c q x d .ok)

/-- ROWOP: the checks, then every row. -/
def doRowop (s : State) (c q : Nat) (x : Queue) (d : Nat) : State :=
  let r := rowOf d
  if !rowOk s c r then nibEnd s c q x d .range
  else if !allFree s c (rowReads r) || !allTake s c (rowWrites r) then askAll s c (rowReads r) (rowWrites r)
  else if anyPoison s c (rowReads r) then nibEnd s c q x d .poison
  else rowopRuns s c q x d

/-- RMSNORM (R168). -/
def execRmsnorm (c : Ctx) (q : QNum) (s : State) : Host.Outcome State Fault Refusal :=
  effectOn s (dispatchAs s c.toNat q.val [1] (fun d => decide (dOp d = 3) && decide (field d 140 4 = 0)) (fun s x d => doRowop s c.toNat q.val x d))

/-- LAYERNORM (R168). -/
def execLayernorm (c : Ctx) (q : QNum) (s : State) : Host.Outcome State Fault Refusal :=
  effectOn s (dispatchAs s c.toNat q.val [1] (fun d => decide (dOp d = 3) && decide (field d 140 4 = 1)) (fun s x d => doRowop s c.toNat q.val x d))

/-- SOFTMAX (R168). -/
def execSoftmax (c : Ctx) (q : QNum) (s : State) : Host.Outcome State Fault Refusal :=
  effectOn s (dispatchAs s c.toNat q.val [1] (fun d => decide (dOp d = 3) && decide (field d 140 4 = 2)) (fun s x d => doRowop s c.toNat q.val x d))

/-! ## Completion -/

/-- The window fill that a completing descriptor was bound to (R184). -/
def boundOf (j : Job) : Option (Nat × Nat) :=
  match j.body with
  | .matmul m => m.bound
  | _ => none

/-- DESCRIPTOR_COMPLETE (R150-R153, R328): the record of a descriptor whose work has ended; with it the release of its fill, an ATTN
of the same slot, and the next descriptor of its queue. -/
def completeJob (s : State) (j : Job) (rec : Nat) : State :=
  let s := completeCore s j rec
  let s := match boundOf j with
    | some (k, g) => boundDone s k g
    | none => s
  queuePoll (resumeAttns s) j.ctx j.queue

/-- The completion record of a job can be written: its ring still lies in DEVICE pages whose homes take the write. -/
def recordTakes (s : State) (c : Nat) (x : Queue) (i : Nat) : Bool := cvaTakes s c (x.compl + 32 * (i % 2 ^ x.log2)) 32

/-- DESCRIPTOR_COMPLETE (R153): a descriptor whose work has ended completes once its stores have been released at its SCOPE (R328) and its
completion record can be written. -/
def execDescriptorComplete (c : Ctx) (q : QNum) (index : BitVec 32) (s : State) : Host.Outcome State Fault Refusal :=
  effectOn s (
    match jobFind s c.toNat q.val index.toNat with
    | none => s
    | some j =>
      match j.result, queueOf s c.toNat q.val with
      | none, _ => s
      | some rec, none => completeJob s j rec
      | some rec, some x =>
        if cutOver s then s
        else
          let (s, held) := jobRelease s j
          if held then s
          else if recordTakes s c.toNat x j.idx then completeJob s j rec
          else askWrites s (saParts s c.toNat (x.compl + 32 * (j.idx % 2 ^ x.log2)) 32))

end Sys2Proof.Machine
end

