-- ==== Sys2Proof/Machine/Persist.lean ====
section
/-! DEFINITION. PFAIL, the flush and its journal (R228-R233), the planned stop (R233), and what a loss of power leaves (R222, R223,
R235). -/

namespace Sys2Proof.Machine

/-! ## Power that goes -/

/-- A slot after a loss of power: the cartridge in it, and the membership record that it holds (R409). -/
def slotKept (x : Slot) : Slot := { emptySlot with present := x.present, record := x.record }

/-- Numbers of the dictionary that a loss of power leaves: the groups' generations and the PERSIST_LOST bits (R234). -/
def keptEntry (e : Nat × Nat) : Option (Nat × Nat) :=
  if e.1 / 256 = 0x8011 then some e
  else if 0x3190 ≤ e.1 / 256 ∧ e.1 / 256 ≤ 0x319F ∧ bitOf e.2 6 then some (e.1, 64)
  else none

/-- What every loss of power or module reset leaves (log entry 40): T2 and its owners on the cartridges, the journals, the device's
record of its groups, the boot flash and its fuses, the event log, and the pins. -/
def dropVolatile (s : State) : State :=
  { State.reset with
    pending := s.pending, now := s.now, free := s.free, log := s.log, out := s.out,
    mem.mem := s.mem.media, mem.media := s.mem.media, mem.poison := s.mem.poison.filter (fun l => inT2 (l * 128) 128),
    tier.t2 := s.tier.t2, tier.journalA := s.tier.journalA, tier.journalB := s.tier.journalB, tier.flushSeq := s.tier.flushSeq,
    cart.slots := s.cart.slots.map (fun e => (e.1, slotKept e.2)), cart.serving := s.cart.serving, cart.writeSeq := s.cart.writeSeq,
    od := s.od.filterMap keptEntry,
    iso.keys0 := s.iso.keys0, iso.keys1 := s.iso.keys1,
    fw := { State.reset.fw with
      config := s.fw.config, dir0 := s.fw.dir0, dir1 := s.fw.dir1, train0 := s.fw.train0, train1 := s.fw.train1,
      slotA := s.fw.slotA, slotB := s.fw.slotB, slotR := s.fw.slotR, revoked := s.fw.revoked, svn := s.fw.svn },
    boot := { State.reset.boot with clearMarks := s.boot.clearMarks },
    power := { State.reset.power with
      locked := s.power.locked, pfailLow := s.power.pfailLow, resetLow := s.power.resetLow, fspiLow := s.power.fspiLow } }

/-- The half of a flush, by its sequence number (R230): half A for odd ones. -/
def setHalf (s : State) (seq : Nat) (h : JournalHalf) : State :=
  if seq % 2 = 1 then { s with tier.journalA := h } else { s with tier.journalB := h }

/-- What a loss of power leaves of a flush under way: until every cartridge has acknowledged its units, whether the context record is
durable is a free value (R231, R234; log entry 43). -/
def cutJournal (s : State) : State :=
  match s.tier.pfail with
  | .journal _ =>
    let (d, s) := draw s
    if d % 2 = 0 then s else setHalf s s.tier.flushSeq ⟨.none, s.tier.flushSeq, 0, []⟩
  | _ => s

/-- The rails go off. -/
def powerDown (s : State) : State := dropVolatile (cutJournal s)

/-- A module reset (R635): as a loss of power, but the rails stay; FAULT_L and its cause, a FAILED device, the marks of slots that
failed and a planned stop last until a power cycle (R233, R529, R567, R636). -/
def resetModule (s : State) : State :=
  let t := dropVolatile s
  let t := { t with power.on := s.power.on, power.faultLow := s.power.faultLow, fw.failed := s.fw.failed }
  let t := odSet (odSet t (odKey 0xD008 1) (odGet s (odKey 0xD008 1))) (odKey 0x3006 6) (odGet s (odKey 0x3006 6))
  if devState s = 3 then odSet t (odKey 0xB000 1) 3 else t

/-! ## The flush (R229) -/

/-- The half of a flush. -/
def halfOf (s : State) (seq : Nat) : JournalHalf := if seq % 2 = 1 then s.tier.journalA else s.tier.journalB

/-- The slots whose cartridges hold the journal (R225). -/
def journalSlots (s : State) : List Nat := (List.range 32).filter (fun n => slotCounts (slotState s n))

/-- Step 3: every dirty line of T2 in a cluster cache goes to its home, and the atomic line buffers are written out. -/
def recallDirty (s : State) : State :=
  let s := s.coh.caches.foldl (fun s e =>
    let line := e.1 % 2 ^ 45
    if inT2 (line * 128) 128 && dirtySt e.2.st && e.2.hasData then
      if (tblFind s.coh.busy line).isNone && decide ((shadowOf s line).bind (·.owner) = some (e.1 / 2 ^ 45)) then recallLine s line
      else memTake s line fullMask e.2.data
    else s) s
  { s with coh.atomBuf := s.coh.atomBuf.filter (fun e => !inT2 (e.1 * 128) 128) }

/-- Stores in holding points move out to their homes. -/
def drainStores (s : State) : State :=
  (List.range 3).foldl (fun s _ => s.q.stores.foldl (fun s h => if s.q.stores.contains h then passOn 4 s h else s) s) s

/-- Step 3, before the cut ends: what has been admitted reaches its home; each message on the package leads to at most three more. -/
def carryOut (s : State) : State :=
  let s := drainStores s
  deliverAll (4 * (s.coh.net.length + s.coh.tickets.length + s.coh.busy.length)) s

/-- Step 2: engines finish the tasks they hold. -/
def finishTasks (s : State) : State :=
  (s.q.tasks.filter (fun e => e.2.cluster.isSome)).foldl (fun s e => endTask s e.1 e.2) s

/-- The frame records of the journal with their lines, in the order of the cache region (R230). -/
def journalFrames (s : State) : List JournalFrame :=
  (s.mem.cache.filter (fun f => decide (f.dirty ≠ []))).map (fun f =>
    ⟨f.frame, (frameOwner s f.frame).getD 0, (f.dirty.map (fun d => 2 ^ d.1)).sum,
      f.dirty.map (fun d => (d.1, memRead s.mem.mem (f.frame * 4096 + d.1 * 128) 128))⟩)

/-- A frame record with the position of its first line (R230). -/
def frameRecord (f : JournalFrame) (first : Nat) : Bytes := natLe 16 (f.frame + f.ctx * 2 ^ 40 + f.dirty * 2 ^ 64 + first * 2 ^ 96)

/-- The index of a journal: one record for each frame, from a position on. -/
def journalIndex : List JournalFrame → (first : Nat) → Bytes
  | [], _ => []
  | f :: fs, first => frameRecord f first ++ journalIndex fs (first + f.lines.length)

/-- Dirty lines of a context in a journal. -/
def dirtyCount (fs : List JournalFrame) (c : Nat) : Nat := ((fs.filter (fun f => decide (f.ctx = c))).map (·.lines.length)).sum

/-- The context record (R230). -/
def ctxRecord (fs : List JournalFrame) : Bytes := ((List.range 4096).map (fun c => natLe 4 (dirtyCount fs c))).flatten

/-- The lines part of a journal: ciphertext, as everywhere outside the package (R504). -/
def journalLines (s : State) (fs : List JournalFrame) : Bytes :=
  (fs.map (fun f => (f.lines.map (fun l => cipherLine s 0 (f.frame * 32 + l.1) l.2)).flatten)).flatten

/-- Units of 4 KiB that a part fills (log entry 91). -/
def unitsOf (b : Bytes) : List Bytes := (List.range (ceilDiv b.length 4096)).map (fun i => padTo 4096 ((b.drop (4096 * i)).take 4096))

/-- The data units of a flush: context record, index, lines (R230). -/
def journalData (s : State) : List Bytes :=
  let fs := journalFrames s
  unitsOf (ctxRecord fs) ++ unitsOf (journalIndex fs 0) ++ unitsOf (journalLines s fs)

/-- Data units of a stripe: W - 2. -/
def stripeData (s : State) : Nat := max (journalWidth s - 2) 1

/-- Stripes of a flush. -/
def stripeCount (s : State) : Nat := ceilDiv (journalData s).length (stripeData s)

/-- The units of a stripe, with its P and Q units (R230, R395). -/
def journalStripe (s : State) (k : Nat) : List Bytes :=
  let n := stripeData s
  let us := (List.range n).map (fun i => (journalData s).getD (k * n + i) (List.replicate 4096 0#8))
  us ++ [parityP us, parityQ us]

/-- JWRITE of a unit of the half in use to a journal cartridge, counted in OD 0x8102 (R397, R399, R419): the half stands above the unit. -/
def sendJournal (s : State) (n unit : Nat) (content : Bytes) : State :=
  odBump (emit s (.cart n .jwrite (s.tier.flushSeq % 2 * 2 ^ 32 + unit) (content ++ unitMeta content 3 unit s.tier.flushSeq))) (odKey 0x8102 n) 4096

/-- The same unit to every journal cartridge. -/
def sendAll (s : State) (unit : Nat) (content : Bytes) : State :=
  (journalSlots s).foldl (fun s n => sendJournal s n unit content) s

/-- Step 4: the stripes go out, a unit to each journal cartridge in slot order, and the device waits for the acknowledgements (R231). -/
def writeJournal (s : State) : State :=
  let slots := journalSlots s
  let s := (List.range (stripeCount s)).foldl (fun s k =>
    ((slots.zip (journalStripe s k))).foldl (fun s p => sendJournal s p.1 k p.2) s) s
  { s with tier.jwrites := slots }

/-- The seal: flush sequence, W, index length, line count, stripe count, and CRC-32C of the index (R230, log entry 91). -/
def sealUnit (s : State) : Bytes :=
  let fs := (halfOf s s.tier.flushSeq).frames
  let ix := journalIndex fs 0
  padTo 4096 (natLe 8 s.tier.flushSeq ++ natLe 4 (journalWidth s) ++ natLe 8 ix.length ++ natLe 8 ((fs.map (·.lines.length)).sum) ++
    natLe 8 (stripeCount s) ++ natLe 4 (crc32c ix))

/-- Step 5: a seal to every journal cartridge. -/
def writeSeal (s : State) : State :=
  { sendAll s (stripeCount s) (sealUnit s) with tier.jwrites := journalSlots s }

/-- A mark in a half: what a cancel unit and a clean marker hold is not stated. -/
def markUnit : Bytes := List.replicate 4096 0#8

/-- What follows a flush that a thermal shutdown (1) or a module reset (2) asked for (R630, R635). -/
def afterFlush (s : State) : State :=
  if s.power.after = 1 then
    let cause := odGet s (odKey 0xD008 1)
    let s := powerDown s
    odSet { s with power.locked := true, power.faultLow := true } (odKey 0xD008 1) cause
  else if s.power.after = 2 then resetModule s
  else s

/-- Step 6: PERSISTED, with the duration of the flush; a PFAIL that has gone already begins the 100 ms of R232. -/
def persisted (s : State) (start : Nat) : State :=
  let us := min ((s.now - start) / 1000) (2 ^ 32 - 1)
  let s := odBump (odSet s (odKey 0x3006 2) us) (odKey 0x3006 5) 1
  let s := logEv s "PFAIL_FLUSH" [us]
  afterFlush { s with tier.pfail := if s.power.pfailLow then .persisted else .releasing }

/-- The journal of the flush moves on when every cartridge has acknowledged: to the seal, and then to PERSISTED. -/
def journalStep : (fuel : Nat) → State → State
  | 0, s => s
  | fuel + 1, s =>
    if s.tier.jwrites ≠ [] then s
    else
      match s.tier.pfail with
      | .journal t =>
        let s := setHalf s s.tier.flushSeq { halfOf s s.tier.flushSeq with kind := .seal }
        journalStep fuel { writeSeal s with tier.pfail := .seal t }
      | .seal t => persisted s t
      | _ => s

/-- Steps 2 and 3: admission is closed, engines finish their tasks, and what has been admitted reaches its home. -/
def endAdmission (s : State) : State := endRowWrites (recallDirty (carryOut (finishTasks { s with tier.admitting := false })))

/-- Steps 2 to 4 of the flush; `start` is its step 1. A composition's step 6 runs at once (R613). -/
def startFlush (s : State) (start : Nat) : State :=
  let s := endAdmission (composePfail s)
  let seq := s.tier.flushSeq + 1
  let s := { s with tier.flushSeq := seq, tier.pfail := .journal start }
  let s := setHalf s seq ⟨.units, seq, journalWidth s, journalFrames s⟩
  journalStep 2 (writeJournal s)

/-- PFAIL_ASSERT (R228): the pin goes low; the 2 µs begin. -/
def execPfailAssert (s : State) : Host.Outcome State Fault Refusal :=
  effect s (
    let s := { s with power.pfailLow := true }
    match s.tier.pfail with
    | .idle => if s.power.on then { s with tier.pfail := .asserted } else s
    | .releasing => { s with tier.pfail := .persisted }
    | _ => s)

/-- PFAIL_DEASSERT (R228, R232): a short assertion is ignored; after PERSISTED the 100 ms begin. -/
def execPfailDeassert (s : State) : Host.Outcome State Fault Refusal :=
  effect s (
    let s := { s with power.pfailLow := false }
    match s.tier.pfail with
    | .asserted => { s with tier.pfail := .idle }
    | .persisted => { s with tier.pfail := .releasing }
    | _ => s)

/-- PFAIL before stage 6 has closed: nothing has been admitted, nothing is flushed, and bring-up stops (R581). -/
def stopBringUp (s : State) : State := { s with boot.next := none, tier.pfail := .idle }

/-- PFAIL_FLUSH (R228, R229): PFAIL has been held for 2 µs. After a planned stop nothing is left to flush, and the clean markers stay
(log entry 43). -/
def execPfailFlush (s : State) : Host.Outcome State Fault Refusal :=
  effectOn s (
    if s.tier.pfail = .asserted then
      if odGet s (odKey 0x3006 6) = 1 then s
      else if s.boot.next = some 7 then startFlush s s.now else stopBringUp s
    else s)

/-- PFAIL_CANCEL (R232): cancel units are written, admission resumes, and paused work goes on. -/
def execPfailCancel (s : State) : Host.Outcome State Fault Refusal :=
  effectOn s (
    if s.tier.pfail = .releasing then
      let s := setHalf s s.tier.flushSeq { halfOf s s.tier.flushSeq with kind := .cancel }
      let s := sendAll s (stripeCount s + 1) markUnit
      let s := { s with tier.pfail := .idle,
                        tier.admitting := (devState s = 1 || devState s = 2) && decide (odGet s (odKey 0x3006 6) = 0) }
      if s.tier.admitting then pollAll s else s
    else s)

/-- JWRITE (R231): a cartridge acknowledges a durable journal write. -/
def execJwrite (slot : Fin 32) (s : State) : Host.Outcome State Fault Refusal :=
  effectOn s (
    if s.tier.jwrites.contains slot.val then
      journalStep 2 { s with tier.jwrites := s.tier.jwrites.filter (· != slot.val) }
    else s)

/-- A clean marker in both halves (R233). -/
def markClean (s : State) : State :=
  let clean : JournalHalf := ⟨.clean, s.tier.flushSeq, 0, []⟩
  let s := { s with tier.journalA := clean, tier.journalB := clean }
  [0, 1].foldl (fun s h => (journalSlots s).foldl (fun s n =>
    emit s (.cart n .jwrite (h * 2 ^ 32) (markUnit ++ unitMeta markUnit 3 0 s.tier.flushSeq))) s) s

/-- The journal has been replayed since the rails came up: stage 2 has closed. -/
def replayed (s : State) : Bool := match s.boot.next with | some n => decide (3 ≤ n) | none => false

/-- POWER_OFF_STOP (R233): admission stops, every dirty line is written home, and both halves hold a clean marker; before stage 2 has
closed the journal is replayed first. -/
def powerOffStop (s : State) : State :=
  if cutOver s then s
  else
    let s := if s.boot.next = some 7 then
        (let s := endAdmission s
         s.mem.cache.foldl writeBackFrame s)
      else { s with tier.admitting := false }
    odSet (if replayed s then markClean s else s) (odKey 0x3006 6) 1

/-- POWER_OFF_STOP (R233). -/
def execPowerOffStop (s : State) : Host.Outcome State Fault Refusal := effectOn s (powerOffStop s)

end Sys2Proof.Machine
end

