-- ==== Sys2Proof/Machine/Quill.lean ====
section
/-! DEFINITION. Quill search (R351-R392): SEARCH, the walk of a query in steps of at most sixteen heads or one list, the end of a
query, and STALE_SCAN. -/

namespace Sys2Proof.Machine

/-! ## The graph -/

/-- The fields of a graph record (R351). -/
structure Graph where
  cva : Nat
  nodes : Nat
  codew : Nat
  maxdeg : Nat
  heads : Nat
  nbrs : Nat
  entries : Nat
  nentry : Nat
  deriving DecidableEq, Repr

/-- Read a graph record. -/
def graphOf (cva n : Nat) : Graph :=
  ⟨cva, field n 0 40, field n 40 4, field n 44 7, field n 64 64, field n 128 64, field n 192 64, field n 256 16⟩

/-- Bytes of a code (R351). -/
def codeBytes (codew : Nat) : Nat := 32 * (codew + 1)

/-- Stride of the head plane (R352). -/
def headStride (codew : Nat) : Nat := 64 * ceilDiv (16 + codeBytes codew) 64

/-- Stride of the neighbour plane (R352). -/
def listStride (maxdeg : Nat) : Nat := 16 * ceilDiv (5 * maxdeg) 16

/-- The graph record itself is aligned and pinned. -/
def recordOk (s : State) (c cva : Nat) : Bool := decide (cva % 64 = 0) && pinnedOk s c cva 64 .read

/-- The fields of a graph and the pinning of its planes, and of its entry table where it is used (R359, R386). -/
def graphOk (s : State) (c : Nat) (g : Graph) (table : Bool) : Bool :=
  decide (1 ≤ g.nodes) && decide (1 ≤ g.maxdeg) && decide (g.maxdeg ≤ 64) && decide (g.heads % 64 = 0) && decide (g.nbrs % 16 = 0) &&
    pinnedOk s c g.heads (g.nodes * headStride g.codew) .read && pinnedOk s c g.nbrs (g.nodes * listStride g.maxdeg) .read &&
    (!table || (decide (g.entries % 8 = 0) && decide (1 ≤ g.nentry) && pinnedOk s c g.entries (8 * g.nentry) .read))

/-- CVA of a node's head part. -/
def headCva (heads codew n : Nat) : Nat := heads + n * headStride codew

/-- CVA of a node's neighbour list. -/
def listCva (nbrs maxdeg n : Nat) : Nat := nbrs + n * listStride maxdeg

/-- Neighbour j of a list (R354). -/
def neighbour (list : Nat) (j : Nat) : Nat := field list (40 * j) 40

/-! ## SEARCH (R357-R361) -/

/-- The checks of one query (R359). -/
def queryOk (s : State) (c : Nat) (g : Graph) (r : Nat) : Bool :=
  let k := field r 0 11
  let l := field r 16 9
  let mv := field r 64 32
  decide (1 ≤ k) && decide (k ≤ 1024) && decide (16 ≤ l) && decide (l ≤ 256) && (decide (mv = 0) || (decide (64 ≤ mv) && decide (mv ≤ 1048575))) &&
    decide (field r 32 16 + field r 48 4 < g.nentry) && decide (field r 256 64 % 16 = 0) && pinnedOk s c (field r 256 64) (codeBytes g.codew) .read &&
    decide (field r 320 64 % 32 = 0) && pinnedOk s c (field r 320 64) (32 + 8 * k) .write

/-- A Quill descriptor ends at its dispatch. -/
def quillEnd (s : State) (c q : Nat) (x : Queue) (d : Nat) (st : Status) : State :=
  addJob s c q x d .plain (some (recHead st (dOp d) (dTag d)))

/-- What a SEARCH reads before it begins: its graph record and its queries. -/
def searchReads (d : Nat) : List (Nat × Nat) := [(field d 256 64, 64), (field d 320 64, 64 * field d 128 16)]

/-- Firmware reads CVA ranges of a context at the homes. -/
def firmRead (s : State) (c : Nat) (rs : List (Nat × Nat)) : State := rs.foldl (fun s p => (cvaRead s firmwareAgent c p.1 p.2).2) s

/-- A SEARCH whose checks have passed: its queries wait for hardware contexts (R359, R360), under the limits of its generation (R87). -/
def searchBegins (s : State) (c q : Nat) (x : Queue) (d : Nat) (g : Graph) (qs : List Nat) : State :=
  let s := firmRead s c (searchReads d)
  let gen := stampOf s x x.disp
  let (place, s) := if (dWaitEn d || dSigEn d) && decide (dScope d < 4) then instanceOf s c q x (dScope d) else (locDevice s, s)
  addJob s c q x d
    (.search ⟨field d 128 16, field d 256 64, field d 320 64, g.nodes, g.codew, g.maxdeg, g.heads, g.nbrs, g.entries, g.nentry, qs, place,
      odAt s gen (odKey 0x2800 1), odAt s gen (odKey 0x2800 2), 0, [], [], false⟩) none

/-- Dispatch a SEARCH: every query is checked before any runs (R359). -/
def doSearch (s : State) (c q : Nat) (x : Queue) (d : Nat) : State :=
  let nq := field d 128 16
  let gcva := field d 256 64
  let qtab := field d 320 64
  if nq = 0 ∨ qtab % 64 ≠ 0 ∨ !recordOk s c gcva ∨ !pinnedOk s c qtab (64 * nq) .read then quillEnd s c q x d .range
  else if !allFree s c (searchReads d) then askAll s c (searchReads d) []
  else if anyPoison s c (searchReads d) then quillEnd s c q x d .poison
  else
    let g := graphOf gcva (leNat (cvaBytes s c gcva 64).1)
    let tab := (cvaBytes s c qtab (64 * nq)).1
    let qs := (List.range nq).map (fun i => leAt tab (64 * i) 64)
    if !graphOk s c g true || !qs.all (queryOk s c g) then quillEnd s c q x d .range
    else searchBegins s c q x d g qs

/-- SEARCH (R357-R360). -/
def execSearch (c : Ctx) (q : QNum) (s : State) : Host.Outcome State Fault Refusal :=
  effectOn s (dispatchAs s c.toNat q.val [6] (fun d => dOp d = 0x60) (fun s x d => doSearch s c.toNat q.val x d))

/-! ## Hardware contexts (R377-R380) -/

/-- Key of a hardware context. -/
def hwKey (quill hw : Nat) : Nat := quill * 64 + hw

/-- Die, cluster and engine of a Quill: 16 on each compute die, 8 in each of its two clusters (R28). -/
def quillPlace (n : Nat) : Nat × Nat × Nat := (n / 16, n % 16 / 8, n % 8)

/-- Location code of a Quill. -/
def quillLoc (s : State) (n : Nat) : Nat := locCode s 1 (quillPlace n).1 1 (quillPlace n).2.1 (quillPlace n).2.2 0

/-- The cluster cache through which a Quill reads (R45, R288). -/
def quillAgent (n : Nat) : Nat := (quillPlace n).1 * 14 + 12 + (quillPlace n).2.1

/-- A Quill reads CVA ranges through the cache of its cluster (R45). -/
def quillRead (s : State) (key c : Nat) (rs : List (Nat × Nat)) : State :=
  rs.foldl (fun s p => clusterRead s (quillAgent (key / 64)) c p.1 p.2) s

/-- A Quill takes work. -/
def quillUp (s : State) (n : Nat) : Bool := engineUp s (quillPlace n).1 (12 + (quillPlace n).2.1) (quillPlace n).2.2

/-- The SEARCH of a descriptor, while it runs. -/
def searchJob (s : State) (c q i : Nat) : Option (Job × SearchSt) :=
  match jobFind s c q i with
  | some j => (match j.body, j.result with | .search b, none => some (j, b) | _, _ => none)
  | none => none

/-- Put back the state of a SEARCH. -/
def setSearch (s : State) (c q i : Nat) (b : SearchSt) : State := jobUpd s c q i (fun j => { j with body := .search b })

/-- Quill share weight of a context (R392). -/
def quillWeight (s : State) (c : Nat) : Nat := odGet s (odCtx 0x2820 c)

/-- Contexts with a query ready (R379). -/
def readyQueries (s : State) : List Nat :=
  (s.q.jobs.filter (fun j => match j.body, j.result with
    | .search b, none => ctxActive s j.ctx && (decide (b.next < b.nq) || decide (b.again ≠ []))
    | _, _ => false)).map (·.ctx)

/-- Hardware contexts handed out to each context of a weight that has queries ready. -/
def handedQueries (s : State) : Tbl Nat := shareTable s.q.handedQ ((readyQueries s).filter (fun c => decide (quillWeight s c ≠ 0)))

/-- A context may get the next hardware context (R379): in proportion to the weights it is ahead of no other context by more than the
device's hardware contexts; weight 0 gets one only when no other context has queries ready. -/
def mayQuery (s : State) (c : Nat) : Bool :=
  if quillWeight s c = 0 then (readyQueries s).all (fun x => decide (x = c)) else inShare (quillWeight s) (handedQueries s) c 24576

/-- A hardware context has been handed to a context. -/
def noteQuery (s : State) (c : Nat) : State :=
  let h := handedQueries s
  { s with q.handedQ := if quillWeight s c = 0 then h else tblSet h c (tblGet 0 h c + 1) }

/-- A query at the start of a walk with candidate-queue size `l`. -/
def walkStart (x : QuillCtx) (l : Nat) : QuillCtx :=
  { x with l := l, cand := [], res := [], filter := [], started := false, todo := [], listOf := none, ended := false, limit := false,
           walkVisits := 0 }

/-- A query from its record (R358). -/
def queryOf (qkey idx n rec vlim : Nat) : QuillCtx where
  qkey := qkey
  idx := idx
  query := n
  k := field rec 0 11
  l := field rec 16 9
  widen := bitOf rec 25
  efirst := field rec 32 16
  ecount := field rec 48 4
  maxVisit := if field rec 64 32 = 0 then vlim else field rec 64 32
  allOf := field rec 128 64
  anyOf := field rec 192 64
  result := field rec 320 64
  code := 0
  cand := []
  res := []
  filter := []
  started := false
  todo := []
  listOf := none
  ended := false
  limit := false
  poison := false
  walkVisits := 0
  visits := 0
  expansions := 0
  stale := 0
  filtered := 0
  malformed := 0
  widens := 0

/-- Start a query on a free hardware context: its code is read (R374, R377). -/
def startQuery (s : State) (j : Job) (b : SearchSt) (n key : Nat) : State :=
  let r := b.queries.getD n 0
  let cva := field r 256 64
  if !cvaFree s j.ctx cva (codeBytes b.codew) then askRanges s (saParts s j.ctx cva (codeBytes b.codew))
  else
    let (code, bad) := cvaBytes s j.ctx cva (codeBytes b.codew)
    let s := quillRead (noteQuery s j.ctx) key j.ctx [(cva, codeBytes b.codew)]
    let x := queryOf (qKey j.ctx j.queue) j.idx n r b.visitLimit
    let x := { x with code := leNat code, poison := bad, ended := bad }
    let s := setSearch s j.ctx j.queue j.idx
      { b with next := if b.again.contains n then b.next else b.next + 1, again := b.again.filter (· != n) }
    { s with q.quills := tblSet s.q.quills key x }

/-- QUERY_START (R360, R379): the next query in table order, or one to be restarted, takes a free hardware context of a Quill within
its descriptor's scope. -/
def execQueryStart (c : Ctx) (q : QNum) (index : BitVec 32) (query : BitVec 16) (quill : Fin 384) (hw : Fin 64) (s : State) :
    Host.Outcome State Fault Refusal :=
  effectOn s (
    match searchJob s c.toNat q.val index.toNat with
    | none => s
    | some (j, b) =>
      let n := query.toNat
      let key := hwKey quill.val hw.val
      if (b.again.contains n || (decide (n = b.next) && decide (n < b.nq))) && ctxActive s c.toNat && admitting s && quillUp s quill.val &&
          (tblFind s.q.quills key).isNone && locContains b.place (quillLoc s quill.val) &&
          mayQuery s c.toNat then
        startQuery s j b n key
      else s)

/-! ## The walk (R362-R366) -/

/-- Rank order (R362). -/
def ranksBefore (a b : Nat × Nat) : Bool := decide (a.1 < b.1) || (decide (a.1 = b.1) && decide (a.2 < b.2))

/-- Insert an entry in rank order. -/
def insertRank {α : Type} (key : α → Nat × Nat) (x : α) : List α → List α
  | [] => [x]
  | y :: t => if ranksBefore (key x) (key y) then x :: y :: t else y :: insertRank key x t

/-- Admit an entry to a queue of a capacity (R364): the last one is dropped where the queue was full. -/
def admitTo {α : Type} (key : α → Nat × Nat) (cap : Nat) (x : α) (l : List α) : List α := (insertRank key x l).take cap

/-- The filter of a query (R363). -/
def passes (x : QuillCtx) (attr : Nat) : Bool :=
  decide (attr &&& x.allOf = x.allOf) && (decide (x.anyOf = 0) || decide (attr &&& x.anyOf ≠ 0))

/-- The two positions of a node in the visited filter. -/
def visitBits (n : Nat) : Nat × Nat := ((Config.visitHash n).1.toNat, (Config.visitHash n).2.toNat)

/-- A node counts as visited (R365). -/
def visited (x : QuillCtx) (n : Nat) : Bool := x.filter.contains (visitBits n).1 && x.filter.contains (visitBits n).2

/-- Mark a node visited. -/
def markVisited (x : QuillCtx) (n : Nat) : QuillCtx := { x with filter := addOnce (addOnce x.filter (visitBits n).1) (visitBits n).2 }

/-- Evaluate a node whose head part has been read (R364, R368, R369); true where its record is malformed. -/
def evalHead (x : QuillCtx) (bits n : Nat) (head : Bytes) : QuillCtx × Bool :=
  let h := leNat head
  if field h 0 40 ≠ n then ({ x with malformed := x.malformed + 1 }, true)
  else if bitOf h 40 then ({ x with stale := x.stale + 1 }, false)
  else
    let d := popCount bits (field h 128 bits ^^^ x.code)
    let x := { x with walkVisits := x.walkVisits + 1, visits := x.visits + 1,
                      cand := admitTo (fun e => (e.1, e.2.1)) x.l (d, n, false) x.cand }
    if passes x (field h 64 64) then ({ x with res := admitTo id x.k (d, n) x.res }, false)
    else ({ x with filtered := x.filtered + 1 }, false)

/-- What one group of nodes gave: the context, heads read, the first malformed node, and whether a head returned POISON. -/
structure EvalOut where
  x : QuillCtx
  heads : List Nat
  bad : Option Nat
  deriving DecidableEq, Repr

/-- Evaluate nodes in order until sixteen heads have been read, the visit limit is reached or POISON is read. -/
def evalNodes (s : State) (c : Nat) (b : SearchSt) : (todo : List Nat) → EvalOut → EvalOut
  | [], o => { o with x := { o.x with todo := [] } }
  | n :: t, o =>
    if o.heads.length = 16 then { o with x := { o.x with todo := n :: t } }
    else if b.nodes ≤ n then
      evalNodes s c b t { o with x := { o.x with malformed := o.x.malformed + 1 }, bad := some (o.bad.getD n) }
    else if visited o.x n then evalNodes s c b t o
    else
      let r := cvaBytes s c (headCva b.heads b.codew n) (16 + codeBytes b.codew)
      let x := markVisited o.x n
      if r.2 then { o with x := { x with poison := true, ended := true, todo := [] }, heads := n :: o.heads }
      else
        let (x, mal) := evalHead x (8 * codeBytes b.codew) n r.1
        let o := { x := x, heads := n :: o.heads, bad := if mal then some (o.bad.getD n) else o.bad }
        if x.walkVisits = x.maxVisit then { o with x := { x with limit := true, ended := true, todo := [] } }
        else evalNodes s c b t o

/-- Mark the first unexpanded candidate expanded. -/
def expandFirst : List (Nat × Nat × Bool) → Option (Nat × List (Nat × Nat × Bool))
  | [] => none
  | e :: t => if e.2.2 then (expandFirst t).map (fun r => (r.1, e :: r.2)) else some (e.2.1, (e.1, e.2.1, true) :: t)

/-- With nothing left to evaluate, the next candidate's list is fetched, or the walk ends (R366). -/
def nextCandidate (x : QuillCtx) : QuillCtx :=
  if x.ended || decide (x.todo ≠ []) || x.listOf.isSome then x
  else
    match expandFirst x.cand with
    | some (n, cand) => { x with cand := cand, expansions := x.expansions + 1, listOf := some n }
    | none => { x with ended := true }

/-- A malformed case is logged once per descriptor, with the graph record's CVA and the first node concerned (R369). -/
def noteMalformed (s : State) (x : QuillCtx) (b : SearchSt) (bad : Option Nat) : State :=
  match bad with
  | some n =>
    if b.logged then s
    else logEv (setSearch s (x.qkey / 16) (x.qkey % 16) x.idx { b with logged := true }) "QUILL_MALFORMED" [b.graphCva, n]
  | none => s

/-- Put back a hardware context. -/
def setHw (s : State) (key : Nat) (x : QuillCtx) : State := { s with q.quills := tblSet s.q.quills key x }

/-- The entry points of a query arrive (R355). -/
def entriesArrive (s : State) (c key : Nat) (x : QuillCtx) (b : SearchSt) : State :=
  let a := b.entries + 8 * x.efirst
  let n := 8 * (x.ecount + 1)
  if !cvaFree s c a n then askRanges s (saParts s c a n)
  else
    let (bs, bad) := cvaBytes s c a n
    let s := quillRead s key c [(a, n)]
    if bad then setHw s key { x with started := true, poison := true, ended := true }
    else setHw s key { x with started := true, todo := (List.range (x.ecount + 1)).map (fun i => leAt bs (8 * i) 8 % 2 ^ 40) }

/-- The neighbour list of a node arrives (R354); DEGREE is read with it from the first bytes of the node's head (R382). -/
def listArrives (s : State) (c key : Nat) (x : QuillCtx) (b : SearchSt) (n : Nat) : State :=
  let a := listCva b.nbrs b.maxdeg n
  let h := headCva b.heads b.codew n
  if !allFree s c [(a, listStride b.maxdeg), (h, 16)] then askAll s c [(a, listStride b.maxdeg), (h, 16)] []
  else if anyPoison s c [(a, listStride b.maxdeg), (h, 16)] then setHw s key { x with listOf := none, poison := true, ended := true }
  else
    let list := leNat (cvaBytes s c a (listStride b.maxdeg)).1
    let deg := field (leNat (cvaBytes s c h 16).1) 41 7
    let s := quillRead s key c [(a, listStride b.maxdeg), (h, 16)]
    let tooMany := decide (b.maxdeg < deg)
    let x := { x with listOf := none, todo := (List.range (min deg b.maxdeg)).map (neighbour list),
                      malformed := x.malformed + (if tooMany then 1 else 0) }
    let s := noteMalformed s x b (if tooMany then some n else none)
    setHw s key (nextCandidate x)

/-- Up to sixteen head parts arrive (R378). -/
def headsArrive (s : State) (c key : Nat) (x : QuillCtx) (b : SearchSt) : State :=
  let o := evalNodes s c b x.todo ⟨x, [], none⟩
  let rs := o.heads.reverse.map (fun n => (headCva b.heads b.codew n, 16 + codeBytes b.codew))
  if !allFree s c rs then askAll s c rs []
  else
    let s := noteMalformed (quillRead s key c rs) x b o.bad
    setHw s key (nextCandidate o.x)

/-- FETCH_RETURN (R364, R378): what a hardware context has been waiting for arrives, and its walk goes on to the next fetch. -/
def execFetchReturn (quill : Fin 384) (hw : Fin 64) (s : State) : Host.Outcome State Fault Refusal :=
  effectOn s (
    let key := hwKey quill.val hw.val
    match tblFind s.q.quills key with
    | none => s
    | some x =>
      let c := x.qkey / 16
      match searchJob s c (x.qkey % 16) x.idx with
      | none => s
      | some (_, b) =>
        if x.ended || !s.power.on then s
        else if !x.started then entriesArrive s c key x b
        else
          match x.listOf with
          | some n => listArrives s c key x b n
          | none => if x.todo = [] then setHw s key (nextCandidate x) else headsArrive s c key x b)

/-! ## The end of a query (R370-R376) -/

/-- The walk ended SHORT by exhausting its candidates and may widen (R371). -/
def widens (x : QuillCtx) (wlim : Nat) : Bool :=
  x.widen && decide (x.res.length < x.k) && !x.limit && !x.poison && decide (x.l < wlim)

/-- How a query ended. -/
def queryStatus (x : QuillCtx) : Status := if x.poison then .poison else if x.res.length < x.k then .short else .ok

/-- The header of a result record (R372). -/
def resultHeader (x : QuillCtx) : Nat :=
  let found := if x.poison then 0 else x.res.length
  statusCode (queryStatus x) + (if x.limit && !x.poison then 2 ^ 8 else 0) + found * 2 ^ 16 + x.l * 2 ^ 32 + x.widens * 2 ^ 41 +
    x.visits % 2 ^ 32 * 2 ^ 64 + x.expansions % 2 ^ 32 * 2 ^ 96 + x.stale % 2 ^ 32 * 2 ^ 128 + x.filtered % 2 ^ 32 * 2 ^ 160

/-- The bytes a query writes: its header and the entries found (R372-R374). -/
def resultBytes (x : QuillCtx) : Bytes :=
  natLe 32 (resultHeader x) ++ (if x.poison then [] else (x.res.map (fun e => natLe 8 (e.2 + e.1 * 2 ^ 40))).flatten)

/-- The counters of OD 0x2801 that a query's end adds to. -/
def countQuery (s : State) (x : QuillCtx) : State :=
  let s := odBump s (odKey 0x2801 1) 1
  let s := if queryStatus x = .short then odBump s (odKey 0x2801 2) 1 else s
  let s := odBump (odBump s (odKey 0x2801 3) x.widens) (odKey 0x2801 4) x.visits
  odBump (odBump s (odKey 0x2801 5) x.stale) (odKey 0x2801 6) x.malformed

/-- Regions that a query's result must not share with (R361): the results of the other queries, the graph's parts and the query table. -/
def otherRegions (b : SearchSt) (n : Nat) (d : Nat) : List (Nat × Nat) :=
  (((List.range b.nq).filter (· != n)).map (fun i => (field (b.queries.getD i 0) 320 64, 32 + 8 * field (b.queries.getD i 0) 0 11))) ++
    [(b.graphCva, 64), (b.heads, b.nodes * headStride b.codew), (b.nbrs, b.nodes * listStride b.maxdeg), (b.entries, 8 * b.nentry), (d, 64 * b.nq)]

/-- The bytes a query writes, those that lie in another region taken from free values: their content is unpredictable (R361). -/
def sharedBytes (draw cva : Nat) (regions : List (Nat × Nat)) (data : Bytes) : Bytes :=
  (data.zip (List.range data.length)).map (fun p =>
    if regions.any (fun r => decide (r.1 ≤ cva + p.2) && decide (cva + p.2 < r.1 + r.2)) then BitVec.ofNat 8 (Config.freeNat (draw + p.2)) else p.1)

/-- A query ends: its result record, its counts and its place in the descriptor's record; the descriptor's work ends with its last
query. -/
def endQuery (s : State) (key : Nat) (x : QuillCtx) (j : Job) (b : SearchSt) : State :=
  let data := sharedBytes s.free x.result (otherRegions b x.query b.qtab) (resultBytes x)
  let s := cvaWrite { s with free := s.free + data.length } (quillAgent (key / 64)) j.ctx x.result data
  let s := countQuery s x
  let s := { s with q.quills := tblErase s.q.quills key }
  let ended := b.ended ++ [⟨queryStatus x, x.widens, x.visits, x.stale, x.malformed⟩]
  let s := setSearch s j.ctx j.queue j.idx { b with ended := ended }
  if ended.length = b.nq then
    jobEnd s j.ctx j.queue j.idx (searchRecord j.op j.tag (statusOf (ended.map (·.status))) ended)
  else s

/-- QUERY_END (R366, R371): a walk that has ended widens, or its query writes its result and frees its hardware context. -/
def execQueryEnd (quill : Fin 384) (hw : Fin 64) (s : State) : Host.Outcome State Fault Refusal :=
  effectOn s (
    let key := hwKey quill.val hw.val
    match tblFind s.q.quills key with
    | none => s
    | some x =>
      let c := x.qkey / 16
      match searchJob s c (x.qkey % 16) x.idx with
      | none => s
      | some (j, b) =>
        if !x.ended || cutOver s || !s.power.on then s
        else if widens x b.wlim then setHw s key { walkStart x (min (2 * x.l) b.wlim) with widens := x.widens + 1 }
        else if !cvaTakes s c x.result (resultBytes x).length then askWrites s (saParts s c x.result (resultBytes x).length)
        else endQuery s key x j b)

/-- A Quill has been replaced or withdrawn: each query it held is to be restarted from its first walk (R380). -/
def restartQueries (s : State) (quill : Nat) : State :=
  (s.q.quills.filter (fun e => decide (e.1 / 64 = quill))).foldl (fun s e =>
    let x := e.2
    let s := odBump { s with q.quills := tblErase s.q.quills e.1 } (odKey 0x2801 7) 1
    match searchJob s (x.qkey / 16) (x.qkey % 16) x.idx with
    | some (j, b) => setSearch s j.ctx j.queue j.idx { b with again := b.again ++ [x.query] }
    | none => s) s

/-! ## STALE_SCAN (R386-R388) -/

/-- Progress of a scan: records found (newest first), edges examined, next node, lines read, whether POISON ended it or its output is
full, malformed cases, and the first node concerned. -/
structure Scan where
  recs : List Nat
  edges : Nat
  next : Nat
  reads : List (Nat × Nat)
  poison : Bool
  full : Bool
  mal : Nat
  bad : Option Nat
  deriving DecidableEq, Repr

/-- A scan meets a malformed case at a node (R369). -/
def scanMalformed (z : Scan) (n : Nat) : Scan := { z with mal := z.mal + 1, bad := some (z.bad.getD n) }

/-- Cause of a stale edge to a target, none where the edge is good; the head read and whether it returned POISON (R387). -/
def edgeCause (s : State) (c : Nat) (g : Graph) (t : Nat) : Option Nat × List (Nat × Nat) × Bool :=
  if g.nodes ≤ t then (some 1, [], false)
  else
    let a := headCva g.heads g.codew t
    let r := cvaBytes s c a 16
    let h := leNat r.1
    (if field h 0 40 ≠ t then some 2 else if bitOf h 40 then some 0 else none, [(a, 16)], r.2)

/-- One edge of a scan. -/
def scanEdge (s : State) (c : Nat) (g : Graph) (cap n : Nat) (list : Nat) (z : Scan) (j : Nat) : Scan :=
  if z.poison || z.full then z
  else
    let t := neighbour list j
    let (cause, rs, bad) := edgeCause s c g t
    if bad then { z with poison := true, reads := z.reads ++ rs }
    else
      match cause with
      | none => { z with edges := z.edges + 1, reads := z.reads ++ rs }
      | some k =>
        if z.recs.length = cap then { z with full := true, reads := z.reads ++ rs, edges := z.edges + 1 }
        else
          let z := { z with edges := z.edges + 1, reads := z.reads ++ rs, recs := (n + j * 2 ^ 40 + k * 2 ^ 46 + t * 2 ^ 64) :: z.recs }
          if k = 0 then z else scanMalformed z t

/-- One node of a scan; a node whose stale edges do not all fit is the first one not scanned. One whose NODE_ID differs from its index is
skipped like a tombstone (R369, R388). -/
def scanNode (s : State) (c : Nat) (g : Graph) (cap : Nat) (z : Scan) (n : Nat) : Scan :=
  if z.poison || z.full then z
  else if z.recs.length = cap then { z with full := true }
  else
    let a := headCva g.heads g.codew n
    let r := cvaBytes s c a 16
    let h := leNat r.1
    if r.2 then { z with poison := true, reads := z.reads ++ [(a, 16)] }
    else if field h 0 40 ≠ n then scanMalformed { z with next := n + 1, reads := z.reads ++ [(a, 16)] } n
    else if bitOf h 40 then { z with next := n + 1, reads := z.reads ++ [(a, 16)] }
    else
      let l := listCva g.nbrs g.maxdeg n
      let b := cvaBytes s c l (listStride g.maxdeg)
      let z := { z with reads := z.reads ++ [(a, 16), (l, listStride g.maxdeg)] }
      if b.2 then { z with poison := true }
      else
        let z := if g.maxdeg < field h 41 7 then scanMalformed z n else z
        let z := (List.range (min (field h 41 7) g.maxdeg)).foldl (scanEdge s c g cap n (leNat b.1)) z
        if z.poison || z.full then z else { z with next := n + 1 }

/-- The completion record of a STALE_SCAN (R375). -/
def scanRecord (op tag : Nat) (z : Scan) : Nat :=
  recHead (if z.poison then .poison else .ok) op tag + capTo 32 z.recs.length * 2 ^ 96 + z.next * 2 ^ 160 +
    capTo 32 z.mal * 2 ^ 200

/-- The scan of a STALE_SCAN's nodes in ID order. -/
def scanNodes (s : State) (c : Nat) (g : Graph) (d : Nat) : Scan :=
  (List.range (field d 168 40)).foldl (fun z i => scanNode s c g (field d 208 24) z (field d 128 40 + i)) ⟨[], 0, field d 128 40, [], false, false, 0, none⟩

/-- The bytes of a scan's records, in the order in which they were found. -/
def scanBytes (z : Scan) : Bytes := (z.recs.reverse.map (natLe 16)).flatten

/-- A STALE_SCAN that has read its lines: its records are written, its edges and malformed cases count, and it completes (R369,
R386-R388). -/
def scanEnds (s : State) (c q : Nat) (x : Queue) (d : Nat) (z : Scan) : State :=
  let s := odBump (odBump (firmRead s c z.reads) (odKey 0x2801 8) z.edges) (odKey 0x2801 6) z.mal
  let s := match z.bad with
    | some n => logEv s "QUILL_MALFORMED" [field d 256 64, n]
    | none => s
  addJob (cvaWrite s firmwareAgent c (field d 320 64) (scanBytes z)) c q x d .plain (some (scanRecord (dOp d) (dTag d) z))

/-- Dispatch a STALE_SCAN: the serving scribe core scans the nodes in ID order. -/
def doStaleScan (s : State) (c q : Nat) (x : Queue) (d : Nat) : State :=
  let first := field d 128 40
  let count := field d 168 40
  let cap := field d 208 24
  let gcva := field d 256 64
  let out := field d 320 64
  if count = 2 ^ 40 - 1 then quillEnd s c q x d .reservedLength
  else if count = 0 ∨ cap = 0 ∨ out % 16 ≠ 0 ∨ !recordOk s c gcva then quillEnd s c q x d .range
  else if !cvaFree s c gcva 64 then askRanges s (saParts s c gcva 64)
  else if (cvaBytes s c gcva 64).2 then quillEnd s c q x d .poison
  else
    let g := graphOf gcva (leNat (cvaBytes s c gcva 64).1)
    if !graphOk s c g false || decide (g.nodes < first + count) || !pinnedOk s c out (16 * cap) .write then quillEnd s c q x d .range
    else
      let z := scanNodes s c g d
      let ws := [(out, (scanBytes z).length)]
      if !allFree s c z.reads || !allTake s c ws then askAll s c z.reads ws else scanEnds s c q x d z

/-- STALE_SCAN (R386-R388). -/
def execStaleScan (c : Ctx) (q : QNum) (s : State) : Host.Outcome State Fault Refusal :=
  effectOn s (if cutOver s then s else
    dispatchAs s c.toNat q.val [6] (fun d => dOp d = 0x61) (fun s x d => doStaleScan s c.toNat q.val x d))

end Sys2Proof.Machine
end

