-- ==== Sys2Proof/Machine/Cartridge.lean ====
section
/-! DEFINITION. Store cartridges (R393-R423): identity and membership, slot states and commands, losses, rebuilds and re-silvers,
unit reads and writes, wear and scrubbing. Slot state codes stand in the order of R411. -/

namespace Sys2Proof.Machine

/-! ## Slots and groups -/

/-- The media scribe core of a slot runs: it does the identity checks, rebuilds, evacuations, re-silvers, scrubbing and wear polls of the
cartridges on its die (R521), which wait while it restarts and stop when it is retired (R545, R547). -/
def mediaUp (s : State) (n : Nat) : Bool := procRunning s (48 + n / 4)

/-- Set the state of a slot. -/
def setSlotState (s : State) (n code : Nat) : State := odSet s (odKey 0x8001 n) code

/-- Put back a slot. -/
def setCart (s : State) (n : Nat) (x : Slot) : State := { s with cart.slots := tblSet s.cart.slots n x }

/-- The result of a slot command (R412): 1 IN_PROGRESS, 2 DONE, 3 NO_SPARE, 4 GROUP_STATE, 5 BAD_STATE. -/
def slotResult (s : State) (n code : Nat) : State := odSet s (odKey 0x8003 n) code

/-- Group state: 0 HEALTHY, 1 DEGRADED, 2 LOST. -/
def groupState (s : State) (g : Nat) : Nat := odGet s (odKey 0x8010 g)

/-- The hot-spare slots (R393). -/
def spareSlots : List Nat := [27, 31]

/-- Position of a slot in service (R393), none for a hot spare. -/
def nominalPos (n : Nat) : Option (Nat × Nat) := (nominalServing.find? (fun e => decide (e.2 = n))).map (fun e => (e.1 / 10, e.1 % 10))

/-- The position a slot is recorded at. -/
def servedPos (s : State) (n : Nat) : Option (Nat × Nat) := (s.cart.serving.find? (fun e => decide (e.2 = n))).map (fun e => (e.1 / 10, e.1 % 10))

/-- Record a slot at a position. -/
def servePos (s : State) (g p n : Nat) : State := { s with cart.serving := tblSet s.cart.serving (g * 10 + p) n }

/-- Roles of a membership record: 0 member, 1 spare, 2 stand-in, 3 a target not yet whole (log entry 60). -/
def roleOf (code : Nat) : Nat := if code = 5 then 1 else if code = 6 then 2 else if code = 7 ∨ code = 8 then 3 else 0

/-- The state of a slot that serves its position: MEMBER at its own, STANDIN at another's. -/
def servingCode (s : State) (n : Nat) : Nat := if servedPos s n = nominalPos n then 4 else 6

/-- The membership record of a slot as it now stands (R409). -/
def recordOf (s : State) (n : Nat) : Membership :=
  let gp := (servedPos s n).getD (((cartSlot s n).pos).getD (0, 0))
  let code := if slotState s n = 9 then servingCode s n else slotState s n
  ⟨Config.serial, n, gp.1, gp.2, roleOf code, odGet s (odKey 0x8011 gp.1)⟩

/-- MWRITE of a slot's record, or of none (R397). -/
def writeRecordOf (s : State) (n : Nat) (r : Option Membership) : State :=
  setCart (emit s (.cart n .mwrite 0 [])) n { cartSlot s n with writing := some r }

/-- A group's membership has changed: its generation rises, and the records of its cartridges are written (R409). -/
def groupChanged (s : State) (g : Nat) : State :=
  let s := odSet s (odKey 0x8011 g) ((odGet s (odKey 0x8011 g) + 1) % 2 ^ 32)
  (List.range 32).foldl (fun s n =>
    let mine := decide ((servedPos s n).map (·.1) = some g) || decide ((cartSlot s n).pos.map (·.1) = some g)
    if mine && slotCounts (slotState s n) then writeRecordOf s n (some (recordOf s n)) else s) s

/-- Stage 2 has closed: the groups are in use. -/
def groupsUp (s : State) : Bool := match s.boot.next with | some n => decide (3 ≤ n) | none => false

/-- Rows of a group of which at least three units are lost begin here, where any are (R418). -/
def lostFrom (s : State) (g : Nat) : Option Nat :=
  let ns := (List.range 10).map (slotAt s g)
  let whole (o : Option Nat) : Bool := match o with | some n => [4, 6, 9].contains (slotState s n) | none => false
  let done (o : Option Nat) : Nat := match o with | some n => (if slotState s n = 7 then rowsDone s n else 0) | none => 0
  let ds := ((ns.filter (fun o => !whole o)).map done).foldr (fun d l => insertRank (fun x => (x, 0)) d l) []
  match ds with
  | _ :: _ :: d :: _ => if d < 2 ^ 30 then some d else none
  | _ => none

/-- Lines of a context's T2 frames within rows that cannot be decoded, unless the cache region holds them (R418). -/
def lostLines (s : State) (g row : Nat) : List Nat :=
  ((s.tier.t2.filter (fun r => decide (r.ctx ≠ 0))).map (fun r =>
    (((List.range r.count).map (· + r.start)).filter (fun f => decide (grpOf f = g) && decide (row ≤ rowOf2 f))).map (fun f =>
      ((List.range 32).map (· + f * 32)).filter (fun l => !lineCached s l)) |>.flatten)).flatten

/-- Contexts that own T2 frames in a group. -/
def groupOwners (s : State) (g : Nat) : List Nat :=
  ((s.tier.t2.filter (fun r => decide (r.ctx ≠ 0) && (List.range r.count).any (fun i => decide (grpOf (r.start + i) = g)))).map (·.ctx)).eraseDups

/-- A group becomes LOST (R418). -/
def groupLost (s : State) (g row : Nat) : State :=
  let s := odSet s (odKey 0x8010 g) 2
  let s := (lostLines s g row).foldl poisonLine s
  (groupOwners s g).foldl (fun s c => tierFlag s c 6 true) s

/-- The state of a group follows its positions; LOST stays (R418). -/
def settleGroup (s : State) (g : Nat) : State :=
  if groupState s g = 2 then s
  else
    match lostFrom s g with
    | some row => groupLost s g row
    | none =>
      let whole := (List.range 10).all (fun p => match slotAt s g p with | some n => [4, 6, 9].contains (slotState s n) | none => false)
      odSet s (odKey 0x8010 g) (if whole then 0 else 1)

/-- Every group, and the degradation cause (R418, R568). -/
def settleGroups (s : State) : State :=
  if groupsUp s then
    let s := settleGroup (settleGroup (settleGroup s 0) 1) 2
    setCause s 4 ([0, 1, 2].any (fun g => decide (groupState s g ≠ 0)))
  else s

/-! ## Spares (R415) -/

/-- Members of a group on a media die. -/
def membersOn (s : State) (g die : Nat) : Nat :=
  ((List.range 10).filter (fun p => match slotAt s g p with | some n => decide (n / 4 = die) | none => false)).length

/-- A free hot spare: the one whose media die would then hold fewer members of the group, then the lower slot (R415). -/
def freeSpare (s : State) (g : Nat) : Option Nat :=
  match spareSlots.filter (fun n => decide (slotState s n = 5)) with
  | a :: b :: _ => if membersOn s g (b / 4) < membersOn s g (a / 4) then some b else some a
  | [a] => some a
  | [] => none

/-- A slot becomes a rebuild target of a position; `src` is the slot it is copied from, where there is one. -/
def startTarget (s : State) (n g p : Nat) (code : Nat) (src : Option Nat) : State :=
  let s := odSet (setSlotState s n code) (odKey 0x8103 n) 0
  let s := setCart s n { cartSlot s n with pos := some (g, p), source := src }
  sendUnit s n 0 p (unitAt s g 0 p)

/-- The position of a failed slot is given to a free spare, which is rebuilt (R415). -/
def replaceMember (s : State) (g p : Nat) : State :=
  match freeSpare s g with
  | some n => groupChanged (startTarget (servePos s g p n) n g p 7 none) g
  | none => logEv s "CART_NO_SPARE" [g, p]

/-- The evacuation of a slot to a free spare begins (R412, R421). -/
def startEvac (s : State) (src n g p : Nat) (goal : SlotGoal) : State :=
  let s := setCart s src { cartSlot s src with goal := goal }
  groupChanged (startTarget s n g p 7 (some src)) g

/-- The slot that is copied from `n`, if any. -/
def targetOf (s : State) (n : Nat) : Option Nat :=
  (List.range 32).find? (fun k => (decide (slotState s k = 7) || decide (slotState s k = 8)) && decide ((cartSlot s k).source = some n))

/-- A slot that serves nothing any more is forgotten as a target. -/
def clearTarget (s : State) (n : Nat) : State :=
  odSet (setCart s n { cartSlot s n with pos := none, source := none }) (odKey 0x8103 n) 0

/-- An evacuation ends without its target: another free spare takes it, or the source goes on serving (R413). -/
def retryEvac (s : State) (src g p : Nat) : State :=
  let x := cartSlot s src
  match freeSpare s g with
  | some n => startEvac s src n g p x.goal
  | none =>
    if x.goal = .life then logEv s "CART_NO_SPARE" [g, p] else slotResult (setCart s src { x with goal := .none }) src 3

/-- A slot leaves service: what it served is replaced, what it was a target of ends, what was copied from it goes on by
reconstruction (R415, R418). Its new state is `code`. -/
def loseSlot (s : State) (n code : Nat) : State :=
  let x := cartSlot s n
  let served := servedPos s n
  let target := targetOf s n
  let s := clearTarget (setSlotState s n code) n
  let s := setCart s n { cartSlot s n with goal := .none, nonce := none }
  let s := journalStep 2 { s with tier.jwrites := s.tier.jwrites.filter (· != n) }
  let rows : List (Nat × RowWrite) := s.cart.rows.map (fun e => (e.1, { e.2 with waitFor := e.2.waitFor.filter (· != n) }))
  let s := { s with cart.rows := rows }
  let s := (rows.filter (fun e => e.2.waitFor = [])).foldl (fun s e => endRowWrite s e.1 e.2) s
  let s :=
    match served, target with
    | some (g, p), some k =>
      let s := setCart (setSlotState (servePos s g p k) k 7) k { cartSlot s k with source := none, pos := some (g, p) }
      groupChanged s g
    | some (g, p), none => if groupsUp s then replaceMember s g p else s
    | none, _ =>
      match x.source, x.pos with
      | some src, some (g, p) => if (cartSlot s src).goal = .none then s else retryEvac s src g p
      | _, _ => s
  settleGroups s

/-! ## Wear (R419-R422) -/

/-- Remaining life in per mille (R420). -/
def lifeOf (rated bytes : Nat) : Nat :=
  if rated = 0 ∨ rated * 2 ^ 42 ≤ bytes then 0 else 1000 * (rated * 2 ^ 42 - bytes) / (rated * 2 ^ 42)

/-- A cartridge reports its media bytes (R419, R420). -/
def setWear (s : State) (n bytes : Nat) : State :=
  odSet (odSet s (odKey 0x8101 n) bytes) (odKey 0x8100 n) (lifeOf (cartSlot s n).rated bytes)

/-- What low and zero life bring (R421). Without a free spare the slot stays in service as RETIRING, and CART_NO_SPARE is logged once. -/
def actOnLife (s : State) (n : Nat) : State :=
  let life := odGet s (odKey 0x8100 n)
  let x := cartSlot s n
  let s := if life ≤ odGet s (odKey 0x8000 3) ∧ !x.wearLow then logEv (setCart s n { x with wearLow := true }) "CART_WEAR_LOW" [n] else s
  if life = 0 ∧ odGet s (odKey 0x8000 5) = 1 ∧ (targetOf s n).isNone then
    match servedPos s n, freeSpare s ((servedPos s n).getD (0, 0)).1 with
    | some (g, p), some k =>
      if [4, 6, 9].contains (slotState s n) then startEvac (setSlotState s n 9) n k g p (if x.goal = .none then .life else x.goal) else s
    | some (g, p), none =>
      if slotState s n = 4 ∨ slotState s n = 6 then
        logEv (setCart (setSlotState s n 9) n { cartSlot s n with goal := .life }) "CART_NO_SPARE" [g, p]
      else s
    | none, _ => s
  else s

/-- A spare appears: the evacuations of slots without life that had none start, in slot order (R421). -/
def spareAppears (s : State) : State :=
  (List.range 32).foldl (fun s n => if slotState s n = 9 then actOnLife s n else s) s

/-- WEAR (R419): a cartridge reports its media bytes written. -/
def execWear (slot : Fin 32) (bytes : BitVec 64) (s : State) : Host.Outcome State Fault Refusal :=
  effectOn s (if slotCounts (slotState s slot.val) && mediaUp s slot.val then actOnLife (setWear s slot.val bytes.toNat) slot.val else s)

/-- WEAR_POLL (R419, R421): the device reads WEAR from every cartridge in service. -/
def execWearPoll (s : State) : Host.Outcome State Fault Refusal :=
  effectOn s (((journalSlots s).filter (mediaUp s)).foldl (fun s n => actOnLife (emit s (.cart n .wear 0 [])) n) s)

/-! ## Identity and membership (R407-R410) -/

/-- A slot with a cartridge in it begins its identity check (R407). -/
def beginIdentity (s : State) (n : Nat) : State :=
  let s := setCart s n { emptySlot with present := true, powered := true, record := (cartSlot s n).record }
  emit (setSlotState s n 1) (.cart n .identify 0 [])

/-- CART_INSERTED (R396, R407): the slot is powered and its link trained; without all four lanes it is FAILED. -/
def execCartInserted (slot : Fin 32) (fourLanes : Bool) (s : State) : Host.Outcome State Fault Refusal :=
  effect s (
    let n := slot.val
    let up := s.power.on && (match s.boot.next with | some k => decide (2 ≤ k) | none => false)
    if slotState s n = 0 ∧ up then
      if fourLanes then
        let s := beginIdentity s n
        setCart s n { cartSlot s n with inserted := groupsUp s }
      else setSlotState (setCart s n { emptySlot with present := true, powered := true }) n 10
    else if slotState s n = 0 then setCart s n { emptySlot with present := true }
    else s)

/-- A cartridge is refused (R408): 2 CERT, 3 REVOKED, 4 CHALLENGE. -/
def refuseCart (s : State) (n step : Nat) : State :=
  let s := odSet (setSlotState s n 2) (odKey 0x8005 n) step
  odBump (logEv (setCart s n { cartSlot s n with nonce := none }) "CART_REFUSED" [n, step]) (odKey 0x8201 5) 1

/-- Revoked cartridge certificates (OD 0x8200.01). -/
def revokedCerts (s : State) : List Nat :=
  let b := blobGet s (odKey 0x8200 1)
  (List.range (b.length / 32)).map (fun i => beNat ((b.drop (32 * i)).take 32))

/-- A fresh nonce of 32 bytes (R407). -/
def freshNonce (s : State) : Bytes × State :=
  let (a, s) := draw s
  (natBe 32 (a % 2 ^ 256), s)

/-- IDENTIFY (R407): steps 1 to 3 of the check; then the nonce of step 4 goes out. -/
def execIdentify (slot : Fin 32) (cert : CertInfo) (s : State) : Host.Outcome State Fault Refusal :=
  effectOn s (
    let n := slot.val
    if slotState s n ≠ 1 ∨ (cartSlot s n).nonce.isSome ∨ !mediaUp s n then s
    else if !cert.sigsOk || decide (cert.rootHash ≠ Config.cartRoot) || !cert.extOk then refuseCart s n 2
    else if (revokedCerts s).contains cert.certHash.toNat then refuseCart s n 3
    else
      let (nonce, s) := freshNonce s
      let s := setCart s n { cartSlot s n with certHash := cert.certHash.toNat, modulus := cert.modulus.toNat, rated := cert.endurance,
                                               serial := cert.serial, nonce := some nonce }
      let s := blobSet s (odKey 0x8004 n) (cert.serial.take 32)
      emit s (.cart n .challenge 0 nonce))

/-- CART_CHALLENGE (R407, R419, R422): the signature over nonce, certificate hash and wear count is checked. A cartridge without life is
WORN at insertion; at bring-up its record decides first, since one in service keeps serving (R421). -/
def execCartChallenge (slot : Fin 32) (wear : BitVec 64) (signature : Bytes) (s : State) : Host.Outcome State Fault Refusal :=
  effectOn s (
    let n := slot.val
    let x := cartSlot s n
    match x.nonce with
    | none => s
    | some nonce =>
      if slotState s n ≠ 1 ∨ !mediaUp s n then s
      else if !rsaOk x.modulus (nonce ++ natBe 32 x.certHash ++ natLe 8 wear.toNat) signature then refuseCart s n 4
      else
        let s := setWear (setCart s n { x with nonce := none }) n wear.toNat
        if odGet s (odKey 0x8100 n) = 0 ∧ x.inserted then odSet (setSlotState s n 11) (odKey 0x8005 n) 5
        else emit (odSet s (odKey 0x8005 n) 1) (.cart n .mread 0 []))

/-- The role that the device expects of a slot: in service at the position it is recorded at, or a hot spare (R409). -/
def expected (s : State) (n : Nat) (r : Membership) : Option Nat :=
  match servedPos s n with
  | some (g, p) =>
    let role := if nominalPos n = some (g, p) then 0 else 2
    if r.slot = n ∧ r.group = g ∧ r.position = p ∧ r.role = role ∧ r.generation = odGet s (odKey 0x8011 g) then
      some (if role = 0 then 4 else 6)
    else none
  | none => if spareSlots.contains n ∧ r.slot = n ∧ r.role = 1 then some 5 else none

/-- A blank cartridge (R409, R417): WORN where it has no life left (R422); SPARE in a spare slot, otherwise re-silvered from its stand-in, or rebuilt in place. -/
def takeBlank (s : State) (n : Nat) : State :=
  let s := clearTarget s n
  if odGet s (odKey 0x8100 n) = 0 then odSet (setSlotState s n 11) (odKey 0x8005 n) 5
  else
  match servedPos s n, nominalPos n with
  | some (g, p), _ => settleGroups (groupChanged (startTarget s n g p 7 none) g)
  | none, some (g, p) =>
    (match slotAt s g p with
     | some k =>
       if slotCounts (slotState s k) then groupChanged (startTarget s n g p 8 (some k)) g
       else settleGroups (groupChanged (startTarget (servePos s g p n) n g p 7 none) g)
     | none => settleGroups (groupChanged (startTarget (servePos s g p n) n g p 7 none) g))
  | none, none =>
    let s := setSlotState s n 5
    spareAppears (writeRecordOf s n (some (recordOf s n)))

/-- CART_MREAD (R409): the slot takes its role from its membership record. -/
def execCartMread (slot : Fin 32) (rec : Option Membership) (s : State) : Host.Outcome State Fault Refusal :=
  effectOn s (
    let n := slot.val
    if slotState s n ≠ 1 ∨ odGet s (odKey 0x8005 n) ≠ 1 ∨ !mediaUp s n then s
    else
      let s := setCart s n { cartSlot s n with record := rec }
      match rec with
      | none => takeBlank s n
      | some r =>
        if r.serial ≠ Config.serial then setSlotState s n 3
        else
          match expected s n r with
          | some code =>
            let s := settleGroups (setSlotState s n code)
            if code = 5 then spareAppears s else s
          | none => takeBlank s n)

/-- CART_MWRITE (R397): the membership record is durable. -/
def execCartMwrite (slot : Fin 32) (s : State) : Host.Outcome State Fault Refusal :=
  effectOn s (
    match (cartSlot s slot.val).writing with
    | some r => setCart s slot.val { cartSlot s slot.val with record := r, writing := none }
    | none => s)

/-! ## Reads, writes and scrubbing (R402-R406) -/

/-- READS (R402): the sectors of a line of T2 arrive; a missing one is decoded from eight other members. -/
def execReads (line : Line) (errors : List (Fin 10)) (s : State) : Host.Outcome State Fault Refusal :=
  effectOn s (
    let l := line.toNat
    let f := l / 32
    let g := grpOf f
    let row := rowOf2 f
    if !inT2 (l * 128) 128 || (frameOwner s f).isNone || lineCached s l || (tblFind s.cart.rows (rowKey f)).isSome || !groupsUp s then s
    else
      let gone := (List.range 10).filter (fun p => (missingAt s g row).contains p || (errors.map (·.val)).contains p)
      if !gone.contains (posOf row (f % 8)) then cacheFill s l
      else if gone.length ≤ 2 then cacheFill (odBump s (odKey 0x8201 1) 1) l
      else poisonLine s l)

/-- A unit is recomputed and rewritten (R405). -/
def repairUnit (s : State) (g row p : Nat) : State :=
  (unitSlots s g row p).foldl (fun s n => sendUnit s n row p (unitAt s g row p)) (odBump s (odKey 0x8201 2) 1)

/-- READU (R405): a unit that fails its CRC or NUM is recomputed from the others and rewritten. -/
def execReadu (slot : Fin 32) (row : BitVec 30) (content : Bytes) (meta_ : BitVec 128) (s : State) : Host.Outcome State Fault Refusal :=
  effectOn s (
    match servedPos s slot.val with
    | none => s
    | some (g, p) =>
      let row := row.toNat
      let good := decide (crc32c content = field meta_.toNat 0 32) && decide (field meta_.toNat 34 30 = row)
      if good || !slotReads s slot.val row || (tblFind s.cart.rows (g * 2 ^ 30 + row)).isSome || cutOver s then s
      else if (addOnce (missingAt s g row) p).length ≤ 2 then repairUnit s g row p
      else groupLost s g row)

/-- A target of a rebuild has its next row durable: the row after it is written (R416, R417). -/
def rowDone (s : State) (n row : Nat) : State :=
  match (cartSlot s n).pos with
  | some (g, p) =>
    if (slotState s n = 7 ∨ slotState s n = 8) ∧ rowsDone s n = row ∧ row + 1 < 2 ^ 30 then
      sendUnit (odSet s (odKey 0x8103 n) (row + 1)) n (row + 1) p (unitAt s g (row + 1) p)
    else s
  | none => s

/-- WRITEU (R403, R416): a unit is durable; the lines of a row are clean when every unit write of it has been acknowledged. -/
def execWriteu (slot : Fin 32) (row : BitVec 30) (s : State) : Host.Outcome State Fault Refusal :=
  effectOn s (
    let n := slot.val
    match s.cart.rows.find? (fun e => decide (e.1 % 2 ^ 30 = row.toNat) && e.2.waitFor.contains n) with
    | some (k, w) =>
      let w := { w with waitFor := w.waitFor.filter (· != n) }
      if w.waitFor = [] then endRowWrite s k w else { s with cart.rows := tblSet s.cart.rows k w }
    | none => if cutOver s || !mediaUp s n then s else rowDone s n row.toNat)

/-- One row of a group is read: bad units are repaired, and P and Q are recomputed where all data units pass and the parity disagrees
(R406). -/
def scrubOne (s : State) (g row : Nat) (bad : List Nat) (parityDiffers : Bool) : State :=
  let scrubbed (p : Nat) : Bool := match slotAt s g p with | some n => mediaUp s n | none => false
  let bads := (List.range 10).filter (fun p => bad.contains p && posReads s g row p && scrubbed p)
  let next := s.cart.scrubRow + 1
  let pass := decide (next = 3 * 2 ^ 30)
  let s := { s with cart.scrubRow := if pass then 0 else next, cart.scrubTwice := s.cart.scrubTwice && !pass }
  let dataBad := bads.any (fun p => decide ((p + 10 - row % 10) % 10 < 8))
  if 2 < (missingAt s g row).length + bads.length then groupLost s g row
  else
    let s := bads.foldl (fun s p => repairUnit s g row p) s
    if parityDiffers && !dataBad then
      ([posOf row 8, posOf row 9].filter (fun p => !bads.contains p && scrubbed p)).foldl (fun s p => repairUnit s g row p) s
    else s

/-- SCRUB (R406). -/
def execScrub (group : Fin 3) (row : BitVec 30) (bad : List (Fin 10)) (parityDiffers : Bool) (s : State) : Host.Outcome State Fault Refusal :=
  effectOn s (
    if (odGet s (odKey 0x8000 4) = 0 ∧ !s.cart.scrubTwice) ∨ !groupsUp s ∨ cutOver s ∨
        (tblFind s.cart.rows (group.val * 2 ^ 30 + row.toNat)).isSome then s
    else scrubOne s group.val row.toNat (bad.map (·.val)) parityDiffers)

/-! ## Losses, rebuilds and re-silvers (R414-R418) -/

/-- CART_FAILED (R414): the slot answers no command. -/
def failCart (s : State) (n : Nat) : State :=
  if [0, 10, 12].contains (slotState s n) then s else loseSlot (logEv s "CART_FAILED" [n]) n 10

/-- CART_FAILED (R414). -/
def execCartFailed (slot : Fin 32) (s : State) : Host.Outcome State Fault Refusal :=
  effectOn s (if s.power.on then failCart s slot.val else s)

/-- CART_REMOVED (R412): without PREPARE_EJECT, a failure of the slot; no cartridge is present afterwards. -/
def execCartRemoved (slot : Fin 32) (s : State) : Host.Outcome State Fault Refusal :=
  effect s (
    let n := slot.val
    if !(cartSlot s n).present then s
    else
      let s := if s.power.on then failCart s n else s
      setSlotState (setCart s n emptySlot) n 0)

/-- A slot is powered off for removal, its locator lit (R412). -/
def powerOffSlot (s : State) (n : Nat) : State :=
  setSlotState (setCart s n { cartSlot s n with powered := false, locator := true, goal := .none, nonce := none }) n 12

/-- The last row of a rebuild or of an evacuation of position `p` of group `g` has been written to slot `n` (R413, R416). -/
def rebuildEnds (s : State) (n g p : Nat) : State :=
  let x := cartSlot s n
  let s := odBump s (odKey 0x8102 n) (4096 * (2 ^ 30 - 1 - rowsDone s n))
  let s := odSet (setSlotState s n (if nominalPos n = some (g, p) then 4 else 6)) (odKey 0x8103 n) (2 ^ 30)
  let s := servePos (setCart s n { cartSlot s n with source := none }) g p n
  let s :=
    match x.source with
    | none => s
    | some src =>
      let goal := (cartSlot s src).goal
      let s := slotResult (setCart s src { cartSlot s src with goal := .none }) src 2
      if goal = .eject then powerOffSlot s src else setSlotState s src 9
  let s := odBump (groupChanged s g) (odKey 0x8201 3) 1
  settleGroups (logEv s "CART_REBUILT" [n, g, p])

/-- CART_REBUILT (R416). -/
def execCartRebuilt (slot : Fin 32) (s : State) : Host.Outcome State Fault Refusal :=
  effectOn s (
    match (cartSlot s slot.val).pos with
    | none => s
    | some (g, p) => if slotState s slot.val ≠ 7 ∨ cutOver s ∨ !mediaUp s slot.val then s else rebuildEnds s slot.val g p)

/-- A stand-in whose position has switched back (R417): OUT where it was to be ejected (R412), WORN-out RETIRING where it has no life left
(R421), otherwise SPARE. -/
def releaseStandin (s : State) (k : Nat) : State :=
  let goal := (cartSlot s k).goal
  let s := clearTarget (setCart s k { cartSlot s k with goal := .none }) k
  let s := if goal = .none then s else slotResult s k 2
  if goal = .eject then powerOffSlot s k
  else if slotState s k = 9 then s
  else
    let s := setSlotState s k 5
    spareAppears (writeRecordOf s k (some (recordOf s k)))

/-- The re-silver of slot `n` from its stand-in `k` has ended: the position switches back, and the stand-in becomes SPARE (R417). -/
def resilverEnds (s : State) (n g p k : Nat) : State :=
  let s := odBump s (odKey 0x8102 n) (4096 * (2 ^ 30 - 1 - rowsDone s n))
  let s := odSet (setSlotState s n 4) (odKey 0x8103 n) (2 ^ 30)
  let s := servePos (setCart s n { cartSlot s n with source := none }) g p n
  let s := groupChanged s g
  let s := odBump s (odKey 0x8201 4) 1
  settleGroups (releaseStandin s k)

/-- RESILVER_DONE (R417). -/
def execResilverDone (slot : Fin 32) (s : State) : Host.Outcome State Fault Refusal :=
  effectOn s (
    match (cartSlot s slot.val).pos, (cartSlot s slot.val).source with
    | some (g, p), some k => if slotState s slot.val ≠ 8 ∨ (slotState s k ≠ 6 ∧ slotState s k ≠ 9) ∨ cutOver s ∨ !mediaUp s slot.val then s else resilverEnds s slot.val g p k
    | _, _ => s)

/-! ## Slot commands (R412, R413) -/

/-- Evacuate a slot in service for PREPARE_EJECT or RETIRE. -/
def evacuate (s : State) (n : Nat) (goal : SlotGoal) : State :=
  match servedPos s n, targetOf s n with
  | some _, some _ => slotResult (setCart s n { cartSlot s n with goal := goal }) n 1
  | some (g, p), none =>
    (match freeSpare s g with
     | none => slotResult s n 3
     | some k =>
       if groupState s g ≠ 0 then slotResult s n 4
       else
         let s := if goal = .retire then setSlotState s n 9 else s
         slotResult (startEvac s n k g p goal) n 1)
  | none, _ => slotResult (powerOffSlot s n) n 2

/-- A target stops at a row boundary and is powered off; its position goes on being served, or another spare takes it (R413). -/
def ejectTarget (s : State) (n : Nat) : State :=
  let s := loseSlot s n 10
  slotResult (powerOffSlot s n) n 2

/-- PREPARE_EJECT (R412, R413). -/
def prepareEject (s : State) (n : Nat) : State :=
  let st := slotState s n
  if st = 0 then slotResult s n 5
  else if st = 12 then slotResult s n 2
  else if st = 4 ∨ st = 6 ∨ st = 9 then evacuate s n .eject
  else if st = 7 ∨ st = 8 then ejectTarget s n
  else slotResult (powerOffSlot s n) n 2

/-- PREPARE_EJECT (R412). -/
def execPrepareEject (slot : Fin 32) (s : State) : Host.Outcome State Fault Refusal :=
  effectOn s (if dictUp s then prepareEject s slot.val else s)

/-- ACCEPT_FOREIGN (R412): the record is cleared, and the cartridge is blank. -/
def acceptForeign (s : State) (n : Nat) : State :=
  if slotState s n = 3 then slotResult (takeBlank (writeRecordOf s n none) n) n 2 else slotResult s n 5

/-- ACCEPT_FOREIGN (R412). -/
def execAcceptForeign (slot : Fin 32) (s : State) : Host.Outcome State Fault Refusal :=
  effectOn s (if dictUp s then acceptForeign s slot.val else s)

/-- RETIRE (R412, R413). -/
def retireSlot (s : State) (n : Nat) : State :=
  let st := slotState s n
  if st = 4 ∨ st = 6 then evacuate s n .retire else if st = 9 then slotResult s n 1 else slotResult s n 5

/-- RETIRE (R412). -/
def execRetire (slot : Fin 32) (s : State) : Host.Outcome State Fault Refusal :=
  effectOn s (if dictUp s then retireSlot s slot.val else s)

/-- An evacuation is stopped: its target is a free spare again, and the source keeps serving (R412). -/
def stopEvac (s : State) (src tgt : Nat) : State :=
  let s := setSlotState (clearTarget s tgt) tgt 5
  let s := setSlotState (setCart s src { cartSlot s src with goal := .none }) src (servingCode s src)
  match servedPos s src with
  | some (g, _) => groupChanged s g
  | none => s

/-- CANCEL (R412): an evacuation or a re-silver stops at a row boundary. -/
def cancelSlot (s : State) (n : Nat) : State :=
  let x := cartSlot s n
  if slotState s n = 8 then slotResult (setSlotState (clearTarget s n) n 10) n 2
  else if slotState s n = 7 ∧ x.source.isSome then slotResult (stopEvac s (x.source.getD 0) n) n 2
  else
    match targetOf s n with
    | some k => if slotState s k = 7 then slotResult (stopEvac s n k) n 2 else slotResult s n 5
    | none => slotResult s n 5

/-- CANCEL (R412). -/
def execCancel (slot : Fin 32) (s : State) : Host.Outcome State Fault Refusal :=
  effectOn s (if dictUp s then cancelSlot s slot.val else s)

end Sys2Proof.Machine
end

