-- ==== Sys2Proof/Machine/Links.lean ====
section
/-! DEFINITION. Stage reports (R555, R569), and the links: fabric ports are links 0 to 15, Urzen ports links 16 to 23; flits and replay
(R426, R427, R464), lanes and widths (R430-R432, R463, R656), neighbours and topology agreement (R433-R436, R467-R469, R565, R566). -/

namespace Sys2Proof.Machine

/-! ## Stage reports -/

/-- An item of a stage report (R570). -/
structure Item where
  place : Nat
  code : Nat
  result : Nat
  value : Nat
  deriving DecidableEq, Repr

/-- The 16 bytes of an item. -/
def itemBytes (i : Item) : Bytes := natLe 8 i.place ++ natLe 2 i.code ++ natLe 2 i.result ++ natLe 4 i.value

/-- The bytes of a stage report (R569). -/
def reportBytes (stage outcome start tstart tend degrade : Nat) (items : List Item) : Bytes :=
  let kept := items.take 60
  natLe 64 (stage + outcome * 2 ^ 8 + start * 2 ^ 10 + kept.length * 2 ^ 16 + capTo 32 (items.length - kept.length) * 2 ^ 32 +
    tstart * 2 ^ 64 + tend * 2 ^ 128 + degrade * 2 ^ 192) ++ (kept.map itemBytes).flatten

/-- Write a stage report to OD 0xB010.01 + stage and send it (R555, R569); items that do not fit are in the event log. -/
def stageReport (s : State) (stage outcome start tstart : Nat) (items : List Item) : State :=
  let b := reportBytes stage outcome start tstart (stampNow s) (odGet s (odKey 0xB000 3)) items
  let s := (items.drop 60).foldl (fun s i => logEv s "STAGE_ITEM" [stage, i.place, i.code, i.result, i.value]) s
  let s := blobSet s (odKey (0xB010 + stage) 1) b
  sendNotify s 1 (vItemBytes ⟨0xB010 + stage, 1, 9, b, .ok, .none⟩)

/-- A stage closes (R555). -/
def closeStage (s : State) (stage outcome start : Nat) (items : List Item) : State :=
  stageReport (odSet s (odKey 0xB000 2) stage) stage outcome start (s.boot.started) items

/-- OUTCOME of a stage from its items: degraded where one is degraded or failed. -/
def outcomeOf (items : List Item) : Nat := if items.any (fun i => decide (2 ≤ i.result)) then 1 else 0

/-! ## Ports -/

/-- Key of a per-port entry: 0x6100 + k of a fabric port, 0x7100 + k of an Urzen port. -/
def linkOd (l k : Nat) : Nat := if l < 16 then odKey (0x6100 + k) l else odKey (0x7100 + k) (l - 16)

/-- Port state (R435): 0 DARK, 1 TRAINING, 2 AGREED, 3 QUARANTINED, 4 DOWN. -/
def linkState (s : State) (l : Nat) : Nat := odGet s (linkOd l 1)

/-- Optical die of a link (R32). -/
def linkDie (l : Nat) : Nat := if l < 16 then portDie l else urzenDie (l - 16)

/-- Full width of a link: 8 lanes of a fabric port, 4 of an Urzen port. -/
def fullWidth (l : Nat) : Nat := if l < 16 then 8 else 4

/-- The widest width that some good lanes allow, 0 where the port is DOWN (R431, R463). -/
def widthFor (l good : Nat) : Nat :=
  if l < 16 then (if 8 ≤ good then 8 else if 6 ≤ good then 6 else if 4 ≤ good then 4 else 0) else if 4 ≤ good then 4 else 0

/-- Spare lanes of an optical die (R32). -/
def dieSpares (die : Nat) : Nat := if die < 36 then 4 else 8

/-- Spare lanes that a die still has. -/
def sparesLeft (s : State) (die : Nat) : Nat := dieSpares die - tblGet 0 s.fab.sparesUsed die

/-- Location code of a port's optical die. -/
def linkPlace (s : State) (l : Nat) : Nat := locDie s (linkDie l)

/-- A port number as items and events carry it (R570). -/
def portCode (l : Nat) : Nat := if l < 16 then l else 0x80 + (l - 16)

/-- The degradation causes of ports (R568). -/
def portCauses (s : State) : State :=
  let s := setCause s 5 ((List.range 24).any (fun l => decide (odGet s (linkOd l 0) ≠ 0) && decide (3 ≤ linkState s l)))
  setCause s 6 ((List.range 24).any (fun l => decide (linkState s l = 2) && decide (odGet s (linkOd l 2) < fullWidth l)))

/-- AGREED ports of the fabric and of Urzen. -/
def agreedPorts (s : State) (urzen : Bool) : Nat :=
  ((List.range 24).filter (fun l => decide (linkState s l = 2) && (decide (16 ≤ l) == urzen))).length

/-- Both minima of R565 are met. -/
def minimaMet (s : State) : Bool :=
  decide (odGet s (odKey 0xB001 5) ≤ agreedPorts s false) && decide (odGet s (odKey 0xB001 6) ≤ agreedPorts s true)

/-- The PORT_STATE items of stage 5. -/
def portItems (s : State) : List Item :=
  ((List.range 24).filter (fun l => decide (odGet s (linkOd l 0) ≠ 0) && decide (linkState s l ≠ 2))).map (fun l =>
    ⟨linkPlace s l, 0x0504, 2, portCode l + linkState s l * 2 ^ 16⟩)

/-- Admission opens with the device state of R567, and the ports that are AGREED now carry the fixed hash (R446). -/
def becomeReady (s : State) : State :=
  let s := { s with fab.readyPorts := (List.range 16).filter (fun p => decide (portState s p = 2)) }
  let s := odSet s (odKey 0xB000 1) (if odGet s (odKey 0xB000 3) = 0 then 1 else 2)
  closeStage { s with tier.admitting := decide (odGet s (odKey 0x3006 6) = 0) } 6 0 0 [⟨locDevice s, 0x0601, 0, devState s⟩]

/-- A flush or a planned stop has closed admission. -/
def stopping (s : State) : Bool :=
  decide (odGet s (odKey 0x3006 6) = 1) || (match s.tier.pfail with | .idle => false | .asserted => false | _ => true)

/-- The items of a stage 5 that waits, with the ports as they now are. -/
def heldItems (s : State) (l : List (Nat × Nat × Nat × Nat)) : List Item := l.map (fun i => ⟨i.1, i.2.1, i.2.2.1, i.2.2.2⟩) ++ portItems s

/-- OUTCOME of a stage (R569). -/
def stageOutcome (s : State) (items : List Item) : Nat := if devState s = 3 then 2 else outcomeOf items

/-- A stage that has closed makes room for the next. -/
def nextStage (s : State) (k : Nat) : State := { s with boot.next := some k, boot.started := stampNow s }

/-- Stage 5 closes as soon as both minima are met (R565). -/
def closeStage5 (s : State) : State :=
  match s.boot.held5 with
  | none => s
  | some l =>
    if s.boot.next = some 5 ∧ minimaMet s = true then
      let items := heldItems s l
      nextStage { closeStage s 5 (stageOutcome s items) 0 items with boot.held5 := none } 6
    else s

/-- The topology minima after stage 6 (R566): below them the device is not ready; when they are met again stages 5 and 6 close. -/
def settleTopology (s : State) : State :=
  let s := closeStage5 (portCauses s)
  if s.boot.next ≠ some 7 ∨ devState s = 3 then s
  else if devState s ≠ 0 then
    if minimaMet s then s
    else
      let s := odSet (odSet s (odKey 0xB000 1) 0) (odKey 0xB000 2) 4
      { s with tier.admitting := false, boot.started := stampNow s }
  else if minimaMet s ∧ !stopping s then
    let items := portItems s
    pollAll (becomeReady (closeStage s 5 (outcomeOf items) 0 items))
  else s

/-- Admission after a flush that was cancelled (R232) stays closed while the minima are not met. -/
def topologyOk (s : State) : Bool := decide (devState s = 1) || decide (devState s = 2)

/-- The answer to every T3 request that is outstanding on a port (R469). -/
def failT3 (s : State) (port : Nat) : State :=
  (s.fab.t3.filter (fun e => decide (e.1 / 65536 = port))).foldl (fun s e =>
    let s := odBump { s with fab.t3 := tblErase s.fab.t3 e.1 } (odKey 0x7110 3) 1
    match e.2 with
    | .home => s
    | .chunk id off part => chunkAnswer s id off part (2 ^ 20 + e.1) .poison []
    | .job k i =>
      (match jobFind s (k / 16) (k % 16) i with
       | some j => jobEnd s (k / 16) (k % 16) i (recHead .poison j.op j.tag)
       | none => s)
    | .commit k i => commitAnswer s k i (2 ^ 20 + e.1) .poison
    | .ckpt c set => ckAnswer s c set (2 ^ 20 + e.1) .poison) s

/-- A port leaves AGREED (R443, R469): an Urzen port's adapter cache is failed, its requests complete with POISON, and withdrawals no
longer wait for it. -/
def leavePort (s : State) (l : Nat) : State :=
  let s := setLink s l { linkOf s l with waiting := [], inbox := [] }
  if l < 16 then s
  else
    let p := l - 16
    let s := failT3 (failAgent s (336 + p)) p
    let ws : Tbl Withdrawal := s.xlat.withdrawals.map (fun w => (w.1, { w.2 with xlatInv := w.2.xlatInv.filter (· != p) }))
    { s with xlat.withdrawals := ws, coh.adapters := tblErase s.coh.adapters p }

/-- Set a port's state; leaving AGREED has its effects, and the topology is settled. -/
def setLinkState (s : State) (l st : Nat) : State :=
  let before := linkState s l
  let s := odSet s (linkOd l 1) st
  settleTopology (if before = 2 ∧ st ≠ 2 then leavePort s l else s)

/-- A port goes DOWN (R435). -/
def portDown (s : State) (l : Nat) : State :=
  let s := odSet s (linkOd l 2) 0
  setLinkState (setLink s l { linkOf s l with lanes := 0, ident := none }) l 4

/-- The identities that R435 compares: UNIT, PORT and KIND. -/
def sameIdentity (a b : Nat) : Bool := decide (a % 2 ^ 60 = b % 2 ^ 60)

/-- The group number of another AGREED fabric port. -/
def agreedGroup (s : State) (l : Nat) : Option Nat :=
  ((List.range 16).find? (fun p => decide (p ≠ l) && decide (linkState s p = 2))).bind (fun p => (linkOf s p).ident.map (·.1))

/-- A port is QUARANTINED, with its event where it was not (R435). -/
def quarantine (s : State) (l : Nat) : State :=
  let s := if linkState s l = 3 then s else logEv s "PORT_QUARANTINE" [portCode l, odGet s (linkOd l 0), odGet s (linkOd l 3)]
  setLinkState s l 3

/-- An Urzen port becomes AGREED: its adapter cache is enrolled, of 32 MiB at most (R288, R468). -/
def enrol (s : State) (p cacheKib : Nat) : State :=
  { s with coh.adapters := tblSet s.coh.adapters p (min (cacheKib * 8) 262144), coh.failed := s.coh.failed.filter (· != 336 + p) }

/-- Judge a port that has its neighbour's IDENT (R435, R468). -/
def judgePort (s : State) (l : Nat) : State :=
  match (linkOf s l).ident with
  | none => s
  | some (group, cache, buffers) =>
    let found := odGet s (linkOd l 3)
    if odGet s (linkOd l 0) = 0 then setLinkState s l 0
    else if !sameIdentity (odGet s (linkOd l 0)) found || decide (field found 56 4 ≠ (if l < 16 then 2 else 3)) then quarantine s l
    else if l < 16 then
      match agreedGroup s l with
      | some g =>
        if g = group then setLinkState s l 2 else quarantine s l
      | none => setLinkState (odSet s (odKey 0x6000 5) group) l 2
    else if !buffers then setLinkState (logEv s "URZEN_CREDITS" [portCode l]) l 1
    else if linkState s l = 2 then s
    else setLinkState (enrol s (l - 16) cache) l 2

/-- IDENT flits are taken: in stage 5 and at run time (R561, R565). -/
def identTime (s : State) : Bool := s.power.on && (decide (s.boot.next = some 5) || decide (s.boot.next = some 6) || decide (s.boot.next = some 7))

/-- The optical scribe core of a link runs: it exchanges IDENT, judges the topology and takes management packets (R521), which wait while it
restarts and stop when it is retired (R545, R547). -/
def opticalUp (s : State) (l : Nat) : Bool := procRunning s (56 + (linkDie l - 32))

/-- IDENT (R434, R467): the neighbour's identity is recorded, and the port is judged. -/
def execIdent (link : Fin 24) (info : IdentInfo) (s : State) : Host.Outcome State Fault Refusal :=
  effectOn s (
    let l := link.val
    if !identTime s ∨ linkState s l = 0 ∨ linkState s l = 4 ∨ !opticalUp s l then s
    else
      let x := linkOf s l
      let s := odSet s (linkOd l 3) (field info.identity.toNat 0 60)
      let cache := info.cacheKib.toNat
      let enough := decide (1024 ≤ info.reqCr.toNat) && decide (512 ≤ info.snpCr.toNat) && decide (64 ≤ info.ctlCr.toNat)
      let s := if l < 16 then s else odSet s (odKey 0x7104 (l - 16)) cache
      let credits := if l < 16 then x.credits else [info.reqCr.toNat, 0, info.snpCr.toNat, 0, info.ctlCr.toNat]
      let first := x.ident.isNone
      let s := setLink s l { x with ident := some (info.group.toNat, cache, enough), credits := if first then credits else x.credits }
      judgePort s l)

/-- An ink that changes the expected neighbour of a port (R436, R656): a port with an IDENT is judged again, one without an expected
neighbour goes dark. -/
def expectedChanged (s : State) (l : Nat) : State :=
  if odGet s (linkOd l 0) = 0 then
    (if linkState s l = 0 then s else setLinkState (odSet (setLink s l { linkOf s l with ident := none }) (linkOd l 2) 0) l 0)
  else if linkState s l = 2 ∨ linkState s l = 3 then judgePort s l
  else settleTopology s

/-! ## Training and lanes -/

/-- The 256 bytes of a flit (R426). -/
def flitBytes (head seq ack : Nat) (payload : Bytes) : Bytes :=
  let body := natLe 8 (head + seq * 2 ^ 8 + ack * 2 ^ 24) ++ padTo 240 payload
  body ++ natLe 4 (crc32c body) ++ natLe 4 0

/-- Last SEQ received intact from the other end. -/
def lastAck (x : LinkSt) : Nat := (x.rxSeq + 65535) % 65536

/-- A LINK or IDENT flit leaves, outside the sequence: it carries the SEQ of the next flit and is not kept for replay (log entry 62). -/
def linkFlit (s : State) (l head : Nat) (payload : Bytes) : State :=
  let x := linkOf s l
  emit s (.flit l (flitBytes head x.txSeq (lastAck x) payload))

/-- An IDLE flit leaves; it takes the next SEQ (R427). -/
def sendFlit (s : State) (l head : Nat) (payload : Bytes) : State :=
  let x := linkOf s l
  emit (setLink s l (keepFlit x head payload)) (.flit l (flitBytes head x.txSeq (lastAck x) payload))

/-- What the device's own IDENT carries (R433, R434, R467): slot 0 its identity, the field-network address as UNIT, the port and KIND 1;
slot 1 of an Urzen port its buffers of R465, with no cache and no SNP buffer. -/
def ownIdent (s : State) (l : Nat) : Bytes :=
  let port := if l < 16 then l else l - 16
  natLe 16 (odGet s (odKey 0x1001 1) % 2 ^ 48 + port * 2 ^ 48 + 2 ^ 56) ++
    natLe 16 (if l < 16 then 0 else 4096 * 2 ^ 32 + 512 * 2 ^ 64 + 256 * 2 ^ 80)

/-- A port's lanes have trained (R561, R656): it sends its IDENT (R434) and waits for the neighbour's. -/
def lanesTrained (s : State) (l good : Nat) : State :=
  let w := widthFor l good
  if w = 0 then portDown s l
  else linkFlit (setLinkState (odSet (setLink s l { idleLink with lanes := good }) (linkOd l 2) w) l 1) l (flitHead 3 0 0) (ownIdent s l)

/-- PORT_TRAIN (R656): a port with an expected neighbour trains at run time. -/
def execPortTrain (link : Fin 24) (good : Fin 9) (s : State) : Host.Outcome State Fault Refusal :=
  effectOn s (
    let l := link.val
    if identTime s ∧ odGet s (linkOd l 0) ≠ 0 ∧ (linkState s l = 0 ∨ linkState s l = 4) then lanesTrained s l good.val else s)

/-- The port retrains at what its good lanes allow; no packet is lost (R431, R432). -/
def narrowPort (s : State) (l good : Nat) : State :=
  let w := widthFor l good
  if w = 0 then portDown s l
  else
    let s := setLink s l { linkOf s l with lanes := good }
    if w < odGet s (linkOd l 2) then
      let s := odSet (odBump s (linkOd l (if l < 16 then 4 else 6)) 1) (linkOd l 2) w
      settleTopology (logEv s "PORT_NARROWED" [portCode l, w])
    else s

/-- PORT_NARROWED (R431): with no spare left, the port retrains at width 6 or 4, or goes DOWN. -/
def execPortNarrowed (link : Fin 24) (good : Fin 9) (s : State) : Host.Outcome State Fault Refusal :=
  effectOn s (
    let l := link.val
    if s.power.on ∧ 1 ≤ linkState s l ∧ linkState s l ≤ 3 ∧ good.val < (linkOf s l).lanes then narrowPort s l good.val else s)

/-- Replay every kept flit from a SEQ onwards, in order, counted in OD 0x6105 or 0x7105 (R427). -/
def replayFrom (s : State) (l seq : Nat) : State :=
  let x := linkOf s l
  let fs := (x.replay.filter (fun f => decide ((f.1 + 65536 - seq) % 65536 < 4096))).reverse
  fs.foldl (fun s f => odBump (emit s (.flit l (flitBytes f.2.1 f.1 (lastAck x) f.2.2))) (linkOd l 5) 1) s

/-- LANE_SPARE (R430, R432, R463): a lane over its limit, or without signal, is replaced by a spare of its optical die; without one the
port retrains narrower. -/
def execLaneSpare (link : Fin 24) (lane : Fin 8) (s : State) : Host.Outcome State Fault Refusal :=
  effectOn s (
    let l := link.val
    let x := linkOf s l
    if !s.power.on ∨ linkState s l = 0 ∨ linkState s l = 4 ∨ fullWidth l ≤ lane.val ∨ x.lanes = 0 then s
    else if 0 < sparesLeft s (linkDie l) then
      let s := { s with fab.sparesUsed := tblSet s.fab.sparesUsed (linkDie l) (tblGet 0 s.fab.sparesUsed (linkDie l) + 1) }
      let s := odBump s (linkOd l (if l < 16 then 4 else 6)) 1
      logEv s "PORT_SPARED" [portCode l, lane.val]
    else narrowPort s l (x.lanes - 1))

/-- LOSS_OF_SIGNAL (R435, R469): the port goes DOWN. -/
def execLossOfSignal (link : Fin 24) (s : State) : Host.Outcome State Fault Refusal :=
  effectOn s (if s.power.on ∧ linkState s link.val ≠ 0 ∧ linkState s link.val ≠ 4 then portDown s link.val else s)

/-! ## Flits -/

/-- LINK RETRY: names the SEQ that is expected (R427); the place of the SEQ in the payload is the model's (log entry 62). -/
def sendRetryFlit (s : State) (l : Nat) : State := linkFlit s l (flitHead 2 0 0) (natLe 2 (linkOf s l).rxSeq)

/-- Packets without credits go on when credits return, in order within their class (R466). -/
def sendWaiting : (fuel : Nat) → State → (l cls : Nat) → State
  | 0, s, _, _ => s
  | fuel + 1, s, l, cls =>
    let x := linkOf s l
    match x.waiting.find? (fun w => decide (w.1 = cls)) with
    | none => s
    | some w =>
      let cost := 2 + slotsOf w.2.2
      if x.credits.getD cls 0 < cost then s
      else
        let x := { x with credits := listSet x.credits cls (x.credits.getD cls 0 - cost), waiting := x.waiting.erase w }
        sendWaiting fuel (linkSend (setLink s l x) l w.2.1 w.2.2) l cls

/-- Class of a packet received (R428, R465). -/
def rxClass (l hdr : Nat) : Nat :=
  let t := hdr % 256
  if l < 16 then (if t < 0x10 then 0 else if t < 0x20 then 1 else if t < 0x40 then 2 else 3) else urzenClass t

/-- Whole packets leave the inbox, and their slots are returned as credits (R464, R466); empty slots between packets are skipped. -/
def takePackets : (fuel : Nat) → State → (l : Nat) → State
  | 0, s, _ => s
  | fuel + 1, s, l =>
    let x := linkOf s l
    if x.inbox.length < 16 then s
    else if leAt x.inbox 0 16 = 0 then takePackets fuel (setLink s l { x with inbox := x.inbox.drop 16 }) l
    else
      let hdr := leAt x.inbox 0 32
      let n := 32 + 16 * field hdr 16 4
      if x.inbox.length < n then s
      else
        let s := setLink s l { x with inbox := x.inbox.drop n }
        let cls := rxClass l hdr
        let s := if cls = 1 then s else sendFlit s l (flitHead 0 cls (n / 16)) []
        takePackets fuel s l

/-- FLIT (R427, R464, R466): a flit that fails FEC or CRC, or does not carry the expected SEQ, is discarded and RETRY is sent; a good one
returns credits, and its packet slots join the packet being received. -/
def execFlit (link : Fin 24) (fecOk : Bool) (flit : Bytes) (s : State) : Host.Outcome State Fault Refusal :=
  effectOn s (
    let l := link.val
    let x := linkOf s l
    let hdr := leAt flit 0 8
    let seq := field hdr 8 16
    if !s.power.on ∨ linkState s l = 0 ∨ linkState s l = 4 then s
    else if !fecOk || decide (flit.length ≠ 256) || decide (leAt flit 248 4 ≠ crc32c (flit.take 248)) then sendRetryFlit s l
    else if seq ≠ x.rxSeq then (if (seq + 65536 - x.rxSeq) % 65536 < 2 ^ 15 then sendRetryFlit s l else s)
    else
      let cls := field hdr 40 4
      let x := { x with rxSeq := (seq + 1) % 65536, credits := if cls < 5 then listSet x.credits cls (x.credits.getD cls 0 + field hdr 44 12) else x.credits }
      let takes := decide (hdr % 16 = 1) && decide (linkState s l = 2)
      let s := setLink s l { x with inbox := if takes then x.inbox ++ (flit.drop 8).take 240 else x.inbox }
      sendWaiting (linkOf s l).waiting.length (takePackets 32 s l) l cls)

/-- LINK_RETRY (R427): every flit from the named SEQ onwards is sent again. -/
def execLinkRetry (link : Fin 24) (seq : BitVec 16) (s : State) : Host.Outcome State Fault Refusal :=
  effectOn s (if !s.power.on ∨ linkState s link.val = 0 ∨ linkState s link.val = 4 then s else replayFrom s link.val seq.toNat)

end Sys2Proof.Machine
end

