-- ==== Sys2Proof/Machine/Fabric.lean ====
section
/-! DEFINITION. The fabric (R437-R461, R602, R617): peer requests at the target and their answers, messages and mailboxes, fabric-queue
descriptors, ownership of regions, and the fabric manager's packets. -/

namespace Sys2Proof.Machine

/-! ## Header fields (R442) -/

/-- PTYPE. -/
def fType (h : Nat) : Nat := field h 0 8

/-- STATUS of a response. -/
def fStatus (h : Nat) : Status := statusFromCode (field h 8 8)

/-- DNODE. -/
def fDnode (h : Nat) : Nat := field h 24 12

/-- SNODE. -/
def fSnode (h : Nat) : Nat := field h 36 12

/-- SCTX. -/
def fSctx (h : Nat) : Nat := field h 48 12

/-- TAG. -/
def fTag (h : Nat) : Nat := field h 64 16

/-- WID, or the destination context of a message. -/
def fWid (h : Nat) : Nat := field h 80 12

/-- MBX. -/
def fMbx (h : Nat) : Nat := field h 92 2

/-- WEPOCH, or MSEQ. -/
def fEpoch (h : Nat) : Nat := field h 96 32

/-- OFFSET. -/
def fOff (h : Nat) : Nat := field h 128 52

/-- LENM1 + 1. -/
def fLen (h : Nat) : Nat := field h 180 12 + 1

/-- The fabric carries more than MGT packets: the port is AGREED and a node number has been assigned (R435, R437). -/
def fabOpen (s : State) (p : FabIn) : Bool := s.power.on && decide (portState s p.port.val = 2) && decide (odGet s (odKey 0x6000 2) = 1)

/-! ## Peer requests at the target (R443-R445) -/

/-- The checks of R444 on an export window, or the status that refuses the request: TORN before RANGE (R20). -/
def exportCheck (s : State) (h n : Nat) (r : Right) : FabWin ⊕ Status :=
  match fabWinAt s (fWid h) with
  | none => .inr .range
  | some w =>
    let draining := s.fab.changes.any (fun k => decide (k.wid = w.wid) && decide (k.oldEpoch = fEpoch h))
    let right := match r with | .read => w.rd | .write => w.wr | .atomic => w.at_
    if w.role ≠ 1 then .inr .range
    else if ctxState s w.ctx = 2 then .inr .torn
    else if w.rnode ≠ fSnode h ∨ w.rctx ≠ fSctx h ∨ ¬ (fEpoch h = w.epoch ∨ draining = true) ∨ right = false ∨
        fOff h < faOff w.base ∨ faOff w.base + w.pages * 4096 < fOff h + n then .inr .range
    else .inl w

/-- Refuse a peer request (R444). -/
def refusePeer (s : State) (port h : Nat) (st : Status) : State :=
  answerPeer (if st = .range then odBump s (odKey 0x6010 1) 1 else s) port h st []

/-- An admitted request goes to its home; a line that is busy gives it a reserved place at once (R297, R300). -/
def peerToHome (s : State) (t : Txn) : State :=
  let line := fwdLine s (t.sa / 128)
  if !inStore s t.sa t.len then refuse s t .range
  else
    let s := countReq s line t.ctx t.agent
    if (tblFind s.coh.busy line).isSome || askedBack s line || (takesWrite t.kind && writesHeld s (line * 128)) then
      let n := s.coh.nextTick
      { s with coh.nextTick := (n + 1) % 65536, coh.tickets := s.coh.tickets ++ [⟨n, t.agent, line, s.now, some t⟩] }
    else openTxn s line t

/-- The DEVICE entry of a context behind a store address. -/
def saEntry (s : State) (c sa : Nat) : Option RangeEntry :=
  (rangeTable s c).find? (fun e => decide (e.ty = .device) && decide (e.base ≤ sa / 4096) && decide (sa / 4096 < e.base + e.pages))

/-- An earlier request from the same source to the same line waits for a walk: a later one does not pass it (R446). -/
def sameLine (who : WalkFor) (t : Txn) : Bool :=
  match who with
  | .request u _ =>
    (match u.reply, t.reply with
     | .fabric _ g, .fabric _ h => decide (fSnode g = fSnode h) && decide (fSctx g = fSctx h) && decide (u.sa / 128 = t.sa / 128)
     | _, _ => false)
  | .stream _ => false

/-- A peer request at its optical die: its window is checked (R444), and the entry of the context behind its address must hold the right
(R250), from the die's range cache or after a walk (R247-R249); `walked` is the page whose walk has just ended. It is tagged with the
context's range epoch (R245). -/
def servePeer (s : State) (t : Txn) (walked : Option Nat) : State :=
  match t.reply with
  | .fabric port h =>
    let before := walked.isNone && s.xlat.walks.any (fun w => w.die = linkDie port && sameLine w.waiter t)
    (match exportCheck s h t.len (needOf t.kind) with
     | .inr st => refusePeer s port h st
     | .inl w =>
       match saEntry s w.ctx t.sa with
       | none => refusePeer s port h .range
       | some e =>
         let vpn := e.vpn + (t.sa / 4096 - e.base)
         if before || !(rangeHit s (linkDie port) w.ctx vpn || decide (walked = some vpn)) then rangeMiss s (linkDie port) w.ctx vpn (.request { t with ctx := w.ctx } none)
         else if !hasRight e (needOf t.kind) then refusePeer s port h .range
         else if !admitting s then refusePeer s port h .throttled
         else peerToHome (touchCva s w.ctx (vpn * 4096 + t.sa % 4096)) { t with ctx := w.ctx, epoch := some (epochOf s w.ctx) })
  | _ => s

/-- A peer request arrives (R443, R444). After the cut of a flush it completes with THROTTLED (R229); a FAILED device answers with POISON
(R47). -/
def peerRequest (s : State) (p : FabIn) (kind : ReqKind) (n : Nat) (build : Txn → Txn) (fieldsOk : Bool) : State :=
  let h := p.hdr.toNat
  let port := p.port.val
  if !fabOpen s p then s
  else if fDnode h ≠ nodeNo s then refusePeer s port h .range
  else if exportCheck s h n (needOf kind) = .inr .torn then refusePeer s port h .torn
  else if devState s = 3 then answerPeer s port h .poison []
  else if 128 < fOff h % 128 + n ∨ !fieldsOk then refusePeer s port h .range
  else if cutOver s then refusePeer s port h .throttled
  else
    servePeer s (build ⟨kind, 368 + (linkDie port - 32), 0, genNow s, fOff h, n, [], 0, 0, false, false, 0, 0, [], none, false, false,
      .fabric port h, none⟩) none

/-- RANGE_WALK (R248, R249): the oldest of a die's eight walks for a page of a context ends. Its cache takes the entry, and the stream or
the request that waits goes on with what the walk has found. -/
def execRangeWalk (die : Fin 40) (c : Ctx) (vpn : BitVec 45) (s : State) : Host.Outcome State Fault Refusal :=
  effectOn s (
    match (walksOf s die.val).find? (fun w => decide (w.ctx = c.toNat) && decide (w.vpn = vpn.toNat)) with
    | none => s
    | some w =>
      let s := fillRange { s with xlat.walks := s.xlat.walks.erase w } w.die w.ctx w.vpn
      match w.waiter with
      | .stream id => issueChunk s id (some w.vpn)
      | .request t ticket =>
        match t.reply with
        | .fabric _ _ => servePeer s t (some w.vpn)
        | _ => hostRequest s t ticket (some w.vpn))

/-- PRD (R443): a peer read is executed as RD_NC. -/
def execPrd (p : FabIn) (s : State) : Host.Outcome State Fault Refusal :=
  effectOn s (if fType p.hdr.toNat = 1 then peerRequest s p .rdNc (fLen p.hdr.toNat) id true else s)

/-- PWR (R443): a peer write is executed as WR_NC. -/
def execPwr (p : FabIn) (s : State) : Host.Outcome State Fault Refusal :=
  effectOn s (
    let h := p.hdr.toNat
    let n := fLen h
    let off := fOff h % 128
    if fType h = 2 then
      peerRequest s p .wrNc n
        (fun t => { t with mask := (2 ^ n - 1) * 2 ^ off, data := List.replicate off 0#8 ++ p.data.take n }) (decide (n ≤ p.data.length))
    else s)

/-- PATOM (R443): a peer atomic is executed at the home; ROLL is refused, and the operand is aligned to its width (R307). -/
def execPatom (p : FabIn) (s : State) : Host.Outcome State Fault Refusal :=
  effectOn s (
    let h := p.hdr.toNat
    let aop := field h 192 8
    let w := field h 200 4
    if fType h = 3 then
      peerRequest s p .atom w
        (fun t => { t with aop := aop, wide := decide (w = 8), fetch := bitOf h 204, op1 := leAt p.data 0 8, op2 := leAt p.data 8 8 })
        (decide (1 ≤ aop) && decide (aop ≤ 10) && (decide (w = 4) || decide (w = 8)) && decide (fOff h % max w 1 = 0) && decide (16 ≤ p.data.length))
    else s)

/-! ## Responses (R445, R448, R459) -/

/-- A release of ownership leaves for the fabric manager (R456, R457). -/
def sendOwnRel (s : State) (port tag c region epoch target : Nat) : State :=
  sendFab s port (fabHdr 0x45 0 1 0 (nodeNo s) c tag 0 0 0 0 0 0 0 0 0)
    (natLe 4 region ++ natLe 2 c ++ natLe 4 epoch ++ natLe 2 (target % 2 ^ 12) ++ natLe 2 (target / 2 ^ 12))

/-- The epoch under which a context owns a region (R455). -/
def ownedEpoch (s : State) (c region : Nat) : Option Nat :=
  (s.fab.owned.find? (fun o => decide (o.1 = c) && decide (o.2.1 = region))).map (·.2.2)

/-- The wait of a FLUSH or of a release has ended: the FLUSH completes, the release goes to the fabric manager (R456). -/
def drainEnded (s : State) (j : Job) (release : Bool) (region target : Nat) : State :=
  if !release then jobEnd s j.ctx j.queue j.idx (recFabric .ok j.op j.tag 0)
  else
    match ownedEpoch s j.ctx region with
    | none => jobEnd s j.ctx j.queue j.idx (recFabric .range j.op j.tag 0)
    | some e =>
      match anyPort s, tblFreeKey s.fab.peers 65536 with
      | some port, some t =>
        let s := { s with fab.peers := tblSet s.fab.peers t ⟨.job (qKey j.ctx j.queue) j.idx, j.gen, j.ctx, 0x45, port, 0, 0, e, 4096, 0⟩,
                          fab.owned := s.fab.owned.filter (fun o => !(decide (o.1 = j.ctx) && decide (o.2.1 = region))) }
        let s := jobUpd s j.ctx j.queue j.idx (fun k => { k with body := .drain true region target [] true })
        sendOwnRel s port t j.ctx region e target
      | _, _ => jobEnd s j.ctx j.queue j.idx (recFabric .poison j.op j.tag 0)

/-- A request has had its response: waits on its TAG go on. -/
def tagDone (s : State) (tag : Nat) : State :=
  let waits (j : Job) : Bool := match j.body with | .drain _ _ _ tags _ => tags.contains tag | _ => false
  (s.q.jobs.filter waits).foldl (fun s j =>
    match j.body with
    | .drain rel region target tags sent =>
      let left := tags.filter (· != tag)
      let s := jobUpd s j.ctx j.queue j.idx (fun k => { k with body := .drain rel region target left sent })
      if left = [] && !sent && j.result.isNone then drainEnded s j rel region target else s
    | _ => s) s

/-- The answer of a peer request reaches who asked; POISON tears the context (R459). -/
def peerAnswered (s : State) (tag : Nat) (r : PeerReq) (st : Status) (data : Bytes) (result : Nat) : State :=
  let s := sendHeld { dropWaiting s [tag] with fab.peers := tblErase s.fab.peers tag }
  let s :=
    match r.asker with
    | .home => s
    | .chunk id off part => chunkAnswer s id off part tag st data
    | .job k i =>
      match jobFind s (k / 16) (k % 16) i with
      | some j => jobEnd s (k / 16) (k % 16) i (recFabric st j.op j.tag result)
      | none => s
    | .commit k i => commitAnswer s k i tag st
    | .ckpt c set => ckAnswer s c set tag st
  let s := if st = .poison then peerPoison s r.ctx r.node else s
  tagDone s tag

/-- A response arrives on a port for an outstanding request of a type. -/
def peerResponse (s : State) (p : FabIn) (ptype : Nat) (data : Bytes) (result : Nat) : State :=
  let h := p.hdr.toNat
  match tblFind s.fab.peers (fTag h) with
  | some r =>
    if fabOpen s p ∧ r.ptype = ptype ∧ fType h = ptype + 0x10 ∧ fDnode h = nodeNo s then peerAnswered s (fTag h) r (fStatus h) data result else s
  | none => s

/-- PRD_DATA (R443, R448). -/
def execPrdData (p : FabIn) (s : State) : Host.Outcome State Fault Refusal :=
  effectOn s (
    let n := match tblFind s.fab.peers (fTag p.hdr.toNat) with | some r => r.len | none => 0
    peerResponse s p 1 (padTo n p.data) 0)

/-- PWR_DONE (R445): the write counts as acknowledged. -/
def execPwrDone (p : FabIn) (s : State) : Host.Outcome State Fault Refusal := effectOn s (peerResponse s p 2 [] 0)

/-- PATOM_DONE (R443): the old value, where FETCH was set. -/
def execPatomDone (p : FabIn) (s : State) : Host.Outcome State Fault Refusal :=
  effectOn s (peerResponse s p 3 [] (if p.data = [] then 0 else leAt p.data 0 8))

/-- PEER_TIMEOUT (R448): no response within OD 0x6000.03. -/
def execPeerTimeout (tag : BitVec 16) (s : State) : Host.Outcome State Fault Refusal :=
  effectOn s (
    match tblFind s.fab.peers tag.toNat with
    | some r => if r.ptype = 0x45 then s else peerAnswered s tag.toNat r .poison [] 0
    | none => s)

/-! ## Messages (R451-R454) -/

/-- Key of a mailbox. -/
def mboxKey (c m : Nat) : Nat := c * 4 + m

/-- MSG_DONE (R452, R453). -/
def msgDone (s : State) (port h : Nat) (st : Status) : State :=
  sendFab s port (fabHdr 0x21 (statusCode st) 0 (fSnode h) (nodeNo s) 0 (fTag h) (fWid h) (fMbx h) (fEpoch h) 0 (fLen h - 1) 0 0 0 0) []

/-- CVA of a slot of a mailbox (R451). -/
def mboxSlot (m : Mailbox) (i : Nat) : Nat := m.ring + 64 + 4160 * (i % 2 ^ m.log2)

/-- The slot header of a message (R451). -/
def mboxHeader (m : Mailbox) (h slot : Nat) : Nat :=
  fSnode h + fSctx h * 2 ^ 12 + (fLen h - 1) * 2 ^ 24 + field h 224 32 * 2 ^ 64 + fEpoch h * 2 ^ 96 + (if bitOf slot m.log2 then 2 ^ 128 else 0)

/-- The agent of an optical die for what enters at a fabric port (R288). -/
def portAgent (port : Nat) : Nat := 368 + (linkDie port - 32)

/-- A whole message has been written: its header, MSGMORD and MSG_DONE (R453). -/
def endMessage (s : State) (port h c slot : Nat) (m : Mailbox) : State :=
  let s := cvaWrite s (portAgent port) c (mboxSlot m slot) (natLe 64 (mboxHeader m h slot))
  let s :=
    if mordOwned s c m.mord then mordUpdate s m.mord ((mordGet s m.mord).value + 1) 4 (locDevice s)
    else logEv s "MORDANT_STALE" [m.mord, c]
  msgDone (odBump s (odKey 0x6010 3) 1) port h .ok

/-- A packet of an admitted message is written to its slot. -/
def msgPart (s : State) (port h c : Nat) (data : Bytes) (m : Mailbox) (x : MsgIn) : State :=
  let part := data.take (min 128 (fLen h - fOff h))
  let s := cvaWrite s (portAgent port) c (mboxSlot m x.slot + 64 + fOff h) part
  let got := x.got + part.length
  let rest := m.partials.filter (fun y => !decide (y = x))
  if fLen h ≤ got then
    endMessage { s with fab.mailboxes := tblSet s.fab.mailboxes (mboxKey c (fMbx h)) { m with partials := rest } } port h c x.slot m
  else
    { s with fab.mailboxes := tblSet s.fab.mailboxes (mboxKey c (fMbx h)) { m with partials := rest ++ [{ x with got := got }] } }

/-- The ring of a mailbox is full by the consumed index that software wrote (R451, R453). -/
def ringTaken (s : State) (c : Nat) (m : Mailbox) : Bool :=
  decide (2 ^ m.log2 ≤ (m.next + 2 ^ 32 - leAt (cvaBytes s c m.ring 4).1 0 4) % 2 ^ 32)

/-- A packet for an open mailbox of a context that may take it (R453). -/
def msgArrives (s : State) (port h c : Nat) (data : Bytes) (m : Mailbox) : State :=
  match m.partials.find? (fun x => decide (x.snode = fSnode h) && decide (x.sctx = fSctx h) && decide (x.mseq = fEpoch h)) with
  | some x => msgPart s port h c data m x
  | none =>
    if fOff h ≠ 0 then s
    else if ringTaken s c m then msgDone (odBump s (odKey 0x6010 4) 1) port h .throttled
    else msgPart s port h c data { m with next := (m.next + 1) % 2 ^ 32 } ⟨fSnode h, fSctx h, fEpoch h, m.next, 0⟩

/-- MSG (R452, R453): a refused message is answered once, at its first packet; after the cut of a flush with THROTTLED (R229). A packet
whose mailbox's control block lies in an adapter waits in its port's buffer: the command does nothing but ask for the block, and is given
again (log entry 92). -/
def execMsg (p : FabIn) (s : State) : Host.Outcome State Fault Refusal :=
  effectOn s (
    let h := p.hdr.toNat
    let c := fWid h
    let port := p.port.val
    let refuse (s : State) (st : Status) : State := if fOff h = 0 then msgDone s port h st else s
    if !fabOpen s p ∨ fType h ≠ 0x20 then s
    else if fDnode h ≠ nodeNo s then refuse (odBump s (odKey 0x6010 1) 1) .range
    else if ctxState s c = 2 then refuse s .torn
    else
      match tblFind s.fab.mailboxes (mboxKey c (fMbx h)) with
      | none => refuse s .range
      | some m =>
        if odGet s (odCtx 0x6200 c) ≠ field h 224 32 ∨ 4096 < fLen h ∨ fLen h ≤ fOff h then refuse s .range
        else if cutOver s then refuse s .throttled
        else if !cvaFree s c m.ring 4 then askRanges s (saParts s c m.ring 4)
        else msgArrives s port h c p.data m)

/-- MSG_DONE (R453): the SEND completes with the status, its RESULT the MSEQ. -/
def execMsgDone (p : FabIn) (s : State) : Host.Outcome State Fault Refusal :=
  effectOn s (
    let h := p.hdr.toNat
    match tblFind s.fab.peers (fTag h) with
    | some r => if fabOpen s p ∧ r.ptype = 0x20 ∧ fType h = 0x21 then peerAnswered s (fTag h) r (fStatus h) [] r.len else s
    | none => s)

/-! ## Fabric-queue descriptors (R449-R456, R602) -/

/-- A fabric-queue descriptor ends at its dispatch. -/
def fabEnd (s : State) (c q : Nat) (x : Queue) (d : Nat) (st : Status) (result : Nat) : State :=
  addJob s c q x d .plain (some (recFabric st (dOp d) (dTag d) result))

/-- ATOMIC (R449): a remote atomic through a PEER entry. -/
def doAtomicDesc (s : State) (c q : Nat) (x : Queue) (d : Nat) : State :=
  let aop := field d 160 8
  let w := field d 168 4
  let cva := field d 256 64
  let ok := decide (1 ≤ aop) && decide (aop ≤ 10) && (decide (w = 4) || decide (w = 8)) && decide (cva % max w 1 = 0) && decide (cva + w ≤ cvaEnd)
  match entryAt (rangeTable s c) (cva / 4096) with
  | none => fabEnd s c q x d .range 0
  | some e =>
    if !ok || decide (e.ty ≠ .peer) || !e.at_ || isShadow s c then fabEnd s c q x d .range 0
    else
      match entryTarget s c e cva with
      | .peer fa =>
        if composedHold s c (.peer fa) then s
        else
          let data := natLe 8 (field d 320 64) ++ natLe 8 (field d 384 64)
          (match peerSend s c (.job (qKey c q) x.disp) 3 fa w data aop w (bitOf d 172) with
           | (.tag t, s) => addJob s c q x d (.peer t) none
           | (.noRight, s) => fabEnd s c q x d .range 0
           | (.poison, s) => peerPoison (fabEnd s c q x d .poison 0) c (faNode fa))
      | _ => fabEnd s c q x d .range 0

/-- ATOMIC (R449). -/
def execAtomic (c : Ctx) (q : QNum) (s : State) : Host.Outcome State Fault Refusal :=
  effectOn s (dispatchAs s c.toNat q.val [7] (fun d => dOp d = 0x70) (fun s x d => doAtomicDesc s c.toNat q.val x d))

/-- The MSEQ of the next message of a context to a mailbox, which advances (R451, R454). -/
def takeMseq (s : State) (c node rctx mbx : Nat) : Nat × State :=
  let mine (e : Nat × Nat × Nat × Nat × Nat) : Bool := decide ((e.1, e.2.1, e.2.2.1, e.2.2.2.1) = (c, node, rctx, mbx))
  let n := match s.fab.mseq.find? mine with | some e => e.2.2.2.2 | none => 0
  (n, { s with fab.mseq := s.fab.mseq.filter (fun e => !mine e) ++ [(c, node, rctx, mbx, (n + 1) % 2 ^ 32)] })

/-- The MSG packets of a message, in order (R452). -/
def sendParts (s : State) (port node c tag rctx mbx mseq job : Nat) (data : Bytes) : State :=
  (List.range (ceilDiv data.length 128)).foldl (fun s i =>
    let part := (data.drop (128 * i)).take 128
    sendFab s port (fabHdr 0x20 0 (slotsOf part) node (nodeNo s) c tag rctx mbx mseq (128 * i) (data.length - 1) 0 0 0 job) part) s

/-- SEND (R452): the source is read, MSEQ assigned, and the packets leave on one port. -/
def doSend (s : State) (c q : Nat) (x : Queue) (d : Nat) : State :=
  let node := field d 128 12
  let rctx := field d 140 12
  let mbx := field d 152 2
  let n := field d 192 32
  let cva := field d 256 64
  if n = 0 ∨ 4096 < n ∨ !pinnedOk s c cva n .read then fabEnd s c q x d .range 0
  else if !cvaFree s c cva n then askRanges s (saParts s c cva n)
  else if (cvaBytes s c cva n).2 then fabEnd s c q x d .poison 0
  else
    let ((data, _), s) := cvaRead s firmwareAgent c cva n
    let (mseq, s) := takeMseq s c node rctx mbx
    if isShadow s c then fabEnd (odBump s (odKey 0xC001 8) 1) c q x d .ok mseq
    else
      match anyPort s, tblFreeKey s.fab.peers 65536 with
      | some port, some t =>
        let s := { s with fab.peers := tblSet s.fab.peers t ⟨.job (qKey c q) x.disp, genNow s, c, 0x20, port, node, 0, mseq, 4096, 0⟩ }
        sendParts (addJob s c q x d (.peer t) none) port node c t rctx mbx mseq (odGet s (odCtx 0x6200 c)) data
      | _, _ => peerPoison (fabEnd s c q x d .poison mseq) c node

/-- SEND (R452). -/
def execSend (c : Ctx) (q : QNum) (s : State) : Host.Outcome State Fault Refusal :=
  effectOn s (dispatchAs s c.toNat q.val [7] (fun d => dOp d = 0x71) (fun s x d => doSend s c.toNat q.val x d))

/-- MBOX_OPEN (R449, R451): LOG2SLOTS 0 closes the mailbox. -/
def doMbox (s : State) (c q : Nat) (x : Queue) (d : Nat) : State :=
  let key := mboxKey c (field d 152 2)
  let n := field d 176 4
  let ring := field d 256 64
  let mord := field d 432 16
  if n = 0 then fabEnd { s with fab.mailboxes := tblErase s.fab.mailboxes key } c q x d .ok 0
  else
    let size := 64 + 4160 * 2 ^ n
    if n < 4 ∨ 12 < n ∨ ring % 64 ≠ 0 ∨ !pinnedOk s c ring size .read ∨ !pinnedOk s c ring size .write ∨ !mordOwned s c mord then
      fabEnd s c q x d .range 0
    else fabEnd { s with fab.mailboxes := tblSet s.fab.mailboxes key ⟨ring, n, mord, 0, []⟩ } c q x d .ok 0

/-- MBOX_OPEN (R451). -/
def execMboxOpen (c : Ctx) (q : QNum) (s : State) : Host.Outcome State Fault Refusal :=
  effectOn s (dispatchAs s c.toNat q.val [7] (fun d => dOp d = 0x72) (fun s x d => doMbox s c.toNat q.val x d))

/-- A management packet that names a region leaves for the fabric manager (R457). -/
def sendOwn (s : State) (ptype c region : Nat) (job : Bytes) : State :=
  match anyPort s with
  | some port => sendFab s port (fabHdr ptype 0 1 0 (nodeNo s) c 0 0 0 0 0 0 0 0 0 0) (natLe 4 region ++ natLe 2 c ++ job)
  | none => s

/-- OWN_ACQUIRE (R455): OWN_REQ goes to the fabric manager. -/
def doOwnAcquire (s : State) (c q : Nat) (x : Queue) (d : Nat) : State :=
  let region := field d 224 32
  if field d 176 16 = 0 ∨ isShadow s c then fabEnd s c q x d .range 0
  else sendOwn (addJob s c q x d (.own region) none) 0x43 c region (natLe 4 (odGet s (odCtx 0x6200 c)))

/-- OWN_ACQUIRE (R455). -/
def execOwnAcquire (c : Ctx) (q : QNum) (s : State) : Host.Outcome State Fault Refusal :=
  effectOn s (dispatchAs s c.toNat q.val [7] (fun d => dOp d = 0x73) (fun s x d => doOwnAcquire s c.toNat q.val x d))

/-- OWN_TIMEOUT (R455): OWN_CANCEL is sent, and the acquire completes THROTTLED. -/
def execOwnTimeout (c : Ctx) (q : QNum) (index : BitVec 32) (s : State) : Host.Outcome State Fault Refusal :=
  effectOn s (
    match jobFind s c.toNat q.val index.toNat with
    | none => s
    | some j =>
      match j.body, j.result with
      | .own region, none =>
        let s := sendOwn s 0x46 j.ctx region []
        jobEnd { s with fab.cancels := s.fab.cancels ++ [(j.ctx, region)] } j.ctx j.queue j.idx (recFabric .throttled j.op j.tag 0)
      | _, _ => s)

/-- Home node and export WID of a region (R449). -/
def regionHome (region : Nat) : Nat × Nat := (field region 0 12, field region 16 12)

/-- PWR and PATOM requests of a context to a region that have no response yet (R456). -/
def regionTags (s : State) (c region : Nat) : List Nat :=
  (s.fab.peers.filter (fun e => decide (e.2.ctx = c) && (decide (e.2.ptype = 2) || decide (e.2.ptype = 3)) &&
    decide ((e.2.node, e.2.wid) = regionHome region))).map (·.1)

/-- A FLUSH or a release waits for the responses of earlier requests (R456). -/
def startDrain (s : State) (c q : Nat) (x : Queue) (d : Nat) (release : Bool) (target : Nat) : State :=
  let region := field d 224 32
  let tags := regionTags s c region
  let i := x.disp
  let s := addJob s c q x d (.drain release region target tags false) none
  match jobFind s c q i with
  | some j => if tags = [] then drainEnded s j release region target else s
  | none => s

/-- OWN_RELEASE (R456): refused unless the context owns the region. -/
def doOwnRelease (s : State) (c q : Nat) (x : Queue) (d : Nat) : State :=
  if isShadow s c || (ownedEpoch s c (field d 224 32)).isNone then fabEnd s c q x d .range 0
  else startDrain s c q x d true (if bitOf d 472 then field d 448 24 else 0)

/-- OWN_RELEASE (R456). -/
def execOwnRelease (c : Ctx) (q : QNum) (s : State) : Host.Outcome State Fault Refusal :=
  effectOn s (dispatchAs s c.toNat q.val [7] (fun d => dOp d = 0x74) (fun s x d => doOwnRelease s c.toNat q.val x d))

/-- FLUSH (R456). -/
def execFlush (c : Ctx) (q : QNum) (s : State) : Host.Outcome State Fault Refusal :=
  effectOn s (dispatchAs s c.toNat q.val [7] (fun d => dOp d = 0x75) (fun s x d => startDrain s c.toNat q.val x d false 0))

/-! ## The fabric manager (R437-R441, R457-R460) -/

/-- A management packet is taken: on an AGREED port, from the switch's management controller (R457). -/
def mgtOk (s : State) (p : FabIn) (ptype : Nat) : Bool :=
  s.power.on && p.mgmt && opticalUp s p.port.val && decide (portState s p.port.val = 2) && decide (fType p.hdr.toNat = ptype)

/-- The answer to a management packet. -/
def mgtAnswer (s : State) (p : FabIn) (st : Status) : State :=
  mgtAck s p.port.val (fSnode p.hdr.toNat) (fTag p.hdr.toNat) (fType p.hdr.toNat) st

/-- A message is queued: a SEND has not been answered. -/
def sendsOut (s : State) : Bool := s.fab.peers.any (fun e => decide (e.2.ptype = 0x20))

/-- ASSIGN (R437, R438). -/
def execAssign (p : FabIn) (s : State) : Host.Outcome State Fault Refusal :=
  effectOn s (
    if !mgtOk s p 0x40 then s
    else
      let n := leAt p.data 0 2
      if 4096 ≤ n ∨ n / 64 ≠ odGet s (odKey 0x6000 5) then mgtAnswer s p .range
      else if odGet s (odKey 0x6000 2) = 1 ∧ (!(blobRows s 0x6300).isEmpty ∨ sendsOut s) then mgtAnswer s p .throttled
      else odSet (odSet (mgtAnswer s p .ok) (odKey 0x6000 1) n) (odKey 0x6000 2) 1)

/-- The store pages of an export window all lie in pinned DEVICE entries of its context (R440). -/
def exportPinned (s : State) (w : FabWin) : Bool :=
  let ws : List (Nat × Nat) := ((rangeTable s w.ctx).filter (fun e => decide (e.ty = .device) && e.pin)).map (fun e => (e.base * 4096, e.pages * 4096))
  spanned ws (ws.length + 1) (faOff w.base) (faOff w.base + w.pages * 4096)

/-- The record of a WINDOW_SET is one that the device takes (R439, R440). -/
def windowOk (s : State) (w : FabWin) : Bool :=
  (decide (w.role = 1) || decide (w.role = 2)) && decide (1 ≤ w.pages) && decide (w.pages ≤ 2 ^ 40) && decide (w.base % 4096 = 0) &&
    decide (faOff w.base + w.pages * 4096 ≤ 2 ^ 52) && decide (w.ctx ≠ 0) &&
    (if w.role = 1 then decide (faNode w.base = nodeNo s) && exportPinned s w else inGroup s w.rnode && decide (faNode w.base = w.rnode))

/-- The record of a window as the device keeps it: reserved bits read as zero (R11); RWID is reserved in an EXPORT. -/
def windowBytes (w : FabWin) : Bytes :=
  let bit (b : Bool) (i : Nat) : Nat := if b then 2 ^ i else 0
  natLe 48 (w.wid + w.role * 2 ^ 12 + bit w.rd 14 + bit w.wr 15 + bit w.at_ 16 + w.ctx * 2 ^ 32 + w.rnode * 2 ^ 44 + w.rctx * 2 ^ 64 +
    (if w.role = 2 then w.rwid * 2 ^ 80 else 0) + w.base * 2 ^ 96 + w.pages * 2 ^ 160 + w.epoch * 2 ^ 224 + w.job * 2 ^ 256)

/-- A new record takes something from the old one (R441). -/
def reduces (a b : FabWin) : Bool :=
  (a.rd && !b.rd) || (a.wr && !b.wr) || (a.at_ && !b.at_) ||
    decide ((a.role, a.ctx, a.rnode, a.rctx, a.rwid, a.base) ≠ (b.role, b.ctx, b.rnode, b.rctx, b.rwid, b.base)) || decide (b.pages < a.pages)

/-- A reduction or a clear of an import is a withdrawal of its context (R441, R244): its epoch rises, its cached entries go, and its
transfers, whose translations are unchanged, are retagged. -/
def importWithdrawn (s : State) (w : FabWin) : State :=
  if w.role ≠ 2 then s
  else
    let c := w.ctx
    let e := epochOf s c
    let e' := (e + 1) % 2 ^ 32
    let retag (x : Stream) : Stream :=
      if x.ctx = c then { x with chunks := x.chunks.map (fun k => if k.epoch = e then { k with epoch := e' } else k) } else x
    let s := setEpoch s c e'
    { s with xlat.caches := s.xlat.caches.filter (fun x => x.2.1 != c), feed.streams := s.feed.streams.map (fun x => (x.1, retag x.2)) }

/-- A window's old epoch drains before its change is acknowledged (R441). -/
def windowDrains (s : State) (p : FabIn) (w : FabWin) (clear : Bool) : State :=
  let h := p.hdr.toNat
  importWithdrawn { s with fab.changes := s.fab.changes ++ [⟨w.wid, p.port.val, fType h, fTag h, fSnode h, w.epoch, clear⟩] } w

/-- WINDOW_SET (R439-R441, R616). -/
def execWindowSet (p : FabIn) (s : State) : Host.Outcome State Fault Refusal :=
  effectOn s (
    if !mgtOk s p 0x41 then s
    else
      let rec48 := windowBytes (fabWin (padTo 48 p.data))
      let w := fabWin rec48
      if !windowOk s w then mgtAnswer s p .range
      else
        match fabWinAt s w.wid with
        | none => mgtAnswer (blobSet s (odCtx 0x6300 w.wid) rec48) p .ok
        | some old =>
          if reduces old w then
            if w.epoch ≤ old.epoch then mgtAnswer s p .range
            else windowDrains { blobSet s (odCtx 0x6300 w.wid) rec48 with step.targets := tblErase s.step.targets w.wid } p old false
          else if w.epoch < old.epoch then mgtAnswer s p .range
          else mgtAnswer (blobSet s (odCtx 0x6300 w.wid) rec48) p .ok)

/-- WINDOW_CLEAR (R441): the window goes, and its old epoch drains. -/
def execWindowClear (p : FabIn) (s : State) : Host.Outcome State Fault Refusal :=
  effectOn s (
    if !mgtOk s p 0x42 then s
    else
      let wid := leAt p.data 0 2
      match (if wid < 4096 then fabWinAt s wid else none) with
      | none => mgtAnswer s p .range
      | some w => windowDrains { blobSet s (odCtx 0x6300 wid) [] with step.targets := tblErase s.step.targets wid } p w true)

/-- The acquire that a grant completes: the one that asked for its region, or else the oldest one of its context (R617). -/
def grantee (s : State) (c region : Nat) : Option (Job × Nat) :=
  let wants (j : Job) : Option (Job × Nat) :=
    match j.body, j.result with
    | .own r, none => if j.ctx = c then some (j, r) else none
    | _, _ => none
  let all := s.q.jobs.filterMap wants
  match all.find? (fun e => decide (e.2 = region)) with
  | some e => some e
  | none => all.head?

/-- RESULT of an OWN_ACQUIRE (R617). -/
def grantResult (epoch region asked : Nat) : Nat :=
  epoch % 2 ^ 32 + (regionHome region).1 * 2 ^ 32 + (regionHome region).2 * 2 ^ 44 + (if region = asked then 0 else 2 ^ 56)

/-- OWN_GRANT (R455, R617): the acquire completes with the epoch, or with ORPHANED; a grant that crosses a cancel is answered with
OWN_REL. -/
def execOwnGrant (p : FabIn) (s : State) : Host.Outcome State Fault Refusal :=
  effectOn s (
    if !mgtOk s p 0x44 then s
    else
      let region := leAt p.data 0 4
      let c := leAt p.data 4 2 % 4096
      let epoch := leAt p.data 6 4
      let orphaned := decide (fStatus p.hdr.toNat = .orphaned)
      if s.fab.cancels.contains (c, region) then
        let s := { s with fab.cancels := s.fab.cancels.erase (c, region) }
        if orphaned then s else sendOwnRel s p.port.val 0 c region epoch 0
      else
        match grantee s c region with
        | none => if orphaned then s else sendOwnRel s p.port.val 0 c region epoch 0
        | some (j, asked) =>
          if orphaned then jobEnd s j.ctx j.queue j.idx (recFabric .orphaned j.op j.tag 0)
          else
            let s := { s with fab.owned := s.fab.owned.filter (fun o => !(decide (o.1 = c) && decide (o.2.1 = region))) ++ [(c, region, epoch)] }
            jobEnd s j.ctx j.queue j.idx (recFabric .ok j.op j.tag (grantResult epoch region asked)))

/-- TEARDOWN (R460): every ACTIVE context of the job becomes TORN and its queues stop. -/
def execTeardown (p : FabIn) (s : State) : Host.Outcome State Fault Refusal :=
  effectOn s (
    if !mgtOk s p 0x48 then s
    else
      let job := leAt p.data 0 4
      let s := (List.range 4096).foldl (fun s c => if decide (job ≠ 0) && decide (odGet s (odCtx 0x6200 c) = job) then tornCtx s c else s) s
      mgtAnswer (odBump s (odKey 0x6010 5) 1) p .ok)

/-- MGT_ACK (R456, R457): an acknowledged OWN_REL completes its OWN_RELEASE with the status; an acknowledged cancel is over. -/
def execMgtAck (p : FabIn) (s : State) : Host.Outcome State Fault Refusal :=
  effectOn s (
    if !mgtOk s p 0x4F then s
    else
      let ptype := leAt p.data 0 1
      let st := statusFromCode (leAt p.data 1 1)
      let tag := leAt p.data 2 2
      if ptype = 0x46 then { s with fab.cancels := s.fab.cancels.drop 1 }
      else
        match tblFind s.fab.peers tag with
        | some r =>
          if ptype = 0x45 ∧ r.ptype = 0x45 then
            let s := { s with fab.peers := tblErase s.fab.peers tag }
            match r.asker with
            | .job k i =>
              match jobFind s (k / 16) (k % 16) i with
              | some j => jobEnd s (k / 16) (k % 16) i (recFabric st j.op j.tag r.len)
              | none => s
            | _ => s
          else s
        | none => s)

end Sys2Proof.Machine
end

