-- ==== Sys2Proof/Machine/Urzen.lean ====
section
/-! DEFINITION. The Urzen side (R478-R485): context windows, doorbells, flags, and the answers of an adapter to T3 requests. Writes of a
dictionary window (R76, R77) stand with the dictionary. -/

namespace Sys2Proof.Machine

/-! ## Context windows (R478) -/

/-- Page of an access: the context whose window it names. -/
def cwPage (a : CwAccess) : Nat := a.addr.toNat / 4096

/-- Offset within the page. -/
def cwOff (a : CwAccess) : Nat := a.addr.toNat % 4096

/-- Size of an access in bytes. -/
def cwLen (a : CwAccess) : Nat := a.lenm1.toNat + 1

/-- A page is admitted to the sender of an access (R478). -/
def cwAdmitted (s : State) (a : CwAccess) : Bool :=
  let page := cwPage a
  s.power.on && decide (urzenState s a.port.val = 2) &&
    (if a.mgmt then (if page = 0 then decide (odGet s (odKey 0x7000 1) = 1) else (ctxMask s page).testBit a.port.val)
     else decide (page ≠ 0) && decide (page = a.ctx.toNat) && (ctxMask s page).testBit a.port.val)

/-- The buffers of page 0x000: naturally aligned accesses that lie within one buffer (R77). -/
def dwBuffer (off n : Nat) : Bool :=
  [1, 2, 4, 8, 16, 32, 64, 128].contains n && decide (off % n = 0) &&
    ((decide (0x100 ≤ off) && decide (off + n ≤ 0x6A0)) || (decide (0x800 ≤ off) && decide (off + n ≤ 0xDA0)))

/-- An access has a size and alignment that its page takes (R77, R478). -/
def cwSized (a : CwAccess) (write : Bool) : Bool :=
  let off := cwOff a
  let n := cwLen a
  if cwPage a = 0 then (decide (n = 4) && decide (off % 4 = 0)) || dwBuffer off n
  else if off < 8 then write && decide (off = 0) && decide (n = 8)
  else decide (n = 4) && decide (off % 4 = 0)

/-- DW_STATUS (R76). -/
def dwStatus (w : DictWindow) : Nat := (if w.busy then 1 else 0) + (if w.done then 2 else 0) + w.respLen * 2 ^ 16

/-- What a read of page 0x000 returns (R76). -/
def dwRead (w : DictWindow) (off n : Nat) : Bytes :=
  if off = 0 ∧ n = 4 then natLe 4 (w.reqLen * 2 ^ 16)
  else if off = 4 ∧ n = 4 then natLe 4 (dwStatus w)
  else if 0x100 ≤ off ∧ off + n ≤ 0x6A0 then padTo n (w.req.drop (off - 0x100))
  else if 0x800 ≤ off ∧ off + n ≤ 0xDA0 then padTo n (w.resp.drop (off - 0x800))
  else natLe n 0

/-- The head and the last accepted tail of a queue, 0 where it is not enabled (R479). -/
def queueEnds (s : State) (c q : Nat) : Nat × Nat :=
  match queueOf s c q with
  | some x => (x.head, x.tail)
  | none => (0, 0)

/-- What a read of a context's page returns (R342, R343, R478, R479). -/
def cwRead (s : State) (c off : Nat) : Nat :=
  if off = 0x40 then cwFlags s c
  else if 0x80 ≤ off ∧ off < 0xC0 then (flagGet s c ((off - 0x80) / 4)).count
  else if 0x100 ≤ off ∧ off < 0x140 then (queueEnds s c ((off - 0x100) / 4)).1
  else if 0x140 ≤ off ∧ off < 0x180 then (queueEnds s c ((off - 0x140) / 4)).2
  else 0

/-- CW_RD (R478, R659): answered with CW_DATA, or with RANGE and zero data. -/
def execCwRd (a : CwAccess) (s : State) : Host.Outcome State Fault Refusal :=
  effectOn s (
    if !s.power.on then s
    else
      let ok := cwAdmitted s a && cwSized a false
      let n := cwLen a
      let data := if !ok then natLe n 0 else if cwPage a = 0 then dwRead (windowOfPort s a.port.val) (cwOff a) n else natLe n (cwRead s (cwPage a) (cwOff a))
      sendUrzen s a.port.val 0x2C (statusCode (if ok then .ok else .range)) a.ctx.toNat a.tag.toNat a.addr.toNat (n - 1) 0 0 data)

/-! ## Doorbells and flags -/

/-- DOORBELL (R479, R480): CW_DOORBELL takes 8-byte writes. -/
def execDoorbell (a : CwAccess) (value : BitVec 64) (s : State) : Host.Outcome State Fault Refusal :=
  effectOn s (
    if cwAdmitted s a && decide (cwPage a ≠ 0) && decide (cwOff a = 0) && decide (cwLen a = 8) then
      cwWrite s a.port.val (cwPage a) 0 value.toNat
    else s)

/-- FLAG_CLEAR (R343): a write to CW_FLAGCOUNT. -/
def execFlagClear (a : CwAccess) (value : BitVec 32) (s : State) : Host.Outcome State Fault Refusal :=
  effectOn s (
    let off := cwOff a
    if cwAdmitted s a && decide (cwPage a ≠ 0) && decide (0x80 ≤ off) && decide (off < 0xC0) && decide (off % 4 = 0) && decide (cwLen a = 4) then
      cwWrite s a.port.val (cwPage a) off value.toNat
    else s)

/-! ## T3 (R484, R485) -/

/-- The answer of an adapter to a T3 request reaches who asked (R484, R485). -/
def t3Answered (s : State) (port tag : Nat) (st : Status) (data : Bytes) : State :=
  let key := t3Key port tag
  match tblFind s.fab.t3 key with
  | none => s
  | some asker =>
    let s := { s with fab.t3 := tblErase s.fab.t3 key }
    let s := if st = .poison then odBump s (odKey 0x7110 3) 1 else s
    match asker with
    | .home => s
    | .chunk id off part => chunkAnswer s id off part (2 ^ 20 + key) st data
    | .job k i =>
      (match jobFind s (k / 16) (k % 16) i with
       | some j => jobEnd s (k / 16) (k % 16) i (recHead st j.op j.tag)
       | none => s)
    | .commit k i => commitAnswer s k i (2 ^ 20 + key) st
    | .ckpt c set => ckAnswer s c set (2 ^ 20 + key) st

/-- T3_DATA (R484, R485). -/
def execT3Data (port : Fin 8) (tag : BitVec 16) (poison : Bool) (data : Bytes) (s : State) : Host.Outcome State Fault Refusal :=
  effectOn s (if urzenState s port.val = 2 then t3Answered s port.val tag.toNat (if poison then .poison else .ok) data else s)

/-- T3_DONE (R484, R485): the write is visible to the host's processors. -/
def execT3Done (port : Fin 8) (tag : BitVec 16) (poison : Bool) (s : State) : Host.Outcome State Fault Refusal :=
  effectOn s (if urzenState s port.val = 2 then t3Answered s port.val tag.toNat (if poison then .poison else .ok) [] else s)

/-- T3_TIMEOUT (R485): no response within OD 0x7000.02. -/
def execT3Timeout (port : Fin 8) (tag : BitVec 16) (s : State) : Host.Outcome State Fault Refusal :=
  effectOn s (t3Answered s port.val tag.toNat .poison [])

end Sys2Proof.Machine
end

