-- ==== Sys2Proof/Machine/Isolation.lean ====
section
/-! DEFINITION. Contexts and their keys (R489-R509), measurements (R512-R514) and SPDM (R515-R518). -/

namespace Sys2Proof.Machine

/-! ## Context commands (R491) -/

/-- Result of the last context command of a context: 0 NONE, 1 IN_PROGRESS, 2 DONE, 3 BAD_STATE (R519). -/
def ctxResult (s : State) (c v : Nat) : State := odSet s (odCtx 0x9120 c) v

/-- What CREATE sets to zero, and the key generation (R492). -/
def createZero (s : State) (c : Nat) : State :=
  let s := setEpoch s c 0
  let clear (x : Queue) : Queue := { x with head := 0, tail := 0, disp := 0, finished := [], wait := .unasked, stamps := [] }
  let s := { s with q.queues := s.q.queues.map (fun e => if e.1 / 16 = c then (e.1, clear e.2) else e),
                    q.flags := s.q.flags.filter (fun e => decide (e.1 / 16 ≠ c)) }
  let s := odSet s (odCtx 0x3190 c) 0
  odSet s (odCtx 0x9130 c) ((odGet s (odCtx 0x9130 c) + 1) % 2 ^ 32)

/-- CREATE begins (R491, R500): its 256-bit key is drawn from the random source, and its record is on its way to the flash. -/
def startCreate (s : State) (c : Nat) : State :=
  if ctxState s c = 0 then
    let (k, s) := draw (ctxResult (createZero s c) c 1)
    { s with iso.creating := some c, iso.drawn := natLe 32 k }
  else ctxResult s c 3

/-- TEAR (R491): as TEARDOWN, for this context alone. -/
def startTear (s : State) (c : Nat) : State := if ctxState s c = 1 then ctxResult (tornCtx s c) c 2 else ctxResult s c 3

/-- RELEASE begins (R495 step 1): the key record is on its way to be marked. -/
def startRelease (s : State) (c : Nat) : State :=
  if ctxState s c = 1 ∨ ctxState s c = 2 then { ctxResult s c 1 with iso.releasing := s.iso.releasing ++ [⟨c, 1⟩] }
  else ctxResult s c 3

/-- One context command: 1 CREATE, 2 TEAR, 3 RELEASE. -/
def startCommand (s : State) (c k : Nat) : State :=
  if k = 1 then startCreate s c else if k = 2 then startTear s c else startRelease s c

/-- The active management core may take the next context command: bring-up has ended, and none is being executed (R491). -/
def commandFree (s : State) : Bool :=
  decide (s.boot.next = some 7) && coreUp s && s.iso.creating.isNone && decide (s.iso.releasing = [])

/-- Context commands are executed one at a time, in arrival order (R491). -/
def runCommands : (fuel : Nat) → State → State
  | 0, s => s
  | fuel + 1, s =>
    if commandFree s then
      match s.iso.commands with
      | [] => s
      | (c, k) :: t => runCommands fuel (startCommand { s with iso.commands := t } c k)
    else s

/-- Take what waits as far as it goes. -/
def nextCommand (s : State) : State := runCommands (s.iso.commands.length + 1) s

/-- A write of OD 0x9110: it always completes OK, and the command waits its turn (R491). -/
def contextCommand (s : State) (c k : Nat) : State :=
  if c = 0 ∨ dictUp s = false then s else nextCommand { s with iso.commands := s.iso.commands ++ [(c, k)] }

/-- CREATE (R491). -/
def execCreate (c : Ctx) (s : State) : Host.Outcome State Fault Refusal := effectOn s (contextCommand s c.toNat 1)

/-- TEAR (R491). -/
def execTear (c : Ctx) (s : State) : Host.Outcome State Fault Refusal := effectOn s (contextCommand s c.toNat 2)

/-- RELEASE (R491, R495). -/
def execRelease (c : Ctx) (s : State) : Host.Outcome State Fault Refusal := effectOn s (contextCommand s c.toNat 3)

/-- The state of the key mirror: 0 SYNCED, 1 PENDING, 2 NONE (R508). -/
def mirrorState (s : State) : Nat := odGet s (odKey 0x9003 1)

/-- The flash holds the key of the CREATE under way (R506). -/
def createDurable (s : State) (c : Nat) : Bool :=
  match tblFind s.iso.keys0 c with
  | some r => decide (r.state = .active) && decide (r.gen = odGet s (odCtx 0x9130 c))
  | none => false

/-- The key that a CREATE has drawn is in the key store of the active die, in that of a standby in service, and in the context's slots of
the media dies (R501, R507). -/
def storeKey (s : State) (c : Nat) : State :=
  let k := s.iso.drawn
  let s := loadSlots s c k
  { s with iso.active := tblSet s.iso.active c k, iso.drawn := [],
           iso.standby := if mirrorState s = 2 then s.iso.standby else tblSet s.iso.standby c k }

/-- CREATE_DONE (R507): the flash and, where one is in service, the standby hold the key. -/
def execCreateDone (c : Ctx) (s : State) : Host.Outcome State Fault Refusal :=
  effectOn s (
    let c := c.toNat
    if s.iso.creating = some c ∧ createDurable s c = true then
      let s := ctxResult (odSet s (odCtx 0x9100 c) 1) c 2
      nextCommand { storeKey s c with iso.creating := none }
    else s)

/-! ## Release (R495, R496) -/

/-- The release of a context goes on to a step. -/
def releaseStep (s : State) (c k : Nat) : State :=
  { s with iso.releasing := s.iso.releasing.map (fun r => if r.ctx = c then ⟨c, k⟩ else r) }

/-- The queue records of a context with every ENABLE 0 (R490, R494). -/
def disableRecords (b : Bytes) : Bytes := b.zipIdx.map (fun p => if p.2 % 32 = 1 then p.1 &&& 0xFE#8 else p.1)

/-- Step 2: the context's queues stop and are disabled, and its running tasks end at their next boundary (R460). -/
def releaseStop (s : State) (c : Nat) : State :=
  let s := stopQueries (odSet s (odCtx 0x9100 c) 3) c
  (s.q.tasks.filter (fun e => decide (e.2.ctx = c) && e.2.cluster.isSome)).foldl (fun s e => endTask s e.1 e.2) s

/-- Step 3: every export window, import window, host window and mailbox of the context goes. -/
def releaseWindows (s : State) (c : Nat) : State :=
  let mine (e : Nat × Bytes) : Bool :=
    (decide (0x630000 ≤ e.1) && decide (e.1 < 0x640000) && decide (e.2 ≠ []) && decide ((fabWin e.2).ctx = c)) ||
      (decide (0x740000 ≤ e.1) && decide (e.1 < 0x750000) && decide (e.2 ≠ []) && decide ((hostWin e.2).ctx = c))
  let wids := ((s.blobs.filter mine).filter (fun e => decide (e.1 < 0x640000))).map (fun e => e.1 - 0x630000)
  { s with blobs := s.blobs.map (fun e => if mine e then (e.1, []) else e),
           step.targets := s.step.targets.filter (fun t => !wids.contains t.1),
           fab.mailboxes := s.fab.mailboxes.filter (fun m => decide (m.1 / 4 ≠ c)) }

/-- Step 3: the whole range table is withdrawn as one withdrawal, once none of the context is in progress (R280). -/
def releaseWithdraw (s : State) (c : Nat) : State :=
  if (s.iso.releasing.contains ⟨c, 3⟩) && !withdrawing s c then
    releaseStep (beginWithdrawal s c .unmap 0 (2 ^ 45) [] none [] []) c 4
  else s

/-- Step 4: parked and faulted streams are discarded, dirty lines are dropped without writeback, every frame returns to its pool;
what the context's queues held goes with them. -/
def releaseFrames (s : State) (c : Nat) : State :=
  let other (frame : Nat) : Bool := decide (frameOwner s frame ≠ some c)
  let s := dropWaiting s ((s.fab.peers.filter (fun e => decide (e.2.ctx = c))).map (·.1))
  let kept := s.mem.forward.filter (fun e => other e.1)
  let away := s.mem.away.filter (fun e => other e.1)
  let cache := s.mem.cache.filter (fun f => decide (frameOwner s f.frame ≠ some c))
  let s := setCache { s with mem.forward := kept, mem.away := away } cache
  let s := { s with
    tier.t1 := s.tier.t1.filter (fun r => decide (r.ctx ≠ c)), tier.t2 := s.tier.t2.filter (fun r => decide (r.ctx ≠ c)),
    tier.t3 := s.tier.t3.filter (fun r => decide (r.2.ctx ≠ c)), tier.moves := s.tier.moves.filter (fun m => decide (m.ctx ≠ c)),
    tier.recency := s.tier.recency.filter (fun e => decide (e.1 / 2 ^ 41 ≠ c)),
    tier.paused := s.tier.paused.filter (fun p => decide (p.1 ≠ c)),
    feed.streams := s.feed.streams.filter (fun e => decide (e.2.ctx ≠ c)),
    q.queues := s.q.queues.filter (fun e => decide (e.1 / 16 ≠ c)), q.jobs := s.q.jobs.filter (fun j => decide (j.ctx ≠ c)),
    q.tasks := s.q.tasks.filter (fun e => decide (e.2.ctx ≠ c)), q.windows := s.q.windows.filter (fun e => decide (e.1 / 16 ≠ c)),
    q.stores := s.q.stores.filter (fun h => decide (h.ctx ≠ c)), q.quills := s.q.quills.filter (fun e => decide (e.2.qkey / 16 ≠ c)),
    fab.peers := s.fab.peers.filter (fun e => decide (e.2.ctx ≠ c)), fab.owned := s.fab.owned.filter (fun o => decide (o.1 ≠ c)),
    xlat.owed := s.xlat.owed.filter (fun o => decide (o.1 ≠ c)), xlat.walks := s.xlat.walks.filter (fun w => decide (w.ctx ≠ c)),
    step.checkpoints := s.step.checkpoints.filter (fun k => decide (k.ctx ≠ c)),
    step.compositions := s.step.compositions.filter (fun k => decide (k.ctx ≠ c)) }
  let s := blobSet s (odCtx 0x9200 c) (disableRecords (blobGet s (odCtx 0x9200 c)))
  settleQuota ([1, 2, 3].foldl (fun s t => notePool s t false) s) c

/-- Steps 5 and 6: the keys are erased everywhere, the context's mordants and flag counts are reset, and it is FREE. -/
def releaseEnds (s : State) (c : Nat) : State :=
  let s := { s with
    iso.keys0 := tblErase s.iso.keys0 c, iso.keys1 := tblErase s.iso.keys1 c,
    iso.active := tblErase s.iso.active c, iso.standby := tblErase s.iso.standby c,
    iso.backlog := s.iso.backlog.filter (· != c), iso.releasing := s.iso.releasing.filter (fun r => decide (r.ctx ≠ c)),
    q.mordants := s.q.mordants.filter (fun e => !mordOwned s c e.1), q.flags := s.q.flags.filter (fun e => decide (e.1 / 16 ≠ c)) }
  ctxResult (odSet (clearSlots s c) (odCtx 0x9100 c) 0) c 2

/-- KEY_RECORD_DURABLE (R495, R506): a write of CREATE's record, the mark of RELEASING, or the erasure. -/
def execKeyRecordDurable (c : Ctx) (s : State) : Host.Outcome State Fault Refusal :=
  effectOn s (
    let c := c.toNat
    if s.iso.creating = some c then keyRecord s c .active
    else
      match (s.iso.releasing.find? (fun r => decide (r.ctx = c))).map (·.step) with
      | some 1 => releaseWithdraw (releaseStep (releaseWindows (releaseStop (keyRecord s c .releasing) c) c) c 3) c
      | some 5 => nextCommand (releaseEnds s c)
      | _ => s)

/-- The withdrawal of a release has ended: its step 4 follows. -/
def releaseDrained (s : State) (c : Nat) : State :=
  if s.iso.releasing.contains ⟨c, 4⟩ && !withdrawing s c then releaseStep (releaseFrames s c) c 5 else releaseWithdraw s c

/-- WITHDRAW_DRAIN_END (R246, R280, R441): every transfer of the old epoch has drained. -/
def execWithdrawDrainEnd (c : Ctx) (s : State) : Host.Outcome State Fault Refusal :=
  effectOn s (
    let c := c.toNat
    let s :=
      match tblFind s.xlat.withdrawals c with
      | some w => if drained s c w then releaseDrained (finishWithdrawal s c w) c else s
      | none => s
    ackWindows s)

/-- A bring-up that finds a record marked RELEASING completes the release from step 3 (R496). -/
def completeRelease (s : State) (c : Nat) : State :=
  logEv (releaseEnds (releaseFrames (releaseWindows s c) c) c) "CONTEXT_RELEASED" [c]

/-- STANDBY_RESYNC (R508): the standby has acknowledged every key record. -/
def execStandbyResync (s : State) : Host.Outcome State Fault Refusal :=
  effectOn s (
    if mirrorState s = 1 then
      odSet { s with iso.standby := s.iso.active, iso.backlog := [] } (odKey 0x9003 1) 0
    else s)

/-! ## Measurements (R512-R514) -/

/-- Extend measurement `i` by a digest and log the extension (R512-R514): events 1 ROM, 2 LOAD, 3 UPDATE, 4 SECURITY, 5 CONFIG,
6 TAKEOVER. -/
def extendMeas (s : State) (i event unit version : Nat) (digest : Bytes) : State :=
  let k := odKey 0x9400 i
  let s := blobSet s k (sha256 (padTo 32 (blobGet s k) ++ digest))
  let n := odGet s (odKey 0x9402 1)
  if n < 1024 then
    let e := natLe 64 (i + event * 2 ^ 8 + unit * 2 ^ 16 + version * 2 ^ 32 + stampNow s * 2 ^ 64 + leNat digest * 2 ^ 128)
    let b := odKey 0x9401 (n / 16)
    odSet (blobSet s b (blobGet s b ++ e)) (odKey 0x9402 1) (n + 1)
  else odSet s (odKey 0x9402 2) 1

/-- Every measurement at 32 zero bytes, the log empty (R512, R514). -/
def clearMeas (s : State) : State :=
  let s := (List.range 8).foldl (fun s i => blobSet s (odKey 0x9400 (i + 1)) (List.replicate 32 0#8)) s
  let s := (List.range 64).foldl (fun s i => blobSet s (odKey 0x9401 i) []) s
  odSet (odSet s (odKey 0x9402 1) 0) (odKey 0x9402 2) 0

/-- The digest of measurement 7: key-hash slot states, revocation fuses, debug fuse, image slot booted (R512; the bytes are the
model's: log entry 70). -/
def securityDigest (s : State) (slot : Nat) : Bytes :=
  sha256 (((List.range 4).map (fun i => natLe 1 (odGet s (odKey 0x9000 (i + 1))))).flatten ++
    natLe 1 ((s.fw.revoked.map (fun k => 2 ^ k)).sum) ++ natLe 1 (odGet s (odKey 0x9002 1)) ++ natLe 1 slot)

/-- The digest of measurement 8: the values of OD 0x6100, 0x7100, 0x7200 and 0x7400 in ascending order (R512). -/
def topologyDigest (s : State) : Bytes :=
  let nums (base n w : Nat) : Bytes := ((List.range n).map (fun i => natLe w (odGet s (base * 256 + i)))).flatten
  sha256 (nums 0x6100 16 8 ++ nums 0x7100 8 8 ++ nums 0x7200 4096 2 ++
    ((List.range 4096).map (fun i => blobGet s (0x740000 + i))).flatten)

/-! ## SPDM (R515-R518); the layouts are SPDM 1.2's (log entry 71) -/

/-- The state of a source (R516). -/
def spdmOf (s : State) (src : Src) : Option SpdmSrc := s.iso.spdm.find? (fun x => decide (x.src = src))

/-- A source that has agreed nothing yet. -/
def newSpdm (src : Src) : SpdmSrc := ⟨src, 0, [], [], [], [], false, 0⟩

/-- Put a source's state at the front; of more than 8 in use the least recently used one is displaced (R516). -/
def setSpdm (s : State) (x : SpdmSrc) : State :=
  let rest := s.iso.spdm.filter (fun y => decide (y.src ≠ x.src))
  let live := rest.filter (fun y => !y.resynch)
  let gone := (live.drop 7).map (fun y => { newSpdm y.src with resynch := true })
  { s with iso.spdm := { x with used := stampNow s } :: live.take 7 ++ gone ++ rest.filter (·.resynch) }

/-- An ERROR response. -/
def spdmError (code data : Nat) : Bytes := [0x12#8, 0x7F#8] ++ natLe 1 code ++ natLe 1 data

/-- The response limit (R517): a longer response is answered with ResponseTooLarge and its size. -/
def spdmLimit (r : Bytes) : Bytes := if 1024 < r.length then spdmError 0x0D 0 ++ natLe 4 r.length else r

/-- 32 random bytes (log entry 5). -/
def spdmNonce (s : State) : Bytes × State := let (n, s) := draw s; (natLe 32 n, s)

/-- One measurement as a DMTF measurement block. -/
def measBlock (s : State) (i : Nat) : Bytes :=
  let ty := if i = 1 then 0 else if i ≤ 6 then 1 else if i = 7 then 2 else 3
  natLe 1 i ++ [1#8] ++ natLe 2 35 ++ natLe 1 ty ++ natLe 2 32 ++ padTo 32 (blobGet s (odKey 0x9400 i))

/-- Blocks of several measurements. -/
def measBlocks (s : State) (l : List Nat) : Bytes := (l.map (measBlock s)).flatten

/-- A signature under the identity key over a transcript, with SPDM 1.2's signing context (R515). -/
def spdmSign (s : State) (context : List Nat) (transcript : Bytes) : Bytes × State :=
  let ver : Bytes := ([0x64, 0x6D, 0x74, 0x66, 0x2D, 0x73, 0x70, 0x64, 0x6D, 0x2D, 0x76, 0x31, 0x2E, 0x32, 0x2E, 0x2A] : List Nat).map (BitVec.ofNat 8)
  let name : Bytes := context.map (BitVec.ofNat 8)
  let pre := ver ++ ver ++ ver ++ ver ++ List.replicate (36 - name.length) 0#8 ++ name
  let (n, s) := draw s
  (padTo 384 (Config.sign (pre ++ sha256 transcript) n), odBump s (odKey 0x9301 2) 1)

/-- "responder-challenge_auth signing". -/
def challengeContext : List Nat := "responder-challenge_auth signing".toList.map Char.toNat

/-- "responder-measurements signing". -/
def measContext : List Nat := "responder-measurements signing".toList.map Char.toNat

/-- GET_VERSION: version 1.2 alone; the source begins anew (R515). -/
def spdmVersion (s : State) (src : Src) (msg : Bytes) : Bytes × SpdmSrc × State :=
  let r : Bytes := [0x10#8, 0x04#8, 0#8, 0#8, 0#8, 1#8, 0#8, 0x12#8]
  (r, { newSpdm src with stage := 1, transA := msg ++ r }, s)

/-- GET_CAPABILITIES: CERT_CAP, CHAL_CAP, MEAS_CAP with signature, and the limit of 1,024 bytes (R515, R517). -/
def spdmCapabilities (s : State) (x : SpdmSrc) (msg : Bytes) : Bytes × SpdmSrc × State :=
  let r : Bytes := [0x12#8, 0x61#8, 0#8, 0#8, 0#8, 16#8, 0#8, 0#8] ++ natLe 4 0x16 ++ natLe 4 1024 ++ natLe 4 1024
  (r, { x with stage := 2, transA := x.transA ++ msg ++ r }, s)

/-- NEGOTIATE_ALGORITHMS: of what the requester offers, RSAPSS-3072 and SHA-256 (R515). -/
def spdmAlgorithms (s : State) (x : SpdmSrc) (msg : Bytes) : Bytes × SpdmSrc × State :=
  let asym := leAt msg 8 4 &&& 8
  let hash := leAt msg 12 4 &&& 1
  let spec := leAt msg 6 1 &&& 1
  let r : Bytes := [0x12#8, 0x63#8, 0#8, 0#8] ++ natLe 2 36 ++ natLe 1 spec ++ [0#8] ++ natLe 4 (if spec = 1 then 2 else 0) ++
    natLe 4 asym ++ natLe 4 hash ++ List.replicate 16 0#8
  (r, { x with stage := 3, transA := x.transA ++ msg ++ r }, s)

/-- GET_DIGESTS: the digest of slot 0 (R515). -/
def spdmDigests (s : State) (x : SpdmSrc) (msg : Bytes) : Bytes × SpdmSrc × State :=
  let r : Bytes := [0x12#8, 0x01#8, 0#8, 1#8] ++ sha256 Config.certChain
  (r, { x with transB := x.transB ++ msg ++ r }, s)

/-- GET_CERTIFICATE: a portion of at most 1,016 bytes of the chain of slot 0 (R517). -/
def spdmCertificate (s : State) (x : SpdmSrc) (msg : Bytes) : Bytes × SpdmSrc × State :=
  let chain := Config.certChain
  let off := leAt msg 4 2
  if leAt msg 2 1 ≠ 0 ∨ chain.length ≤ off then (spdmError 1 0, x, s)
  else
    let part := (chain.drop off).take (min (leAt msg 6 2) 1016)
    let r : Bytes := [0x12#8, 0x02#8, 0#8, 0#8] ++ natLe 2 part.length ++ natLe 2 (chain.length - off - part.length) ++ part
    (r, { x with transB := x.transB ++ msg ++ r }, s)

/-- CHALLENGE: a response signed over the source's transcript (R515). -/
def spdmChallenge (s : State) (x : SpdmSrc) (msg : Bytes) : Bytes × SpdmSrc × State :=
  let ty := leAt msg 3 1
  if leAt msg 2 1 ≠ 0 ∨ msg.length < 36 ∨ (ty ≠ 0 ∧ ty ≠ 1 ∧ ty ≠ 0xFF) then (spdmError 1 0, x, s)
  else
    let (nonce, s) := spdmNonce s
    let summary := if ty = 0 then [] else sha256 (measBlocks s (if ty = 1 then [1, 2, 3, 4, 5, 6] else [1, 2, 3, 4, 5, 6, 7, 8]))
    let r := [0x12#8, 0x03#8, 0#8, 1#8] ++ sha256 Config.certChain ++ nonce ++ summary ++ natLe 2 0
    let (sig, s) := spdmSign s challengeContext (x.transA ++ x.transB ++ msg ++ r)
    (r ++ sig, { x with transB := [], transM := [] }, s)

/-- GET_MEASUREMENTS: how many there are, one of them or all, signed if the request asks for it (R515). -/
def spdmMeasurements (s : State) (x : SpdmSrc) (msg : Bytes) : Bytes × SpdmSrc × State :=
  let signed := decide (leAt msg 2 1 % 2 = 1)
  let op := leAt msg 3 1
  if (signed = true ∧ (msg.length < 37 ∨ leAt msg 36 1 ≠ 0)) ∨ (8 < op ∧ op ≠ 0xFF) then (spdmError 1 0, x, s)
  else
    let l := if op = 0 then [] else if op = 0xFF then [1, 2, 3, 4, 5, 6, 7, 8] else [op]
    let record := measBlocks s l
    let (nonce, s) := spdmNonce s
    let r := [0x12#8, 0x60#8] ++ natLe 1 (if op = 0 then 8 else 0) ++ [0#8] ++ natLe 1 l.length ++ natLe 3 record.length ++ record ++
      nonce ++ natLe 2 0
    if signed then
      let (sig, s) := spdmSign s measContext (x.transA ++ x.transM ++ msg ++ r)
      (r ++ sig, { x with transM := [] }, s)
    else (r, { x with transM := x.transM ++ msg ++ r }, s)

/-- Answer one request of a source that is in step (R515). -/
def spdmRun (s : State) (x : SpdmSrc) (code : Nat) (msg : Bytes) : Bytes × SpdmSrc × State :=
  if code = 0xE1 then if x.stage = 1 then spdmCapabilities s x msg else (spdmError 4 0, x, s)
  else if code = 0xE3 then if x.stage = 2 then spdmAlgorithms s x msg else (spdmError 4 0, x, s)
  else if x.stage ≠ 3 then (spdmError 4 0, x, s)
  else if code = 0x81 then spdmDigests s x msg
  else if code = 0x82 then spdmCertificate s x msg
  else if code = 0x83 then spdmChallenge s x msg
  else spdmMeasurements s x msg

/-- Request codes that the device supports besides GET_VERSION (R515). -/
def spdmCodes : List Nat := [0xE1, 0xE3, 0x81, 0x82, 0x83, 0xE0]

/-- An SPDM request: a write of OD 0x9300.01 (R516). The source's response entry holds the answer from then on. -/
def spdmRequest (s : State) (src : Src) (msg : Bytes) : State :=
  if dictUp s = false then s
  else
    let x := (spdmOf s src).getD (newSpdm src)
    let code := leAt msg 1 1
    let (r, y, s) : Bytes × SpdmSrc × State :=
      if msg.length < 4 then (spdmError 1 0, x, s)
      else if code = 0x84 then (if leAt msg 0 1 = 0x10 then spdmVersion s src msg else (spdmError 0x41 0, x, s))
      else if x.resynch then (spdmError 0x43 0, { x with resynch := false }, s)
      else if !spdmCodes.contains code then (spdmError 7 code, x, s)
      else if leAt msg 0 1 ≠ 0x12 then (spdmError 0x41 0, x, s)
      else spdmRun s x code msg
    odBump (setSpdm s { y with response := spdmLimit r }) (odKey 0x9301 1) 1

/-- A row of one request code. -/
def spdmAs (s : State) (src : Src) (code : Nat) (msg : Bytes) : State := if leAt msg 1 1 = code then spdmRequest s src msg else s

/-- GET_VERSION (R515). -/
def execGetVersion (src : Src) (msg : Bytes) (s : State) : Host.Outcome State Fault Refusal := effectOn s (spdmAs s src 0x84 msg)

/-- GET_CAPABILITIES (R515, R517). -/
def execGetCapabilities (src : Src) (msg : Bytes) (s : State) : Host.Outcome State Fault Refusal := effectOn s (spdmAs s src 0xE1 msg)

/-- NEGOTIATE_ALGORITHMS (R515). -/
def execNegotiateAlgorithms (src : Src) (msg : Bytes) (s : State) : Host.Outcome State Fault Refusal := effectOn s (spdmAs s src 0xE3 msg)

/-- GET_DIGESTS (R515). -/
def execGetDigests (src : Src) (msg : Bytes) (s : State) : Host.Outcome State Fault Refusal := effectOn s (spdmAs s src 0x81 msg)

/-- GET_CERTIFICATE (R517). -/
def execGetCertificate (src : Src) (msg : Bytes) (s : State) : Host.Outcome State Fault Refusal := effectOn s (spdmAs s src 0x82 msg)

/-- CHALLENGE (R515). -/
def execChallenge (src : Src) (msg : Bytes) (s : State) : Host.Outcome State Fault Refusal := effectOn s (spdmAs s src 0x83 msg)

/-- GET_MEASUREMENTS (R515). -/
def execGetMeasurements (src : Src) (msg : Bytes) (s : State) : Host.Outcome State Fault Refusal := effectOn s (spdmAs s src 0xE0 msg)

end Sys2Proof.Machine
end

