-- ==== Sys2Proof/Machine/Firmware.lean ====
section
/-! DEFINITION. Images and their verification (R526-R535), processors that restart, retire and pass their queues on (R536-R549),
the takeover (R34), and live updates (R550-R553). -/

namespace Sys2Proof.Machine

/-! ## Image slots (R522): 0 A, 1 B, 2 recovery -/

/-- Bytes of a slot. -/
def slotSize (k : Nat) : Nat := if k = 2 then 0x800000 else 0x1800000

/-- What a slot holds: 255 − byte where that is not 0. -/
def slotMem (s : State) (k : Nat) : Memory := if k = 0 then s.fw.slotA else if k = 1 then s.fw.slotB else s.fw.slotR

/-- Put back a slot. -/
def setSlotMem (s : State) (k : Nat) (m : Memory) : State :=
  if k = 0 then { s with fw.slotA := m } else if k = 1 then { s with fw.slotB := m } else { s with fw.slotR := m }

/-- Bytes of a slot: erased flash reads 0xFF. -/
def slotBytes (s : State) (k off n : Nat) : Bytes := (memRead (slotMem s k) off n).map (fun b => ~~~b)

/-- Program bytes of a slot. -/
def slotWrite (s : State) (k off : Nat) (data : Bytes) : State := setSlotMem s k (memWrite (slotMem s k) off (data.map (fun b => ~~~b)))

/-- A component of a bundle (R527). -/
structure Component where
  kind   : Nat
  offset : Nat
  length : Nat
  digest : Bytes
  deriving DecidableEq, Repr

/-- The manifest at the start of a slot (R526). -/
structure Manifest where
  magic     : Nat
  version   : Nat
  svn       : Nat
  keySlot   : Nat
  revoke    : Nat
  ncomp     : Nat
  interface : Nat
  comps     : List Component
  modulus   : Bytes
  signature : Bytes
  deriving DecidableEq, Repr

/-- A component entry (R527). -/
def componentOf (b : Bytes) : Component := ⟨leAt b 0 1, leAt b 4 4, leAt b 8 4, (b.drop 16).take 32⟩

/-- The manifest of a slot (R526). -/
def manifestOf (s : State) (k : Nat) : Manifest :=
  let b := slotBytes s k 0 1552
  let n := leAt b 11 1
  ⟨leAt b 0 4, leAt b 4 4, leAt b 8 1, leAt b 9 1, leAt b 10 1, n, leAt b 12 2,
    (List.range (min n 16)).map (fun i => componentOf ((b.drop (16 + 48 * i)).take 48)), (b.drop 784).take 384, (b.drop 1168).take 384⟩

/-- The bytes of a component match its digest. -/
def componentOk (s : State) (k : Nat) (c : Component) : Bool := decide (sha256 (slotBytes s k c.offset c.length) = c.digest)

/-- The fused security version (R532). -/
def fusedSvn (s : State) : Nat := s.fw.svn.getD Config.svn.val

/-- State of key-hash slot 1 to 4 (R531): 0 VALID, 1 REVOKED, 2 EMPTY. -/
def keySlotState (s : State) (n : Nat) : Nat :=
  if n = 0 ∨ 4 < n then 2
  else
    match Config.keyHash (Fin.ofNat 4 (n - 1)) with
    | none => 2
    | some _ => if s.fw.revoked.contains n then 1 else 0

/-- The modulus of a manifest is the one fused in its key-hash slot. -/
def keyMatches (m : Manifest) : Bool :=
  decide (1 ≤ m.keySlot) && decide (m.keySlot ≤ 4) &&
    (match Config.keyHash (Fin.ofNat 4 (m.keySlot - 1)) with
     | some h => decide (beNat (sha256 m.modulus) = h.toNat)
     | none => false)

/-- The first step of R528 at which a slot fails, none where it passes. -/
def verifyStep (s : State) (k : Nat) : Option Nat :=
  let m := manifestOf s k
  if m.magic ≠ 0x49564E46 ∨ m.ncomp = 0 ∨ 16 < m.ncomp ∨ m.comps.any (fun c => decide (slotSize k < c.offset + c.length)) = true then some 1
  else if keyMatches m = false ∨ keySlotState s m.keySlot ≠ 0 then some 2
  else if rsaOk (beNat m.modulus) (slotBytes s k 0 1168) m.signature = false then some 3
  else if m.svn < fusedSvn s then some 4
  else if (m.comps.filter (fun c => c.kind = 1)).all (componentOk s k) = false ∨ m.comps.all (fun c => c.kind != 1) = true then some 5
  else none

/-- Every component of a slot matches its digest. -/
def allComponentsOk (s : State) (k : Nat) : Bool := (manifestOf s k).comps.all (componentOk s k)

/-! ## Writing an image (R534, R535) -/

/-- Outcome of the image store (R554): 0 NONE, 1 IN_PROGRESS, 2 VALID, 3 RUNNING_SLOT, 4 CHUNK_REFUSED, 5 BAD_MANIFEST, 6 BAD_SIGNATURE,
7 REVOKED_KEY, 8 OLD_SVN, 9 BAD_DIGEST. -/
def imageOutcome (s : State) (v : Nat) : State := odSet s (odKey 0xA200 4) v

/-- The slot that booted (OD 0xA000.02). -/
def slotBooted (s : State) : Nat := odGet s (odKey 0xA000 2)

/-- The target slot (OD 0xA200.01). -/
def imageTarget (s : State) : Nat := odGet s (odKey 0xA200 1)

/-- A write of OD 0xA200.01 (R534). -/
def setTarget (s : State) (k : Nat) : State :=
  if slotBooted s = k then imageOutcome s 3 else imageOutcome (odSet s (odKey 0xA200 1) k) 0

/-- IMAGE_TARGET_SLOT (R534). -/
def execImageTargetSlot (slot : Fin 3) (s : State) : Host.Outcome State Fault Refusal :=
  effectOn s (if dictUp s then setTarget s slot.val else s)

/-- A slot is no longer verified (R534). -/
def unverify (s : State) (k : Nat) : State := odSet s (odKey 0xA201 (k + 1)) 0

/-- OD 0xA200.02 = ERASE (R534). -/
def eraseSlot (s : State) : State :=
  let k := imageTarget s
  if slotBooted s = k then imageOutcome s 3 else imageOutcome (unverify (setSlotMem s k []) k) 0

/-- ERASE (R534). -/
def execErase (s : State) : Host.Outcome State Fault Refusal := effectOn s (if dictUp s then eraseSlot s else s)

/-- A chunk is stored in the program buffer, or refused for good with outcome CHUNK_REFUSED (R534). -/
def chunkStored (s : State) (chunk : Bytes) : State :=
  let k := imageTarget s
  let data := chunk.drop 4
  if chunk.length < 4 ∨ slotSize k < leAt chunk 0 4 + data.length then imageOutcome s 4
  else unverify (slotWrite { s with fw.buffered := s.fw.buffered + data.length } k (leAt chunk 0 4) data) k

/-- A write of OD 0xA200.03 (R534, R535): whether it was stored or refused for good, or found the program buffer full. What the flash
has programmed since the last chunk is a free value. -/
def writeChunk (s : State) (chunk : Bytes) : Bool × State :=
  let (d, s) := draw s
  let s := { s with fw.buffered := s.fw.buffered - d }
  if 4 ≤ chunk.length ∧ leAt chunk 0 4 + (chunk.length - 4) ≤ slotSize (imageTarget s) ∧
      Config.programBuffer < s.fw.buffered + (chunk.length - 4) then (false, s)
  else (true, chunkStored s chunk)

/-- IMAGE_CHUNK (R534, R535): a chunk is at most 1,024 bytes. -/
def execImageChunk (_src : Src) (chunk : Bytes) (s : State) : Host.Outcome State Fault Refusal :=
  effectOn s (if dictUp s && decide (chunk.length ≤ 1024) then (writeChunk s chunk).2 else s)

/-- OD 0xA200.02 = VERIFY (R534). -/
def verifySlot (s : State) : State :=
  let k := imageTarget s
  let m := manifestOf s k
  match verifyStep s k with
  | some 1 => imageOutcome s 5
  | some 2 => imageOutcome s (if keyMatches m && decide (keySlotState s m.keySlot = 1) then 7 else 6)
  | some 3 => imageOutcome s 6
  | some 4 => imageOutcome s 8
  | some _ => imageOutcome s 9
  | none => if allComponentsOk s k then imageOutcome (odSet s (odKey 0xA201 (k + 1)) m.version) 2 else imageOutcome s 9

/-- VERIFY (R534). -/
def execVerify (s : State) : Host.Outcome State Fault Refusal := effectOn s (if dictUp s then verifySlot s else s)

/-- OD 0x9000 and OD 0xA000.03 as the fuses stand. -/
def showFuses (s : State) : State :=
  let s := [1, 2, 3, 4].foldl (fun s n => odSet s (odKey 0x9000 n) (keySlotState s n)) s
  odSet s (odKey 0xA000 3) (fusedSvn s)

/-- A write of 1 to OD 0xA000.04 (R533); the outcome is 1 DONE, 2 NOT_READY or 3 RECOVERY. -/
def commitSecurity (s : State) : State :=
  let outcome (s : State) (v : Nat) : State := odSet s (odKey 0xA000 5) v
  if slotBooted s = 2 then outcome s 3
  else if devState s ≠ 1 ∧ devState s ≠ 2 then outcome s 2
  else
    let named := [1, 2, 3, 4].filter (fun n => s.fw.revoke.testBit (n - 1) && decide (n ≠ s.fw.keySlot))
    let revoked := named.foldl addOnce s.fw.revoked
    let svn := max (fusedSvn s) s.fw.bundleSvn
    outcome (showFuses { s with fw.svn := some svn, fw.revoked := revoked }) 1

/-- COMMIT_SECURITY_STATE (R533). -/
def execCommitSecurityState (s : State) : Host.Outcome State Fault Refusal := effectOn s (if dictUp s then commitSecurity s else s)

/-- Firmware writes PREF into both copies of the directory, one after the other (R523, R524). -/
def writePref (s : State) (pref : Nat) : State :=
  let seq := max s.fw.dir0.seq s.fw.dir1.seq + 1
  { s with fw.dir0 := ⟨seq, pref, true⟩, fw.dir1 := ⟨seq, pref, true⟩ }

/-! ## The configuration area (R51, R525) -/

/-- Type code (R51). -/
def tyCode : OdTy → Nat
  | .u8 => 1 | .u16 => 2 | .u32 => 3 | .u64 => 4 | .i32 => 5 | .bool => 6 | .enum => 7 | .str => 8 | .blob => 9

/-- Size of a number type in bytes, 0 for STR and BLOB (R51). -/
def tySize : OdTy → Nat
  | .u8 => 1 | .u16 => 2 | .u32 => 4 | .u64 => 8 | .i32 => 4 | .bool => 1 | .enum => 2 | .str => 0 | .blob => 0

/-- The bytes of an entry's value as it now stands. -/
def entryBytes (s : State) (key : Nat) : Bytes :=
  match odRow key with
  | some r => if tySize r.ty = 0 then blobGet s key else natLe (tySize r.ty) (odGet s key)
  | none => []

/-- The bytes of an entry's default. -/
def defaultBytes (key : Nat) : Bytes :=
  match odRow key with
  | some r => if tySize r.ty = 0 then r.dbytes else natLe (tySize r.ty) r.dflt
  | none => []

/-- A record of an entry: index, subindex, type code, length and the low half of the CRC of its value (R525). -/
def configRec (key : Nat) (v : Bytes) : Nat × Bytes :=
  (key / 256 + key % 256 * 2 ^ 16 + (match odRow key with | some r => tyCode r.ty | none => 0) * 2 ^ 24 + v.length % 2 ^ 16 * 2 ^ 32 +
    crc32c v % 2 ^ 16 * 2 ^ 48, v)

/-- The entry of a record. -/
def recEntry (r : Nat × Bytes) : Nat := field r.1 0 16 * 256 + field r.1 16 8

/-- The length and the CRC of a record are right. -/
def recGood (r : Nat × Bytes) : Bool := decide (field r.1 32 16 = r.2.length) && decide (field r.1 48 16 = crc32c r.2 % 2 ^ 16)

/-- Bytes of a half: its 16-byte header, and its records with their values padded to 8 bytes. -/
def halfBytes (h : ConfigHalf) : Nat := 16 + (h.recs.map (fun r => 8 + (r.2.length + 7) / 8 * 8)).sum

/-- The half that is used: the newer one whose header is valid. -/
def newerConfig (a : ConfigArea) : Nat := if a.half1.valid && (!a.half0.valid || decide (a.half0.gen < a.half1.gen)) then 1 else 0

/-- That half. -/
def configHalf (a : ConfigArea) : ConfigHalf := if newerConfig a = 1 then a.half1 else a.half0

/-- The values that a half holds: of each entry the last good record's. -/
def configValues (h : ConfigHalf) : Tbl Bytes := h.recs.foldl (fun t r => if recGood r then tblSet t (recEntry r) r.2 else t) []

/-- A record is appended to the half in use; where it does not fit, every current record goes into the other half under the next
generation, and the older half is erased (R525). -/
def configAppend (a : ConfigArea) (key : Nat) (v : Bytes) : ConfigArea :=
  let h := configHalf a
  let grown : ConfigHalf := { h with recs := h.recs ++ [configRec key v] }
  if halfBytes grown ≤ 2 ^ 20 then (if newerConfig a = 1 then { a with half1 := grown } else { a with half0 := grown })
  else
    let cur := (tblSet (configValues h) key v).filter (fun e => decide (e.2 ≠ defaultBytes e.1))
    let next : ConfigHalf := ⟨true, (h.gen + 1) % 2 ^ 32, cur.map (fun e => configRec e.1 e.2)⟩
    if newerConfig a = 1 then ⟨next, ⟨false, 0, []⟩⟩ else ⟨⟨false, 0, []⟩, next⟩

/-- The value of a persistent entry is saved: the area holds a record where it differs from its default, or from what was saved before. -/
def configSaved (s : State) (key : Nat) : State :=
  let v := entryBytes s key
  let saved := (tblFind (configValues (configHalf s.fw.config)) key).getD (defaultBytes key)
  if v = saved then s else { s with fw.config := configAppend s.fw.config key v }

/-- The area without records (R55). -/
def configCleared (a : ConfigArea) : ConfigArea := ⟨⟨true, ((configHalf a).gen + 1) % 2 ^ 32, []⟩, ⟨false, 0, []⟩⟩

/-! ## Queues and scribe cores (R536, R547) -/

/-- Queues that a scribe core serves. -/
def coreLoad (s : State) (p : Nat) : Nat := (s.q.queues.filter (fun e => e.2.enabled && decide (e.2.scribe = p))).length

/-- A scribe core may take one more queue. -/
def coreRoom (s : State) (p : Nat) : Bool := decide (coreLoad s p < 4096)

/-- Of some cores the one with the fewest queues, the lower number on a tie. -/
def leastLoaded (s : State) (l : List Nat) : Option Nat :=
  l.foldl (fun b p => match b with
    | none => some p
    | some q => if coreLoad s p < coreLoad s q then some p else some q) none

/-- Running scribe cores of engine dies with room. -/
def coresWithRoom (s : State) : List Nat := (List.range 48).filter (fun p => procRunning s p && coreRoom s p)

/-- The scribe core to which a queue is assigned when it is enabled (R536). -/
def assignScribe (s : State) (c q : Nat) : Option Nat :=
  match queueOf s c (if q % 2 = 0 then q + 1 else q - 1) with
  | some y => if coreRoom s y.scribe then some y.scribe else leastLoaded s (coresWithRoom s)
  | none => leastLoaded s (coresWithRoom s)

/-- The running scribe core that takes a queue over from one that is retired: of the die's other core, else of the nearest die with
room, the lower die number on a tie (R547). -/
def heirOf (s : State) (p : Nat) : Option Nat :=
  let sib := if p % 2 = 0 then p + 1 else p - 1
  if odGet s (odKey 0xA101 sib) ≠ 2 ∧ coreRoom s sib = true then some sib
  else
    let l := (coresWithRoom s).filter (fun x => decide (x / 2 ≠ p / 2))
    let best := l.foldl (fun b x => min b (meshDistance (p / 2) (x / 2) * 32 + x / 2)) 100000
    leastLoaded s (l.filter (fun x => decide (meshDistance (p / 2) (x / 2) * 32 + x / 2 = best)))

/-- A queue passes on from a retired scribe core, or is disabled (R547). -/
def passQueue (s : State) (p key : Nat) : State :=
  match tblFind s.q.queues key with
  | none => s
  | some x =>
    match heirOf s p with
    | some h => queuePoll { s with q.queues := tblSet s.q.queues key { x with scribe := h, wait := .unasked } } (key / 16) (key % 16)
    | none =>
      logEv { s with q.queues := tblSet s.q.queues key { x with enabled := false, wait := .unasked } } "QUEUE_BAD" [key / 16, key % 16]

/-- The queues of a retired scribe core pass on, in the order of their records. -/
def passQueues (s : State) (p : Nat) : State :=
  ((s.q.queues.filter (fun e => e.2.enabled && decide (e.2.scribe = p))).map (·.1)).foldl (fun s k => passQueue s p k) s

/-- SLICE_END (R538): the scribe core goes on to the next of its queues, round robin, that has work to dispatch. -/
def execSliceEnd (p : Fin 48) (s : State) : Host.Outcome State Fault Refusal :=
  effectOn s (
    if !procRunning s p.val then s
    else
      let keys := (s.q.queues.filter (fun e => e.2.enabled && decide (e.2.scribe = p.val) && decide (e.2.disp ≠ e.2.tail) &&
        ctxActive s (e.1 / 16))).map (·.1)
      let last := tblGet 0 s.fw.serving p.val
      match (keys.filter (fun k => decide (last < k)) ++ keys).head? with
      | some k => queuePoll { s with fw.serving := tblSet s.fw.serving p.val k } (k / 16) (k % 16)
      | none => s)

/-! ## Restart and retirement (R543-R549) -/

/-- State of a processor (OD 0xA101): 0 RUNNING, 1 RESTARTING, 2 RETIRED, 3 STANDBY. -/
def procState (s : State) (p : Nat) : Nat := odGet s (odKey 0xA101 p)

/-- Set the state of a processor. -/
def setProc (s : State) (p v : Nat) : State := odSet s (odKey 0xA101 p) v

/-- The cause PROCESSOR of R568. -/
def procCause (s : State) : State := setCause s 2 ((List.range 64).any (fun p => decide (procState s p = 2)))

/-- A standby enters service, empty of keys: the mirror is PENDING until it has them all (R508). -/
def standbyEnters (s : State) : State :=
  let s := setCause (odSet s (odKey 0x9003 1) 1) 3 false
  { s with boot.standby := true, iso.standby := [], iso.backlog := s.iso.active.map (·.1) }

/-- The standby is gone (R508, R568). -/
def standbyGone (s : State) : State :=
  let s := setCause (odSet s (odKey 0x9003 1) 2) 3 true
  { s with boot.standby := false, iso.standby := [], iso.backlog := [] }

/-- A media scribe core that runs again resumes the rebuilds, evacuations and re-silvers of its slots at the row in OD 0x8103 (R544). -/
def resumeRebuilds (s : State) (p : Nat) : State :=
  ((List.range 4).map (· + 4 * (p - 48))).foldl (fun s n =>
    match (cartSlot s n).pos with
    | some (g, i) =>
      if slotState s n = 7 ∨ slotState s n = 8 then sendUnit s n (rowsDone s n) i (unitAt s g (rowsDone s n) i) else s
    | none => s) s

/-- Step 6 of R544: the processor runs, and every queue of its own is re-checked. -/
def reachStep6 (s : State) (p : Nat) : State :=
  let s := { s with fw.ranSince := tblSet s.fw.ranSince p s.now }
  if 62 ≤ p ∧ p ≠ activeCore s then standbyEnters (setProc s p 3)
  else
    let s := setProc s p 0
    let asks (x : Queue) : Queue := if x.scribe = p then { x with wait := if x.wait = .satisfied then .satisfied else .unasked } else x
    let again := s.q.queues.map (fun (e : Nat × Queue) => (e.1, asks e.2))
    let s := { s with q.queues := again }
    let s := (s.q.queues.filter (fun e => decide (e.2.scribe = p))).foldl (fun s e => queuePoll s (e.1 / 16) (e.1 % 16)) s
    if p = activeCore s then nextCommand s else if 48 ≤ p ∧ p < 56 then resumeRebuilds s p else s

/-- A processor is RETIRED (R546, R547, R548). -/
def retireProc (s : State) (p : Nat) : State :=
  let s := procCause (logEv (setProc s p 2) "FW_RETIRED" [p])
  if p < 48 then passQueues s p else if 62 ≤ p ∧ p ≠ activeCore s then standbyGone s else s

/-- A restart begins (R543, R544): it reaches its step 6, or the bound of R546 will find it. -/
def beginRestart (s : State) (p : Nat) (reaches : Bool) : State :=
  let s := setProc (odSet (logEv s "FW_RESTART" [p]) (odKey 0xA102 p) ((odGet s (odKey 0xA102 p) + 1) % 2 ^ 32)) p 1
  let s := if 62 ≤ p ∧ p ≠ activeCore s ∧ s.boot.standby = true then standbyGone s else s
  if reaches then procCause (reachStep6 s p) else procCause s

/-- One more failure in a row (R546): the third retires the processor, which is otherwise restarted again. -/
def restartFailed (s : State) (p : Nat) (reaches : Bool) : State :=
  let n := odGet s (odKey 0xA103 p) + 1
  let s := odSet s (odKey 0xA103 p) (min n 3)
  if 3 ≤ n then retireProc s p else beginRestart s p reaches

/-- The key store of the die that takes over (R507, R508): the keys that it lacks are unwrapped from the key table. -/
def takenKeys (s : State) : Tbl Bytes :=
  (keyedCtxs s).filterMap (fun c =>
    match tblFind s.iso.standby c with
    | some k => some (c, k)
    | none => (flashKey s c).map (fun k => (c, k)))

/-- The other management die takes over (R34, R83, R508, R581): drafts and operations in flight are lost, the keys that it lacks come
from the key table, and measurement 7 is extended. -/
def takeover (s : State) : State :=
  let d := 1 - s.boot.activeDie.getD 0
  let s := { s with boot.activeDie := some d, boot.candidate := false, dict.drafts := [], dict.ink := none, dict.inkDone := false, dict.waiting := [],
                    dict.kept := [], dict.accepted := [],
                    dict.windows := s.dict.windows.map (fun w => (w.1, { w.2 with busy := false })),
                    iso.active := takenKeys s }
  let s := standbyGone (setProc s (62 + d) 0)
  nextCommand (extendMeas s 7 6 (62 + d) 0 (securityDigest s (slotBooted s)))

/-- The active management die fails (R34, R47, R581). -/
def mgmtFails (s : State) : State :=
  match s.boot.activeDie with
  | none => s
  | some d =>
    let s := { s with boot.dead := addOnce s.boot.dead d }
    if s.boot.next = some 7 then
      if s.boot.standby then takeover s else { setCause s 3 true with boot.activeDie := none }
    else if s.boot.standby || s.boot.candidate then
      { takeover s with boot.next := some 0, boot.activeDie := none }
    else assertFault { s with boot.next := none, boot.activeDie := none, boot.halted := true } 4

/-- MANAGEMENT_TAKEOVER (R34). -/
def execManagementTakeover (s : State) : Host.Outcome State Fault Refusal := effectOn s (if s.power.on then mgmtFails s else s)

/-- Bring-up has reached the firmware of a processor. -/
def procUp (s : State) (p : Nat) : Bool := dictUp s && (decide (62 ≤ p) || decide (s.boot.next = some 6) || decide (s.boot.next = some 7))

/-- A processor faults (R543, R546, R548): within ten seconds of its last step 6 this is a failed restart; after more the count of failures
is clear. -/
def procFaults (s : State) (p : Nat) (reaches : Bool) : State :=
  if !procUp s p || decide (procState s p = 2) then s
  else
    let soon := match tblFind s.fw.ranSince p with
      | some t => decide (s.now < t + 10000000000)
      | none => false
    if p = activeCore s ∧ s.boot.standby = true then
      let s := takeover s
      if soon then restartFailed s p reaches else beginRestart s p reaches
    else if soon || decide (procState s p = 1) then restartFailed s p reaches
    else beginRestart (odSet s (odKey 0xA103 p) 0) p reaches

/-- An operator's RESTART (R543, R546): of a RETIRED processor it is tried once. -/
def operatorRestart (s : State) (p : Nat) (reaches : Bool) : State :=
  if !procUp s p || decide (procState s p = 1) then s
  else if p = activeCore s ∧ s.boot.standby = true then beginRestart (takeover s) p reaches
  else beginRestart s p reaches

/-- RESTART (R543). -/
def execRestart (p : Fin 64) (reaches : Bool) (s : State) : Host.Outcome State Fault Refusal := effectOn s (operatorRestart s p.val reaches)

/-- WATCHDOG (R543). -/
def execWatchdog (p : Fin 64) (reaches : Bool) (s : State) : Host.Outcome State Fault Refusal := effectOn s (procFaults s p.val reaches)

/-- PROCESSOR_FAULT (R543). -/
def execProcessorFault (p : Fin 64) (reaches : Bool) (s : State) : Host.Outcome State Fault Refusal := effectOn s (procFaults s p.val reaches)

/-- RESTART_STABLE (R546): ten seconds of running. -/
def execRestartStable (p : Fin 64) (s : State) : Host.Outcome State Fault Refusal :=
  effectOn s (
    if procState s p.val = 0 ∨ procState s p.val = 3 then
      odSet { s with fw.ranSince := tblErase s.fw.ranSince p.val } (odKey 0xA103 p.val) 0
    else s)

/-! ## Live update (R550-R553) -/

/-- Outcome of a live update (R554): 1 IN_PROGRESS, 2 DONE, 3 FAILED, 4 NOT_VERIFIED, 5 INTERFACE, 6 ENGINE_IMAGES, 7 BUSY. -/
def updateOutcome (s : State) (v : Nat) : State := odSet s (odKey 0xA210 2) v

/-- The digests of the engine images of a slot. -/
def engineDigests (s : State) (k : Nat) : List (Nat × Bytes) :=
  ((manifestOf s k).comps.filter (fun c => decide (5 ≤ c.kind) && decide (c.kind ≤ 7))).map (fun c => (c.kind, c.digest))

/-- The running processors in the order of an update of all (R551); 64 stands for the takeover. Without a standby the management
cores are left out. -/
def updateOrder (s : State) : List Nat :=
  let run (l : List Nat) : List Nat := l.filter (fun p => decide (procState s p ≠ 2))
  run ((List.range 6).map (· + 56)) ++ run ((List.range 8).map (· + 48)) ++ run (List.range 48) ++
    (if s.boot.standby then [125 - activeCore s, 64, activeCore s] else [])

/-- A write of OD 0xA210.01 (R550). -/
def liveUpdate (s : State) (what : Nat) : State :=
  let k := if slotBooted s = 0 then 1 else 0
  if 64 ≤ what ∧ what ≠ 255 then s
  else if odGet s (odKey 0xA201 (k + 1)) = 0 then updateOutcome s 4
  else if (manifestOf s k).interface ≠ s.fw.interface then updateOutcome s 5
  else if engineDigests s k ≠ engineDigests s (slotBooted s) then updateOutcome s 6
  else if s.fw.update.isSome then updateOutcome s 7
  else
    let todo := if what = 255 then updateOrder s else [what]
    updateOutcome { s with fw.update := some ⟨todo, decide (what = 255), k⟩ } 1

/-- LIVE_UPDATE (R550). -/
def execLiveUpdate (what : BitVec 8) (s : State) : Host.Outcome State Fault Refusal :=
  effectOn s (if dictUp s then liveUpdate s what.toNat else s)

/-- The measurement and the component kind of a processor (R512, R527). -/
def procKind (p : Nat) : Nat × Nat := if p < 48 then (3, 2) else if p < 56 then (4, 3) else if p < 62 then (5, 4) else (2, 1)

/-- The digest of the component of a kind in a slot. -/
def kindDigest (s : State) (k kind : Nat) : Bytes :=
  match (manifestOf s k).comps.find? (fun c => decide (c.kind = kind)) with
  | some c => c.digest
  | none => []

/-- A processor runs the image of a slot: its version, its measurement entry (R513) and, for an update, its event. -/
def procLoaded (s : State) (p k event : Nat) : State :=
  let v := (manifestOf s k).version
  extendMeas (odSet s (odKey 0xA100 p) v) (procKind p).1 event p v (kindDigest s k (procKind p).2)

/-- The processors of an update that are left; with none left it is DONE, and of all of them the preference follows (R553). -/
def updateRest (s : State) (u : LiveUpd) (rest : List Nat) : State :=
  if rest = [] then
    let s := updateOutcome { s with fw.update := none } 2
    if u.all then
      let s := odSet s (odKey 0xA000 1) u.slot
      writePref { s with dict.unsaved := addOnce s.dict.unsaved (odKey 0xA000 1) } u.slot
    else s
  else { s with fw.update := some { u with todo := rest } }

/-- The next processor of an update, or its takeover (R551). -/
def updateNext (s : State) (reaches : Bool) : State :=
  match s.fw.update with
  | none => s
  | some u =>
    match u.todo with
    | [] => updateRest s u []
    | p :: rest =>
      if p = 64 then updateRest (if s.boot.standby then takeover s else s) u rest
      else if procState s p = 2 then updateRest s u rest
      else if procState s p = 1 then s
      else
        let s := logEv s "FW_UPDATE" [p, (manifestOf s u.slot).version]
        let s := if p = activeCore s ∧ s.boot.standby = true then takeover s else s
        if reaches then updateRest (procLoaded (beginRestart s p true) p u.slot 3) u rest
        else beginRestart s p false

/-- FW_UPDATE (R551). -/
def execFwUpdate (reaches : Bool) (s : State) : Host.Outcome State Fault Refusal := effectOn s (if dictUp s then updateNext s reaches else s)

/-- RESTART_TIMEOUT (R546, R552): the restart has failed; the update that asked for it stops, and the processor takes the old image.
Whether the next restart reaches its step 6 is a free value. -/
def execRestartTimeout (p : Fin 64) (s : State) : Host.Outcome State Fault Refusal :=
  effectOn s (
    if procState s p.val ≠ 1 then s
    else
      let stopped := match s.fw.update with | some u => u.todo.head? == some p.val | none => false
      let s := if stopped then odSet (updateOutcome { s with fw.update := none } 3) (odKey 0xA210 3) p.val else s
      let (d, s) := draw s
      restartFailed s p.val (decide (d % 2 = 1)))

end Sys2Proof.Machine
end

