-- ==== Sys2Proof/Machine/Power.lean ====
section
/-! DEFINITION. Input power and the ceiling (R620-R627), heat (R628-R631, R641), the governors and their fall-back loops (R540-R542),
PFAIL without its pin (R634), reset and the pins (R632-R637), and the failure of a die (R47). -/

namespace Sys2Proof.Machine

/-! ## Voltage and pace (R623-R625) -/

/-- A governor's own request in mV; every die is held at 720 mV until stage 6 (R558). -/
def requestOf (s : State) (die : Nat) : Nat := tblGet 720 s.power.request die

/-- The core voltage of a die: forced to 600 mV by a trip, a fast clamp or a lost loop; else the request, under the ceiling on an
engine die (R625, R626, R629, R542). -/
def coreVolt (s : State) (die : Nat) : Nat :=
  if (tblFind s.power.tripped die).isSome ∨ s.fw.loopLost.contains die = true then 600
  else if 24 ≤ die then requestOf s die
  else if s.power.clamped then 600
  else min (requestOf s die) (s.power.ceiling / 2)

/-- Pace in Mbeat/s at 65 °C, through the three calibration points (R623). -/
def paceAt65 (mv : Nat) : Nat := if mv ≤ 720 then 500 + (mv - 600) * 300 / 120 else 800 + (mv - 720) * 200 / 130

/-- Pace at a junction temperature in 0.01 °C: 0.15 % less for each degree above 65 °C (R623). -/
def paceAt (mv : Nat) (temp : Int) : Int := (paceAt65 mv : Int) * (1000000 - 15 * (temp - 6500)) / 1000000

/-- The highest voltage up to `mv` at which the pace stays within 1.00 Gbeat/s (R623), 600 mV at least. -/
def capPace (mv : Nat) (temp : Int) : Nat :=
  (((List.range 251).map (fun i => 850 - i)).find? (fun v => decide (v ≤ mv) && decide (paceAt v temp ≤ 1000))).getD 600

/-- A choice of a governor or a loop within the limits (R624): a free value. -/
def chooseVolt (s : State) (die : Nat) : Nat × State :=
  let (d, s) := draw s
  (min 850 (max 600 (Config.governorChoice die d)), s)

/-- Show a die's core voltage and its pace, which meets the model within 3 % (R623). -/
def showVolt (s : State) (die : Nat) : State :=
  let v := coreVolt s die
  let (d, s) := draw s
  let p := (paceAt v (toSigned 32 (odGet s (odKey 0xD003 die)))).toNat
  odSet (odSet s (odKey 0xD005 die) v) (odKey 0xD004 die) (p * (970 + d % 61) / 1000)

/-- A die's request changes. -/
def setRequest (s : State) (die mv : Nat) : State := showVolt { s with power.request := tblSet s.power.request die mv } die

/-- Every engine die is shown again. -/
def showEngines (s : State) : State := (List.range 24).foldl showVolt s

/-! ## The module limit (R625-R627) -/

/-- One step of the ceiling: down over the limit, up where the average lies more than 2 % below it (R625). -/
def stepCeiling (c average limit : Nat) : Nat :=
  if limit < average then max 1200 (c - 25) else if average * 100 < limit * 98 then min 1700 (c + 25) else c

/-- CEILING_STEP (R625, R626): the 1 ms average of the input power, in W. A fast clamp releases when it lies below the limit. -/
def execCeilingStep (average : Nat) (s : State) : Host.Outcome State Fault Refusal :=
  effectOn s (
    if !s.power.on || s.boot.activeDie.isNone then s
    else
      let limit := odGet s (odKey 0xD000 1)
      let c := stepCeiling s.power.ceiling average limit
      let s := odSet (odSet s (odKey 0xD000 2) (min average 65535)) (odKey 0xD000 4) (c / 2)
      showEngines { s with power.ceiling := c, power.clamped := s.power.clamped && decide (limit ≤ average) })

/-- FAST_CLAMP (R626). -/
def execFastClamp (s : State) : Host.Outcome State Fault Refusal :=
  effectOn s (
    if !s.power.on || s.power.clamped then s
    else showEngines { logEv (odBump s (odKey 0xD007 2) 1) "POWER_CLAMP" [] with power.clamped := true })

/-! ## The governors and their loops (R540-R542, R628) -/

/-- State of a die's fall-back loop (OD 0xA301): 0 NONE, 1 SENSOR_FAULT, 2 MANUAL. -/
def loopState (s : State) (die : Nat) : Nat := odGet s (odKey 0xA301 die)

/-- A governor or a loop lowers a die's request (R628). -/
def lowerRequest (s : State) (die : Nat) : State :=
  if requestOf s die ≤ 600 then s
  else
    let (v, s) := chooseVolt s die
    setRequest (odBump s (odKey 0xD007 1) 1) die (min v (requestOf s die - 1))

/-- THERMAL_VOLTAGE_REDUCTION (R628): by the hardware governor, where it has control and is no longer held at 0.72 V. -/
def execThermalVoltageReduction (die : Fin 40) (s : State) : Host.Outcome State Fault Refusal :=
  effectOn s (if s.power.on && decide (s.boot.next = some 7) && decide (loopState s die.val = 0) then lowerRequest s die.val else s)

/-- GOVERNOR_FALLBACK (R541): on a flag, or in MANUAL, the governor holds its request and hands control over. -/
def execGovernorFallback (die : Fin 40) (cause : GovCause) (flagged : List (Fin 8)) (s : State) : Host.Outcome State Fault Refusal :=
  effectOn s (
    let d := die.val
    if !s.power.on then s
    else
      match cause with
      | .sensorFault =>
        let l := flagged.map (·.val)
        logEv (odSet { s with fw.flagged := tblSet s.fw.flagged d l } (odKey 0xA301 d) 1) "GOVERNOR_FALLBACK" ([locDie s d, 1] ++ l)
      | .manual =>
        if odGet s (odKey 0xD001 1) = 1 then logEv (odSet s (odKey 0xA301 d) 2) "GOVERNOR_FALLBACK" [locDie s d, 2] else s)

/-- A processor runs a die's loop: one of the die's own, or the active management core (R542). -/
def loopHost (s : State) (die : Nat) : Option Nat :=
  match (List.range 64).find? (fun p => decide (procDie p = die) && procRunning s p) with
  | some p => some p
  | none => if coreUp s then some (activeCore s) else none

/-- The highest of some readings. -/
def hottest : List Int → Int
  | [] => -27315
  | x :: t => max x (hottest t)

/-- One turn of a die's loop over its eight readings in 0.01 °C (R542): 10 °C are added to the hottest healthy one. -/
def loopTurn (s : State) (die : Nat) (sensors : List Int) : State :=
  let bad := tblGet [] s.fw.flagged die
  let healthy := (sensors.zipIdx.filter (fun p => !bad.contains p.2)).map (·.1)
  let s := { s with fw.loopLost := s.fw.loopLost.filter (· != die) }
  if healthy.length < 4 then setRequest s die 600
  else
    let hot := hottest healthy
    let s := odSet s (odKey 0xD003 die) (ofSigned 32 hot)
    if (odGet s (odKey 0xD002 1) : Int) * 100 < hot + 1000 then lowerRequest s die
    else
      let (v, s) := if odGet s (odKey 0xD001 1) = 1 then (odGet s (odKey 0xD001 2), s) else chooseVolt s die
      setRequest s die (capPace v hot)

/-- FALLBACK_LOOP (R542). -/
def execFallbackLoop (die : Fin 40) (sensors : List Int) (s : State) : Host.Outcome State Fault Refusal :=
  effectOn s (
    if s.power.on && decide (loopState s die.val ≠ 0) && (loopHost s die.val).isSome then loopTurn s die.val sensors else s)

/-- LOOP_LOST (R542): the governor sets 0.60 V by itself until the loop returns. -/
def execLoopLost (die : Fin 40) (s : State) : Host.Outcome State Fault Refusal :=
  effectOn s (
    if s.power.on && decide (loopState s die.val ≠ 0) then
      setRequest { s with fw.loopLost := addOnce s.fw.loopLost die.val } die.val 600
    else s)

/-! ## Trips and shutdown (R629-R631, R641) -/

/-- THERMAL_TRIP (R629): `sensor` is the die's second-highest one. -/
def execThermalTrip (die : Fin 40) (sensor : Fin 8) (s : State) : Host.Outcome State Fault Refusal :=
  effectOn s (
    if !s.power.on || (tblFind s.power.tripped die.val).isSome then s
    else
      let s := logEv (odBump s (odKey 0xD007 3) 1) "THERMAL_TRIP" [locDie s die.val, sensor.val]
      showVolt { s with power.tripped := tblSet s.power.tripped die.val sensor.val } die.val)

/-- THERMAL_RELEASE (R629): the same sensor has fallen below 95 °C. -/
def execThermalRelease (die : Fin 40) (s : State) : Host.Outcome State Fault Refusal :=
  effectOn s (
    if (tblFind s.power.tripped die.val).isSome then
      showVolt { s with power.tripped := tblErase s.power.tripped die.val } die.val
    else s)

/-- A flush that a shutdown or a reset asks for: it begins, where bring-up has ended and none is under way or done; what follows it
follows at once where there is none (R630, R631, R635). -/
def flushThen (s : State) (after : Nat) : State :=
  let s := { s with power.after := if s.power.after = 1 then 1 else after }
  match s.tier.pfail with
  | .journal _ => s
  | .seal _ => s
  | .persisted => afterFlush s
  | .releasing => afterFlush s
  | _ => if s.boot.next = some 7 then startFlush s s.now else afterFlush s

/-- THERMAL_SHUTDOWN (R630): 2 THERMAL or 3 LEAK in OD 0xD008.01; a trip of one second needs the trip. -/
def execThermalShutdown (cause : ShutCause) (s : State) : Host.Outcome State Fault Refusal :=
  effectOn s (
    let go (code : Nat) : State := flushThen (odSet (odBump s (odKey 0xD007 4) 1) (odKey 0xD008 1) code) 1
    if !s.power.on then s
    else
      match cause with
      | .tripOneSecond d => if (tblFind s.power.tripped d.val).isSome then go 2 else s
      | .hot _ => go 2
      | .leak => go 3)

/-- COOLANT_WARM (R641): the readings of the two sensors, in 0.01 °C; the event where the outlet exceeds 55 °C. -/
def execCoolantWarm (inlet outlet : Int) (s : State) : Host.Outcome State Fault Refusal :=
  effectOn s (
    if !s.power.on then s
    else
      let s := odSet (odSet s (odKey 0xD006 1) (ofSigned 32 inlet)) (odKey 0xD006 2) (ofSigned 32 outlet)
      if 5500 < outlet then logEv s "COOLANT_WARM" [ofSigned 32 outlet] else s)

/-! ## Input, reset and the pins -/

/-- UNDERVOLTAGE (R620): the power stages stop; the input has gone, which is the power cycle that a locked module waits for. -/
def execUndervoltage (s : State) : Host.Outcome State Fault Refusal := effect s { powerDown s with power.locked := false }

/-- OVERVOLTAGE (R620): the input is disconnected, and restart needs a power cycle. -/
def execOvervoltage (s : State) : Host.Outcome State Fault Refusal := effect s { powerDown s with power.locked := true }

/-- PFAIL_UNSIGNALLED (R634): acted on as PFAIL. -/
def execPfailUnsignalled (s : State) : Host.Outcome State Fault Refusal :=
  effectOn s (
    if !s.power.on || s.power.pfailLow then s
    else
      let s := logEv (odBump s (odKey 0xD007 5) 1) "PFAIL_UNSIGNALLED" []
      match s.tier.pfail with
      | .idle => if s.boot.next = some 7 then startFlush s s.now else stopBringUp s
      | _ => s)

/-- RESET (R635): RESET_L has been low for 10 ms; the flush first, where admission is open or a flush is under way. -/
def execReset (s : State) : Host.Outcome State Fault Refusal :=
  effect s (
    let s := { s with power.resetLow := true }
    if !s.power.on then s
    else
      match s.tier.pfail with
      | .journal _ => flushThen s 2
      | .seal _ => flushThen s 2
      | _ => if s.tier.admitting then flushThen s 2 else resetModule s)

/-- FSPI_ENABLE (R637): honoured only while RESET_L is asserted. -/
def execFspiEnable (s : State) : Host.Outcome State Fault Refusal :=
  effect s (if s.power.resetLow then { s with power.fspiLow := true } else s)

/-- Bring-up may begin: stage 0 is next (R555). -/
def beginBringUp (s : State) : State := { s with boot.next := some 0, boot.goodAt := s.now, boot.dead := [] }

/-- RESET_RELEASE (R635, R637): the module leaves reset, and a module with power is brought up. -/
def execResetRelease (s : State) : Host.Outcome State Fault Refusal :=
  effect s (
    if !s.power.resetLow then s
    else
      let s := { s with power.resetLow := false, power.fspiLow := false }
      if s.power.on && decide (s.boot.next = none) && !s.boot.halted && decide (s.tier.pfail = .idle) then beginBringUp s else s)

/-- POWER_GOOD (R620): every rail is in regulation, and bring-up begins; a module that waits for a power cycle stays off, and one in
reset waits for its release. -/
def execPowerGood (s : State) : Host.Outcome State Fault Refusal :=
  effect s (
    if s.power.on || s.power.locked then s
    else
      let s := { s with power.on := true }
      if s.power.resetLow then s else beginBringUp s)

/-! ## Failure of a die (R47) -/

/-- DIE_FAILURE (R47): an engine die or a media die fails the device; an optical die takes its ports down; a management die is taken
over from, or leaves the device without a standby. -/
def execDieFailure (die : Fin 40) (s : State) : Host.Outcome State Fault Refusal :=
  effectOn s (
    let d := die.val
    if !s.power.on then s
    else if d < 32 then deviceFailed s
    else if d < 38 then ((List.range 24).filter (fun l => decide (linkDie l = d))).foldl portDown s
    else if s.boot.activeDie = some (d - 38) then mgmtFails s
    else
      let s := { s with boot.dead := addOnce s.boot.dead (d - 38), boot.candidate := false }
      if s.boot.standby then standbyGone (setProc s (24 + d) 2) else s)

end Sys2Proof.Machine
end

