-- ==== Sys2Proof/Machine/BringUp.lean ====
section
/-! DEFINITION. Bring-up stage by stage (R555-R567), the replay of the journal (R234, R235), the saved training settings (R571-R574),
the repair map and the spares (R575-R580). -/

namespace Sys2Proof.Machine

/-! ## The repair map (R575) -/

/-- Location code of a physical engine (R25): PHYS is 1. Clusters 0 to 11 are of Nibs, 12 and 13 of Quills, 14 to 17 of Feeds. -/
def locPhys (s : State) (die cl phys : Nat) : Nat :=
  if cl < 12 then locCode s 1 die 0 cl phys 1 else if cl < 14 then locCode s 1 die 1 (cl - 12) phys 1 else locCode s 1 die 2 (cl - 14) phys 1

/-- Location code of a cluster. -/
def locCl (s : State) (die cl : Nat) : Nat :=
  if cl < 12 then locCode s 2 die 0 cl 0 0 else if cl < 14 then locCode s 2 die 1 (cl - 12) 0 0 else locCode s 2 die 2 (cl - 14) 0 0

/-- Put back a record of the map. -/
def setMap (s : State) (die cl r : Nat) : State := odSet s (odKey (0xB100 + die) cl) r

/-- Number of logical engines withdrawn (OD 0xB200.02). -/
def withdrawnCount (s : State) : Nat :=
  ((List.range 24).map (fun d => ((List.range 18).map (fun c =>
    ((List.range 8).filter (fun e => !engineUp s d c e)).length)).sum)).sum

/-- What follows a change of the map: OD 0xB200.02 and the causes ENGINE and CLUSTER (R568). -/
def mapCauses (s : State) : State :=
  let any (f : Nat → Nat → Bool) : Bool := (List.range 24).any (fun d => (List.range 18).any (fun c => f d c))
  let s := odSet s (odKey 0xB200 2) (withdrawnCount s)
  let s := setCause s 0 (any (fun d c => (List.range 8).any (fun e => decide (physOf s d c e = 15))))
  setCause s 1 (any (clusterGone s))

/-- The logical number of a physical engine. -/
def logicalOf (s : State) (die cl phys : Nat) : Option Nat := (List.range 8).find? (fun e => decide (physOf s die cl e = phys))

/-- The spare of a cluster is free: Nib and Quill clusters have one, index 8 (R575). -/
def spareFree (s : State) (die cl : Nat) : Bool :=
  decide (cl < 14) && !bitOf (mapRecord s die cl) 40 && (logicalOf s die cl 8).isNone

/-- Mark a physical engine failed (R564, R575, R578): what became of its logical number, none where it had none, with the physical
engine that now carries it, 15 where it is withdrawn. -/
def markPhys (s : State) (die cl phys : Nat) : Option (Nat × Nat) × State :=
  let r := mapRecord s die cl
  if bitOf r (32 + phys) then (none, s)
  else
    let s := setMap s die cl (r + 2 ^ (32 + phys))
    match logicalOf s die cl phys with
    | none => (none, s)
    | some e =>
      let dest := if phys ≠ 8 ∧ spareFree s die cl = true then 8 else 15
      (some (e, dest), setMap s die cl (mapRecord s die cl - phys * 2 ^ (4 * e) + dest * 2 ^ (4 * e)))

/-- Withdraw a whole cluster (R47, R560). -/
def withdrawMap (s : State) (die cl : Nat) : State :=
  if clusterGone s die cl then s else setMap s die cl (mapRecord s die cl + 2 ^ 41)

/-- Physical engines of a cluster. -/
def physCount (cl : Nat) : Nat := if cl < 14 then 9 else 8

/-! ## Failures at run time (R577-R580) -/

/-- A stream moves to a Feed of its die that has a free stream slot, the lowest one, under its own ID: it goes on from its first chunk
not acknowledged, with its fault where it has one (R578, R579); where no such Feed has room it stays as it is. -/
def moveStream (s : State) (id : Nat) (x : Stream) : State :=
  let next := x.chunks.foldl (fun m k => min m k.offset) x.next
  match ((List.range 32).map (x.feed / 32 * 32 + ·)).find? (hasSlot s) with
  | none => s
  | some f =>
    let y : Stream := { x with chunks := [], next := next, again := x.again.filter (fun o => decide (o < next)), feed := f }
    dropWaiting (setStream (odBump s (odKey 0xB200 5) 1) id y) ((x.chunks.map (·.reqs)).flatten)

/-- The streams of a failed Feed go on elsewhere. -/
def moveStreams (s : State) (feed : Nat) : State :=
  (s.feed.streams.filter (fun e => decide (e.2.feed = feed) && !e.2.done)).foldl (fun s e => moveStream s e.1 e.2) s

/-- The tasks of a cluster are placed again on other clusters (R578). -/
def replaceTasks (s : State) (cluster : Nat) : State :=
  let off (t : Task) : Task := if t.cluster = some cluster then { t with cluster := none } else t
  let ts : Tbl Task := s.q.tasks.map (fun e => (e.1, off e.2))
  { s with q.tasks := ts }

/-- A cluster cache or a row unit fails: the cluster is withdrawn, its cache is failed (R312), its work begins again elsewhere. -/
def failCluster (s : State) (die cl : Nat) : State :=
  if clusterGone s die cl then s
  else
    let s := mapCauses (withdrawMap s die cl)
    if cl < 12 then replaceTasks (failAgent s (die * 14 + cl)) (die * 12 + cl)
    else if cl < 14 then
      (List.range 8).foldl (fun s e => restartQueries s (die * 16 + (cl - 12) * 8 + e)) (failAgent s (die * 14 + cl))
    else s

/-- The work of a logical engine that has been replaced or withdrawn (R578). -/
def redoWork (s : State) (die cl e : Nat) : State :=
  if cl < 12 then (if clusterUp s die cl then s else replaceTasks s (die * 12 + cl))
  else if cl < 14 then restartQueries s (die * 16 + (cl - 12) * 8 + e)
  else moveStreams s (die * 32 + (cl - 14) * 8 + e)

/-- A physical engine fails at run time (R577, R578, R580); 9 is the cluster's cache or row unit. -/
def failEngine (s : State) (die cl phys : Nat) : State :=
  if s.boot.next ≠ some 7 then s
  else if phys = 9 then (if cl < 14 then failCluster s die cl else s)
  else if physCount cl ≤ phys then s
  else
    match markPhys s die cl phys with
    | (none, s) => s
    | (some (e, dest), s) =>
      let s := mapCauses s
      let s := if dest = 15 then s else odBump (logEv s "ENGINE_SPARED" [locPhys s die cl phys, e, dest]) (odKey 0xB200 1) 1
      redoWork s die cl e

/-- ENGINE_FAIL (R578). -/
def execEngineFail (die : Fin 24) (cluster : Fin 18) (phys : Fin 10) (s : State) : Host.Outcome State Fault Refusal :=
  effectOn s (failEngine s die.val cluster.val phys.val)

/-- ENGINE_HANG (R577). -/
def execEngineHang (die : Fin 24) (cluster : Fin 18) (phys : Fin 9) (s : State) : Host.Outcome State Fault Refusal :=
  effectOn s (failEngine s die.val cluster.val phys.val)

/-- A location code names a physical engine (R25, R577): its die, cluster of the map and index. -/
def physNamed (code : Nat) : Option (Nat × Nat × Nat) :=
  let die := field code 8 6
  let kind := field code 16 3
  let cl := field code 19 5
  let e := field code 24 4
  if field code 0 3 ≠ 1 ∨ bitOf code 28 = false ∨ 24 ≤ die then none
  else if kind = 0 ∧ cl < 12 ∧ e < 9 then some (die, cl, e)
  else if kind = 1 ∧ cl < 2 ∧ e < 9 then some (die, 12 + cl, e)
  else if kind = 2 ∧ cl < 4 ∧ e < 8 then some (die, 14 + cl, e)
  else none

/-- A write of OD 0xB001.03 (R577). -/
def failNamed (s : State) (code : Nat) : State :=
  match physNamed code with
  | some (d, c, e) => failEngine s d c e
  | none => s

/-- FAIL_PHYSICAL_ENGINE (R577). -/
def execFailPhysicalEngine (code : BitVec 64) (s : State) : Host.Outcome State Fault Refusal := effectOn s (failNamed s code.toNat)

/-- Physical engines that are not marked failed. -/
def enginesTested (s : State) : Nat :=
  ((List.range 24).map (fun d => ((List.range 18).map (fun c => physCount c - popCount 9 (field (mapRecord s d c) 32 9))).sum)).sum

/-- KAT_INTERVAL (R577): the engines that fail their known-answer run fail. -/
def execKatInterval (failed : List (Fin 24 × Fin 18 × Fin 10)) (s : State) : Host.Outcome State Fault Refusal :=
  effectOn s (
    if s.boot.next ≠ some 7 ∨ odGet s (odKey 0xB001 4) = 0 then s
    else
      let s := odBump (odBump s (odKey 0xB200 3) (enginesTested s)) (odKey 0xB200 4) failed.length
      failed.foldl (fun s f => failEngine s f.1.val f.2.1.val f.2.2.val) s)

/-- CLEAR_REPAIR_MARKS (R576). -/
def execClearRepairMarks (s : State) : Host.Outcome State Fault Refusal :=
  effectOn s (if dictUp s then { s with boot.clearMarks := true } else s)

/-! ## Saved training settings (R571-R574) -/

/-- The newer valid half: 0, 1, or 2 where there is none. -/
def newerHalf (s : State) : Nat :=
  if s.fw.train0.valid && (!s.fw.train1.valid || decide (s.fw.train1.gen ≤ s.fw.train0.gen)) then 0
  else if s.fw.train1.valid then 1 else 2

/-- A half. -/
def trainHalf (s : State) (h : Nat) : Training := if h = 0 then s.fw.train0 else s.fw.train1

/-- The records of the map that stand in the dictionary. -/
def mapEntries (s : State) : Tbl Nat := s.od.filter (fun e => decide (0xB100 * 256 ≤ e.1) && decide (e.1 < 0xB118 * 256))

/-- TRAINING_SAVE (R574): the older half is written, after stage 6 has closed. -/
def execTrainingSave (s : State) : Host.Outcome State Fault Refusal :=
  effectOn s (
    if s.boot.next ≠ some 7 then s
    else
      let h := newerHalf s
      let gen := (if h = 2 then 0 else (trainHalf s h).gen) + 1
      let t : Training := ⟨true, gen, s.fw.interface, { s.fw.learned with spares := s.fab.sparesUsed }, mapEntries s⟩
      let dest := if h = 0 then 1 else 0
      let s := if dest = 0 then { s with fw.train0 := t } else { s with fw.train1 := t }
      odSet (odSet s (odKey 0xB002 1) dest) (odKey 0xB002 2) (gen % 2 ^ 32))

/-- The settings that bring-up starts from (R573, R574, R576): the map, whether units train in full, and, where they do not, what was
learned of them before. -/
def loadTraining (s : State) : State :=
  let h := newerHalf s
  let t := trainHalf s h
  let s := odSet (odSet s (odKey 0xB002 1) h) (odKey 0xB002 2) (if h = 2 then 0 else t.gen % 2 ^ 32)
  let all := decide (h = 2) || decide (odGet s (odKey 0xB001 1) = 1) || s.boot.clearMarks || decide (t.interface ≠ s.fw.interface)
  let s := if h = 2 ∨ s.boot.clearMarks = true then s else t.repair.foldl (fun s e => odSet s e.1 e.2) s
  let s := if all then { s with fw.learned := ⟨[], [], [], []⟩, fab.sparesUsed := [] }
    else { s with fw.learned := t.learned, fab.sparesUsed := t.learned.spares }
  mapCauses { s with boot.clearMarks := false, boot.trainFull := all, boot.trainWarm := !all }

/-- The start kind (R573): 0 WARM, 1 FULL, 2 MIXED. -/
def startKind (s : State) : Nat := if !s.boot.trainFull then 0 else if s.boot.trainWarm then 2 else 1

/-! ## Findings -/

/-- The report item of a finding, and the finding's effect (R560, R562, R564). -/
def applyFinding (s : State) (stage : Nat) (f : Finding) : List Item × State :=
  let failed (i : Item) : List Item × State := ([i], deviceFailed s)
  match f with
  | .t0Repaired d n => ([⟨locDie s d.val, 0x0201, 1, n⟩], { s with fw.learned.t0 := tblSet s.fw.learned.t0 d.val n })
  | .engineBad d c p =>
    if physCount c.val ≤ p.val then ([], s)
    else
      let (kat, s) : List Item × State :=
        if stage = 5 then (let (x, s) := draw s; ([⟨locPhys s d.val c.val p.val, 0x0501, 3, x % 2 ^ 32⟩], s)) else ([], s)
      (match markPhys s d.val c.val p.val with
       | (some (e, dest), s) =>
         let i : Item := if dest = 15 then ⟨locPhys s d.val c.val p.val, 0x0503, 2, e⟩ else ⟨locPhys s d.val c.val p.val, 0x0502, 1, e + dest * 16⟩
         (kat ++ [i], mapCauses s)
       | (none, s) => (kat, mapCauses s))
  | .clusterBad d c => ([⟨locCl s d.val c.val, 0x0503, 2, 0xF⟩], mapCauses (withdrawMap s d.val c.val))
  | .scribeBad p =>
    let s := logEv (setProc (odSet s (odKey 0xA103 p.val) 3) p.val 2) "FW_RETIRED" [p.val]
    ([⟨locProc s p.val, 0x0501, 2, 0⟩], procCause s)
  | .hbmRepaired ch rows =>
    ([⟨locDie s (24 + ch.val / 32), 0x0202, 1, ch.val + rows * 2 ^ 16⟩], { s with fw.learned.hbm := tblSet s.fw.learned.hbm ch.val rows })
  | .hbmBad ch => failed ⟨locDie s (24 + ch.val / 32), 0x0202, 3, ch.val⟩
  | .cartLinkBad n => ([⟨locDie s (24 + n.val / 4), 0x0203, 2, n.val⟩], loseSlot s n.val 10)
  | .cartPresent n =>
    ([], if slotState s n.val = 0 then beginIdentity s n.val else s)
  | .oscOffset ppm =>
    let i : Item := ⟨locDevice s, 0x0101, if ppm.natAbs ≤ 2000 then 0 else 3, ofSigned 32 ppm⟩
    ([i], if ppm.natAbs ≤ 2000 then s else deviceFailed s)
  | .oscBad => failed ⟨locDevice s, 0x0101, 3, 0⟩
  | .netSpared l d ch =>
    ([⟨locDevice s, 0x0102, 1, l.val + ch.val * 2 ^ 8⟩],
      { s with fw.learned.net := tblSet s.fw.learned.net (2 * l.val + (if d then 1 else 0)) ch.val })
  | .netBad l _ => failed ⟨locDevice s, 0x0102, 3, l.val⟩
  | .laneSpared l lane =>
    ([⟨linkPlace s l.val, 0x0301, 1, portCode l.val + lane % 256 * 2 ^ 8⟩],
      { s with fab.sparesUsed := tblUpd 0 s.fab.sparesUsed (linkDie l.val) (· + 1) })
  | .portLanes l good =>
    let w := widthFor l.val good
    (if w < fullWidth l.val then [⟨linkPlace s l.val, 0x0302, 2, portCode l.val + w * 2 ^ 16⟩] else [], s)
  | .imageReload d k => ([⟨locDie s d.val, 0x0401, 1, k⟩], s)
  | .imageBad d k =>
    let cls := if k = 5 then List.range 12 else if k = 6 then [12, 13] else if k = 7 then [14, 15, 16, 17] else []
    let s := cls.foldl (fun s c => (List.range (physCount c)).foldl (fun s p => (markPhys s d.val c p).2) s) s
    ([⟨locDie s d.val, 0x0401, 2, k⟩], mapCauses s)
  | .inkwellBad d => failed ⟨locCode s 1 d.val 3 0 0 0, 0x0501, 3, 0⟩
  | .standbyBad => ([⟨locDie s (38 + (1 - s.boot.activeDie.getD 0)), 0x0501, 2, 0⟩], { s with boot.candidate := false })
  | .fallback i => ([⟨locDevice s, 0x0205, 1, i⟩], { s with boot.trainFull := true })
  | .slotFailed _ _ => ([], s)
  | .journal _ => ([], s)

/-- Every finding of a stage, in order. -/
def applyFindings (s : State) (stage : Nat) (l : List Finding) : List Item × State :=
  l.foldl (fun (p : List Item × State) f => let (i, s) := applyFinding p.2 stage f; (p.1 ++ i, s)) ([], s)

/-- A stage may run: it is the next one of a bring-up that goes on. -/
def stageRuns (s : State) (k : Nat) : Bool :=
  s.power.on && !s.boot.halted && !s.boot.recovery && decide (s.boot.next = some k)

/-- START of the report of a stage from 1 to 3 (R569, R573). -/
def stageStart (s : State) (l : List Finding) : Nat :=
  if !s.boot.trainWarm then 1 else if l.any (fun f => match f with | .fallback _ => true | _ => false) then 2 else 0

/-- A stage closes with its items, and the next may begin (R555). -/
def endStage (s : State) (k start : Nat) (items : List Item) : State :=
  nextStage (closeStage s k (stageOutcome s items) start items) (k + 1)

/-! ## Stage 0 (R556, R528-R530) -/

/-- Persistent entries come into force (R53, R525); the queue records with every ENABLE 0 (R494). -/
def loadConfig (s : State) : State :=
  (configValues (configHalf s.fw.config)).foldl (fun s e =>
    match odRow e.1 with
    | none => s
    | some r =>
      if tySize r.ty ≠ 0 then odSet s e.1 (leNat e.2)
      else blobSet s e.1 (if 0x9200 ≤ e.1 / 256 ∧ e.1 / 256 ≤ 0x920F then disableRecords e.2 else e.2)) s

/-- Context states and key generations from the key table (R494, R506). -/
def loadContexts (s : State) : State :=
  let code (k : KeyRec) : Nat := match k with | .erased => 0 | .active => 1 | .torn => 2 | .releasing => 3
  let s := s.iso.keys0.foldl (fun s e => odSet (odSet s (odCtx 0x9100 e.1) (code e.2.state)) (odCtx 0x9130 e.1) e.2.gen) s
  (keyedCtxs s).foldl (fun s c =>
    match flashKey s c with
    | some k => { s with iso.active := tblSet s.iso.active c k }
    | none => odSet s (odCtx 0x9100 c) 2) s

/-- The media dies' key slots are loaded, under a transport key drawn for this boot (R501, R503): the device key, derived from the sealing
key, and the keys of every context in the key store. A context without its key is TORN, and its T2 frames read POISON (R506). -/
def loadMediaKeys (s : State) : State :=
  let (k, s) := draw s
  let s := loadSlots { s with iso.transport := natLe 32 k } 0 Config.sealingKey
  let s := s.iso.active.foldl (fun s e => loadSlots s e.1 e.2) s
  let lost := s.tier.t2.filter (fun r => (keyedCtxs s).contains r.ctx && (tblFind s.iso.active r.ctx).isNone)
  lost.foldl (fun s r => (List.range (r.count * 32)).foldl (fun s j => poisonLine s (r.start * 32 + j)) s) s

/-- The step at which a slot fails, in the ROM or in the management firmware, which reports step 5 (R528, R529). -/
def slotFails (s : State) (k : Nat) : Option Nat :=
  match verifyStep s k with
  | some n => some n
  | none => if allComponentsOk s k then none else some 5

/-- The preferred slot of the valid directory copy with the higher SEQ (R523). -/
def preferredSlot (s : State) : Nat :=
  let d := if s.fw.dir1.valid && (!s.fw.dir0.valid || decide (s.fw.dir0.seq < s.fw.dir1.seq)) then s.fw.dir1 else s.fw.dir0
  if d.pref = 1 then 1 else 0

/-- Try slots in order (R529): the one that boots, the failures with their steps, and the marks. -/
def trySlots : List Nat → State → Option Nat × List (Nat × Nat) × State
  | [], s => (none, [], s)
  | k :: t, s =>
    if s.fw.failed.contains k then trySlots t s
    else
      match slotFails s k with
      | none => (some k, [], s)
      | some n =>
        let s := logEv { s with fw.failed := s.fw.failed ++ [k] } "BOOT_SLOT_FAILED" [k, n]
        let (r, l, s) := trySlots t s
        (r, (k, n) :: l, s)

/-- The management firmware of a slot runs (R512, R526). -/
def startFirmware (s : State) (k : Nat) : State :=
  let m := manifestOf s k
  let core := activeCore s
  let s := { s with fw.version := m.version, fw.bundleSvn := m.svn, fw.keySlot := m.keySlot, fw.revoke := m.revoke, fw.interface := m.interface }
  let s := loadContexts (loadConfig (showFuses (odSet s (odKey 0xA000 2) k)))
  let s := blobSet s (odKey 0x9001 1) (sha256 Config.deviceCert)
  let s := extendMeas (clearMeas s) 1 1 core 0 (natBe 32 Config.romDigest.toNat)
  let s := extendMeas s 7 4 0xFFFF 0 (securityDigest s k)
  procLoaded (setProc s core 0) core k 2

/-- Stage 0: election, the slots, the management firmware (R556, R528-R530). -/
def runStage0 (s : State) (pass0 pass1 : Bool) : State :=
  let up (d : Nat) (p : Bool) : Bool := p && !s.boot.dead.contains d
  match (if up 0 pass0 then some 0 else if up 1 pass1 then some 1 else none) with
  | none => assertFault { s with boot.next := none, boot.halted := true } 4
  | some d =>
    let other := if d = 0 then up 1 pass1 else false
    let s := { s with boot.activeDie := some d, boot.candidate := other, boot.standby := false }
    let pref := preferredSlot s
    match trySlots [pref, 1 - pref, 2] s with
    | (none, _, s) => assertFault { s with boot.next := none, boot.halted := true, boot.activeDie := none } 1
    | (some k, bad, s) =>
      let s := loadTraining (standbyGone (startFirmware s k))
      let s := if k = 2 then deviceFailed { s with boot.recovery := true } else s
      let items : List Item := bad.map (fun b => ⟨locDie s (38 + d), 0x0002, 3, b.1 + b.2 * 2 ^ 8⟩) ++ [⟨locDie s (38 + d), 0x0001, 0, k⟩]
      let s := closeStage s 0 (stageOutcome s items) 0 items
      { s with boot.next := some 1, boot.stamp0 := some s.now, boot.started := 0 }

/-- STAGE_0 (R556). -/
def execStage0 (s0Passes s1Passes : Bool) (s : State) : Host.Outcome State Fault Refusal :=
  effectOn s (if s.power.on && !s.boot.halted && decide (s.boot.next = some 0) then runStage0 s s0Passes s1Passes else s)

/-! ## Stages 1 and 2 -/

/-- Stage 1: the hash key is drawn; the cartridges in their slots then begin their identity checks (R285, R407). -/
def runStage1 (s : State) (found : List Finding) : State :=
  let (items, s) := applyFindings s 1 found
  let (k, s) := draw s
  let s := endStage { s with coh.hashKey := k % 2 ^ 128 } 1 (stageStart s found) items
  (List.range 32).foldl (fun s n => if (cartSlot s n).present && decide (slotState s n = 0) then beginIdentity s n else s) s

/-- STAGE_1 (R557-R559). -/
def execStage1 (found : List Finding) (s : State) : Host.Outcome State Fault Refusal :=
  effectOn s (if stageRuns s 1 then runStage1 s found else s)

/-- A line of the journal goes home to T2 (R234). -/
def lineHomeFrom (s : State) (frame : Nat) (l : Nat × Bytes) : State :=
  let a := frame * 4096 + l.1 * 128
  { s with mem.mem := memWrite s.mem.mem a l.2, mem.media := memWrite s.mem.media a l.2 }

/-- Every line of a half goes home. -/
def replayAll (s : State) (h : JournalHalf) : State := h.frames.foldl (fun s f => f.lines.foldl (fun s l => lineHomeFrom s f.frame l) s) s

/-- A context's PERSIST_LOST bit (R234). -/
def persistLost (s : State) (c : Nat) : State := if c = 0 then s else tierFlag s c 6 true

/-- A flush without a seal, some stripes of which do not decode (R234): which do is a free value. A line whose frame record decodes goes
home or, where its own stripe does not decode, is poisoned; where a frame record is missing the index is incomplete, and every context of
the context record has its PERSIST_LOST bit. -/
def replayPart (s : State) (h : JournalHalf) : State :=
  let r := h.frames.foldl (fun (p : State × Bool) f =>
    let (d, s) := draw p.1
    if d % 2 = 1 then (s, false)
    else
      (f.lines.foldl (fun s l =>
        let (d, s) := draw s
        if d % 2 = 0 then lineHomeFrom s f.frame l
        else odBump (poisonLine s (f.frame * 32 + l.1)) (odKey 0x3006 3) 1) s, p.2)) (s, true)
  if r.2 then r.1 else h.frames.foldl (fun s f => if f.lines = [] then s else persistLost s f.ctx) r.1

/-- The half that the last power-off left: the one of the newer flush. -/
def lastHalf (s : State) : JournalHalf :=
  let a := s.tier.journalA
  let b := s.tier.journalB
  if a.seq < b.seq then b else a

/-- Replay (R234, R235): 0 CLEAN, 1 RESUMED, 2 SEALED, 3 INCOMPLETE, 4 NO_RECORD; the half is then cancelled. -/
def replay (s : State) (stripesOk : Bool) : Nat × State :=
  let h := lastHalf s
  let s := odSet s (odKey 0x3006 3) 0
  let cancelled (s : State) : State := setHalf s h.seq { h with kind := .cancel }
  let (k, s) : Nat × State :=
    match h.kind with
    | .clean => (0, s)
    | .cancel => (1, s)
    | .seal => (2, cancelled (replayAll s h))
    | .units => (3, cancelled (if stripesOk then replayAll s h else replayPart s h))
    | .none => (4, cancelled ((s.tier.t2.map (·.ctx)).foldl persistLost s))
  (k, odSet s (odKey 0x3006 1) k)

/-- After membership, each position without its cartridge is given to a spare (R409, R415). -/
def fillMissing (s : State) : State :=
  (List.range 30).foldl (fun s k =>
    match slotAt s (k / 10) (k % 10) with
    | some n => if slotCounts (slotState s n) || decide (slotState s n = 1) then s else replaceMember s (k / 10) (k % 10)
    | none => s) s

/-- Stage 2: the memories train, the media dies have their keys, the journal is replayed, and the groups come into use (R560, R501, R406,
R234). -/
def runStage2 (s : State) (found : List Finding) : State :=
  let (items, s) := applyFindings (loadMediaKeys s) 2 found
  let whole := !found.any (fun f => match f with | .journal ok => !ok | _ => false)
  let (k, s) := replay s whole
  let items := items ++ [⟨locDevice s, 0x0204, if k ≤ 2 then 0 else 2, k⟩]
  let s := if 3 ≤ k then { s with cart.scrubRow := 0, cart.scrubTwice := true } else s
  let s := settleGroups (fillMissing (endStage s 2 (stageStart s found) items))
  if odGet s (odKey 0x3006 6) = 1 then markClean s else s

/-- STAGE_2 (R560). -/
def execStage2 (found : List Finding) (s : State) : Host.Outcome State Fault Refusal :=
  effectOn s (if stageRuns s 2 then runStage2 s found else s)

/-! ## Stages 3 and 4 -/

/-- Good lanes of a port from the findings: all of them where none is named. -/
def lanesFound (found : List Finding) (l : Nat) : Nat :=
  (found.filterMap (fun f => match f with | .portLanes x g => if x.val = l then some g else none | _ => none)).foldl min (fullWidth l)

/-- Stage 3: every port with an expected neighbour trains (R561). -/
def runStage3 (s : State) (found : List Finding) : State :=
  let (items, s) := applyFindings s 3 found
  let s := ((List.range 24).filter (fun l => decide (odGet s (linkOd l 0) ≠ 0))).foldl (fun s l => lanesTrained s l (lanesFound found l)) s
  odSet (endStage s 3 (stageStart s found) items) (odKey 0xB000 4) (startKind s)

/-- STAGE_3 (R561). -/
def execStage3 (found : List Finding) (s : State) : Host.Outcome State Fault Refusal :=
  effectOn s (if stageRuns s 3 then runStage3 s found else s)

/-- Stage 4: the three engine images are broadcast (R562, R512). -/
def runStage4 (s : State) (found : List Finding) : State :=
  let (items, s) := applyFindings s 4 found
  let s := [5, 6, 7].foldl (fun s k => extendMeas s 6 2 0xFFFF 0 (kindDigest s (slotBooted s) k)) s
  endStage s 4 0 items

/-- STAGE_4 (R562). -/
def execStage4 (found : List Finding) (s : State) : Host.Outcome State Fault Refusal :=
  effectOn s (if stageRuns s 4 then runStage4 s found else s)

/-! ## Stages 5 and 6 -/

/-- The firmware processors are loaded, in ascending order, and the candidate that has passed becomes the standby (R556, R563). -/
def loadProcs (s : State) : State :=
  let s := (List.range 62).foldl (fun s p => if procState s p = 2 then s else procLoaded (setProc s p 0) p (slotBooted s) 2) s
  if s.boot.candidate then
    let p := 125 - activeCore s
    standbyEnters (procLoaded (setProc { s with boot.candidate := false } p 3) p (slotBooted s) 2)
  else s

/-- Releases that a power loss met are completed before stage 6 (R496). -/
def finishReleases (s : State) : State :=
  ((s.iso.keys0.filter (fun e => decide (e.2.state = .releasing))).map (·.1)).foldl completeRelease s

/-- Stage 5: the processors are loaded; where a minimum is not met the stage stays open, and its report says WAITING (R563-R565). -/
def runStage5 (s : State) (found : List Finding) : State :=
  let (items, s) := applyFindings s 5 found
  let s := finishReleases (loadProcs s)
  let s := extendMeas s 8 5 0xFFFF 0 (topologyDigest s)
  let s := { s with boot.held5 := some (items.map (fun i => (i.place, i.code, i.result, i.value))) }
  if minimaMet s then closeStage5 s else stageReport s 5 3 0 s.boot.started (items ++ portItems s)

/-- STAGE_5 (R563-R565). -/
def execStage5 (found : List Finding) (s : State) : Host.Outcome State Fault Refusal :=
  effectOn s (if stageRuns s 5 && s.boot.held5.isNone then runStage5 s found else s)

/-- TOPOLOGY_SHORT (R565): every 10 s while stage 5 is open. -/
def execTopologyShort (s : State) : Host.Outcome State Fault Refusal :=
  effectOn s (
    if (s.boot.next = some 5 ∧ s.boot.held5.isSome = true) ∨ (s.boot.next = some 7 ∧ devState s = 0) then
      logNotify s "TOPOLOGY_SHORT" [agreedPorts s false, agreedPorts s true]
    else s)

/-- The governors of a device that is up run under R540: each chooses its request. -/
def freeGovernors (s : State) : State :=
  (List.range 40).foldl (fun s d => let (v, s) := chooseVolt s d; setRequest s d v) s

/-- Stage 6: the device state is set and admission opens, unless the device is FAILED (R567, R574). -/
def runStage6 (s : State) : State :=
  let s := odSet s (odKey 0xB000 5) (min ((s.now - s.boot.goodAt) / 1000000) (2 ^ 32 - 1))
  let s := odSet { s with dict.unsaved := addOnce s.dict.unsaved (odKey 0xB001 1) } (odKey 0xB001 1) 0
  let s := freeGovernors (portCauses s)
  let s := if devState s = 3 then closeStage s 6 2 0 [⟨locDevice s, 0x0601, 3, 3⟩] else becomeReady s
  nextCommand { s with boot.next := some 7 }

/-- STAGE_6 (R567). -/
def execStage6 (s : State) : Host.Outcome State Fault Refusal :=
  effectOn s (if stageRuns s 6 then runStage6 s else s)

end Sys2Proof.Machine
end

