-- ==== Sys2Proof/Machine/Commit.lean ====
section
/-! DEFINITION. Steps, shadowing and compositions (R583-R613): STEP_COMMIT and its checks, the comparison with the partner, checkpoints
that become durable, BEGIN and TAKEOVER. -/

namespace Sys2Proof.Machine

/-! ## The commit set (R585-R588) -/

/-- The fields of a commit set (R585). -/
structure CommitSet where
  state   : Nat
  nstate  : Nat
  mirror0 : Nat
  mirror1 : Nat
  ckpt    : Nat
  scratch : Nat
  partner : Nat
  report  : Nat
  deriving DecidableEq, Repr

/-- A commit set from its 64 bytes. -/
def commitSet (b : Bytes) : CommitSet :=
  let n := leNat b
  ⟨field n 0 64, field n 64 9, field n 128 64, field n 192 64, field n 256 64, field n 320 64, field n 384 64, field n 448 64⟩

/-- A range of the state (R586). -/
structure StatePart where
  cva    : Nat
  cls    : Nat
  pages  : Nat
  thresh : Nat
  deriving DecidableEq, Repr

/-- A state-table entry from its bits. -/
def statePart (n : Nat) : StatePart := ⟨field n 0 57, field n 57 3, field n 64 40, field n 112 16⟩

/-- The 16-byte entries of a table. -/
def entriesOf (b : Bytes) (n : Nat) : List Nat := (List.range n).map (fun i => leAt b (16 * i) 16)

/-- A delta entry: CVA and PAGES (R587). -/
def deltaEntry (n : Nat) : Nat × Nat := (field n 0 57, field n 64 40)

/-- CVAs of the pages of a run. -/
def runPages (cva pages : Nat) : List Nat := (List.range pages).map (fun k => cva + 4096 * k)

/-- CVA of each page of the state, in order (R586). -/
def statePages (ps : List StatePart) : List Nat := (ps.map (fun p => runPages p.cva p.pages)).flatten

/-- The state table of a commit set may be used (R586). -/
def partsOk (ps : List StatePart) : Bool :=
  ps.all (fun p => decide (p.cva % 4096 = 0) && decide (p.cls ≤ 3) && decide (p.pages ≠ 0))

/-- The delta list may be used: aligned, and each entry within one range (R587). -/
def deltaOk (ps : List StatePart) (ds : List (Nat × Nat)) : Bool :=
  ds.all (fun d => decide (d.1 % 4096 = 0) && decide (d.2 ≠ 0) &&
    ps.any (fun p => decide (p.cva ≤ d.1) && decide (d.1 + d.2 * 4096 ≤ p.cva + p.pages * 4096)))

/-- PAGES of all ones (R589). -/
def allOnesPages : Nat := 2 ^ 40 - 1

/-- Where a copy region of S pages an image lies, none where R589 refuses it: the node, or 4,096 + the host port of a checkpoint
region. -/
def regionPlace (s : State) (c base pages : Nat) (ckpt : Bool) : Option Nat :=
  let n := 1 + 2 * pages
  let ps := piecesOf (rangeTable s c) (base / 4096) n
  if base % 4096 ≠ 0 ∨ cvaEnd < base + n * 4096 ∨ (ps.map (·.pages)).sum ≠ n ∨ !ps.all (·.wr) then none
  else if ps.all (fun e => decide (e.ty = .device) && inT2 (e.base * 4096) (e.pages * 4096)) then some (nodeNo s)
  else
    let node := match ps with | e :: _ => faNode (e.base * 4096) | [] => 0
    if ps.all (fun e => decide (e.ty = .peer) && decide (faNode (e.base * 4096) = node) && inT2 (faOff (e.base * 4096)) (e.pages * 4096)) then
      some node
    else if ckpt && ps.all (fun e => decide (e.ty = .host)) then some (4096 + ctxHostPort s c)
    else none

/-- The header of a region: read at its home where it is local, else what the command says that the read returned. -/
def readHeader (s : State) (c base : Nat) (io : RegionIo) : Option Bytes × State :=
  if (cvaSa s c base).isSome then
    let r := cvaRead s firmwareAgent c base 128
    (if r.1.2 then none else some r.1.1, r.2)
  else (io.header, s)

/-- STEP0 and STEP1 of a header (R588). -/
def headerSteps (b : Bytes) : Nat × Nat := (leAt b 4 4, leAt b 8 4)

/-! ## Mirrors (R590, R591) -/

/-- An image whose header says step `x` holds step `n`; a step of 0 is no step. -/
def holds (x n : Nat) : Bool := decide (x = n) && decide (n ≠ 0)

/-- The target image of step n (R590). -/
def targetImage (n s0 s1 : Nat) : Nat :=
  if holds s0 (n - 1) && !holds s1 (n - 1) then 1
  else if holds s1 (n - 1) && !holds s0 (n - 1) then 0
  else if s1 < s0 then 1 else 0

/-- Only the pages that the two lists name are copied (R591). -/
def incremental (n s0 s1 : Nat) (scratchOk : Bool) : Bool :=
  let t := targetImage n s0 s1
  holds (if t = 0 then s1 else s0) (n - 1) && holds (if t = 0 then s0 else s1) (n - 2) && scratchOk

/-- The writes of one mirror (R590): the header without the target, the pages, the header with step n; with the number of pages. -/
def mirrorWrites (region n s0 s1 : Nat) (state : List Nat) (named : Option (List Nat)) : List StepWrite × Nat :=
  let t := targetImage n s0 s1
  let hdr (v : Nat) : StepWrite :=
    ⟨region, .bytes (if t = 0 then regionHeader v s1 1 state.length else regionHeader s0 v 1 state.length)⟩
  let all := state.zip (List.range state.length)
  let ps : List (Nat × Nat) := match named with | some l => all.filter (fun p => l.contains p.1) | none => all
  let mark : List StepWrite := match named with | some _ => [] | none => [⟨region, .full⟩]
  ([hdr 0] ++ mark ++ ps.map (fun p => ⟨imagePage region t state.length p.2, .cva p.1⟩) ++ [hdr n], ps.length)

/-! ## SCRATCH: step, number of entries, then the entries of its delta list from byte 16 (the model's own layout) -/

/-- The pages named by the delta list of step n - 1, where SCRATCH holds it (R591). -/
def scratchList (b : Bytes) (n : Nat) : Option (List Nat) :=
  if leAt b 0 4 = n - 1 ∧ n ≠ 1 then
    some ((entriesOf (b.drop 16) (leAt b 4 4 % 4096)).map (fun e => runPages (deltaEntry e).1 (deltaEntry e).2)).flatten
  else none

/-- The writes that put the delta list of step n into SCRATCH (R592). -/
def scratchWrites (scratch n : Nat) (list : Bytes) : List StepWrite :=
  let b := natLe 4 n ++ natLe 4 (list.length / 16) ++ natLe 8 0 ++ list
  (cvaParts scratch b.length).map (fun p => ⟨p.1, .bytes ((b.drop (p.1 - scratch)).take p.2)⟩)

/-! ## The comparison of a shadow (R603-R605) -/

/-- How a comparison ended: refused, or the pages of a peer were lost, or decided: first range that failed, with whether it was an
EXACT one, and the largest ε. -/
inductive Compared where
  | refused | lost | poison | done (failed : Option (Nat × Bool)) (eps : Nat)
  deriving DecidableEq, Repr

/-- Pages of the partner from page `first`, none where one was lost. -/
def partnerBytes (pages : List (Nat × Option Bytes)) (first n : Nat) : Option Bytes :=
  (List.range n).foldl (fun r k =>
    match r, pages.find? (fun e => decide (e.1 = first + k)) with
    | some b, some (_, some p) => some (b ++ padTo 4096 p)
    | _, _ => none) (some [])

/-- Elements of `w` bytes. -/
def elemsOf (w : Nat) (b : Bytes) : List Nat := (List.range (b.length / w)).map (fun i => leAt b (w * i) w)

/-- Compare one range: passes, and its ε (R604). -/
def compareRange (p : StatePart) (mine theirs : Bytes) (f dflt : Nat) (up : Bool) : Bool × Nat :=
  if p.cls = 0 then (decide (mine = theirs), 0)
  else
    let w := if p.cls = 1 then 4 else 2
    let dec (n : Nat) : Fl := if p.cls = 1 then decF32 n else decBF16 n
    let norm := errNorm (((elemsOf w mine).map dec).zip ((elemsOf w theirs).map dec))
    (!epsExceeds norm f (if p.thresh = 0 then dflt else p.thresh), epsU16 norm f up)

/-- Compare the ranges in table order: index of the range, first page, first failure and largest ε so far. -/
def compareParts (s : State) (c : Nat) (io : CommitIo) (f dflt : Nat) (up : Nat → Bool) :
    List StatePart → (i first : Nat) → Option (Nat × Bool) → Nat → Compared
  | [], _, _, bad, eps => .done bad eps
  | p :: t, i, first, bad, eps =>
    if p.cls = 3 then compareParts s c io f dflt up t (i + 1) (first + p.pages) bad eps
    else
      let mine := cvaBytes s c p.cva (p.pages * 4096)
      match partnerBytes io.pages first p.pages with
      | none => .lost
      | some theirs =>
        if mine.2 then .poison
        else
          let r := compareRange p mine.1 theirs f dflt (up i)
          let bad := match bad with | some x => some x | none => if r.1 then none else some (i, decide (p.cls = 0))
          compareParts s c io f dflt up t (i + 1) (first + p.pages) bad (max eps r.2)

/-- Compare with the partner: the image that holds the step, before and after (R603). -/
def compareWith (s : State) (c n : Nat) (io : CommitIo) (parts : List StatePart) (f dflt : Nat) (up : Nat → Bool) : Compared :=
  match io.partner0.header, io.partner1.header with
  | some a, some b =>
    let (a0, a1) := headerSteps a
    let (b0, b1) := headerSteps b
    let total := (parts.map (·.pages)).sum
    if !(holds a0 n || holds a1 n) ∨ leAt a 16 5 ≠ total then .refused
    else
      match compareParts s c io f dflt up parts 0 0 none 0 with
      | .done bad eps => if holds a0 n && decide (b0 = n) || !holds a0 n && decide (b1 = n) then .done bad eps else .refused
      | r => r
  | _, _ => .lost

/-! ## STEP_COMMIT -/

/-- What the report says of the comparison: SHADOW, EPS_MAX, RUN and FAILRANGE (R593, R605). -/
def shadowReport (code eps run fail : Nat) : Nat := code * 2 ^ 40 + eps * 2 ^ 48 + run * 2 ^ 144 + fail * 2 ^ 176

/-- The run count after a comparison, and the report of it (R605). -/
def afterCompare (s : State) (c n : Nat) (bad : Option (Nat × Bool)) (eps : Nat) : Nat × State :=
  let k := odCtx 0xC130 c
  match bad with
  | none =>
    let run := min (odGet s k + 1) (2 ^ 32 - 1)
    (shadowReport 1 eps run 0, odSet s k run)
  | some (r, exact) =>
    (shadowReport (if exact then 3 else 2) eps 0 r, odBump (logEv (odSet s k 0) "SHADOW_MISMATCH" [c, n, r]) (odKey 0xC001 4) 1)

/-- A STEP_COMMIT ends at its dispatch. -/
def commitEnd (s : State) (c q : Nat) (x : Queue) (d : Nat) (st : Status) : State :=
  addJob s c q x d .plain (some (recHead st (dOp d) (dTag d)))

/-- The header of a region could not be read: a peer's POISON, or a host port that does not answer, tears the context (R459, R592,
R597). -/
def headerLost (s : State) (c place : Nat) : State :=
  if place = nodeNo s then s else if place < 4096 then peerPoison s c place else tornCtx s c

/-- The copies of a STEP_COMMIT begin (R590-R592). -/
def beginCopies (s : State) (c q : Nat) (x : Queue) (d : Nat) (io : CommitIo) (k : CommitSet) (parts : List StatePart) (list : Bytes)
    (places : Nat × Nat × Nat) (shadow : Nat) : State :=
  let n := field d 128 32
  let (h0, s) := readHeader s c k.mirror0 io.mirror0
  let (h1, s) := readHeader s c k.mirror1 io.mirror1
  let (hc, s) := readHeader s c k.ckpt io.ckpt
  match h0, h1, hc with
  | some h0, some h1, some hc =>
    let (scr, s) := cvaRead s firmwareAgent c k.scratch 65536
    if scr.2 then commitEnd s c q x d .poison
    else
      let state := statePages parts
      let now_ := ((entriesOf list (list.length / 16)).map (fun e => runPages (deltaEntry e).1 (deltaEntry e).2)).flatten
      let named (h : Bytes) : Option (List Nat) :=
        match scratchList scr.1 n with
        | some old => if incremental n (headerSteps h).1 (headerSteps h).2 true then some (old ++ now_) else none
        | none => none
      let m0 := mirrorWrites k.mirror0 n (headerSteps h0).1 (headerSteps h0).2 state (named h0)
      let m1 := mirrorWrites k.mirror1 n (headerSteps h1).1 (headerSteps h1).2 state (named h1)
      let page (region : Nat) (h : Bytes) (i : Nat) : StepSrc :=
        .cva (imagePage region (targetImage n (headerSteps h).1 (headerSteps h).2) state.length i)
      let source (i : Nat) : StepSrc :=
        if (cvaSa s c k.mirror0).isSome then page k.mirror0 h0 i
        else if (cvaSa s c k.mirror1).isSome then page k.mirror1 h1 i
        else
          match io.image.find? (fun e => decide (e.1 = i)) with
          | some (_, some b) => .bytes (padTo 4096 b)
          | _ => .lost places.1
      let report := n + (if (named h0).isNone then 2 ^ 33 else 0) + (if (named h1).isNone then 2 ^ 34 else 0) + shadow +
        m0.2 * 2 ^ 64 + m1.2 * 2 ^ 104
      let w : StepWork := ⟨field d 192 64, n, ⟨m0.1 ++ m1.1 ++ scratchWrites k.scratch n list, []⟩, (headerSteps hc).1, (headerSteps hc).2,
        k.ckpt, (List.range state.length).map source, odGet s (odKey 0xC000 1), report, k.report⟩
      commitPump (addJob s c q x d (.step w) none) c q x.disp
  | none, _, _ => headerLost (commitEnd s c q x d .poison) c places.1
  | _, none, _ => headerLost (commitEnd s c q x d .poison) c places.2.1
  | _, _, none => headerLost (commitEnd s c q x d .poison) c places.2.2

/-- A STEP_COMMIT whose tables lie in pinned ranges and name no reserved length: the other checks of R589, then the comparison, then the
copies. -/
def checkedCommit (s : State) (c q : Nat) (x : Queue) (d : Nat) (io : CommitIo) (k : CommitSet) (parts : List StatePart) (list : Bytes) :
    State :=
  let n := field d 128 32
  let ds := (entriesOf list (list.length / 16)).map deltaEntry
  let total := (parts.map (·.pages)).sum
  if n = 0 ∨ !partsOk parts ∨ !deltaOk parts ds ∨ k.report % 64 ≠ 0 ∨ !pinnedOk s c k.scratch 65536 .write ∨
      !pinnedOk s c k.scratch 65536 .read ∨ !pinnedOk s c k.report 64 .write ∨
      !parts.all (fun p => pinnedOk s c p.cva (p.pages * 4096) .read) then commitEnd s c q x d .range
  else
    match regionPlace s c k.mirror0 total false, regionPlace s c k.mirror1 total false, regionPlace s c k.ckpt total true with
    | some p0, some p1, some pc =>
      if p0 = p1 ∨ pc = p0 ∨ pc = p1 then commitEnd s c q x d .range
      else if k.partner = 0 then beginCopies s c q x d io k parts list (p0, p1, pc) (odGet s (odCtx 0xC130 c) * 2 ^ 144)
      else
        let ps := piecesOf (rangeTable s c) (k.partner / 4096) (1 + 2 * total)
        if (ps.map (·.pages)).sum ≠ 1 + 2 * total ∨ !ps.all (fun e => decide (e.ty = .peer) && e.rd) then commitEnd s c q x d .range
        else
          let (r, s) := draw s
          match compareWith s c n io parts (odGet s (odKey 0x2100 2)) (odGet s (odKey 0xC000 4)) (fun i => (Config.freeNat (r + i)).testBit 0) with
          | .refused => odSet (commitEnd s c q x d .range) (odCtx 0xC130 c) 0
          | .lost => peerPoison (commitEnd s c q x d .poison) c (match ps with | e :: _ => faNode (e.base * 4096) | [] => 0)
          | .poison => commitEnd s c q x d .poison
          | .done bad eps =>
            let (shadow, s) := afterCompare s c n bad eps
            beginCopies s c q x d io k parts list (p0, p1, pc) shadow
    | _, _, _ => commitEnd s c q x d .range

/-- A table of a STEP_COMMIT: its CVA and its size in bytes, none where it cannot be read. -/
def tableAt (s : State) (c cva entries : Nat) (ok : Bool) : Option (Nat × Nat) :=
  if ok && decide (cva % 16 = 0) && pinnedOk s c cva (16 * entries) .read then some (cva, 16 * entries) else none

/-- The bytes of a table, none where there are none, and whether they are poisoned. -/
def tableBytes16 (s : State) (c : Nat) (t : Option (Nat × Nat)) : Bytes × Bool :=
  match t with
  | some (cva, n) => cvaBytes s c cva n
  | none => ([], false)

/-- Entries of the two tables that name the reserved PAGES of all ones. -/
def reservedPages (state delta : Bytes) : Bool :=
  ((entriesOf state (state.length / 16)).map statePart).any (fun p => decide (p.pages = allOnesPages)) ||
    ((entriesOf delta (delta.length / 16)).map deltaEntry).any (fun e => decide (e.2 = allOnesPages))

/-- A STEP_COMMIT is dispatched (R583-R603). What each table holds counts as far as it can be read, in the order of R20. -/
def doCommit (s : State) (c q : Nat) (x : Queue) (d : Nat) (io : CommitIo) : State :=
  let set := field d 192 64
  let delta := tableAt s c (field d 256 64) (field d 160 12) true
  if set % 64 ≠ 0 ∨ !pinnedOk s c set 64 .read then
    let l := tableBytes16 s c delta
    commitEnd s c q x d (if l.2 then .poison else if reservedPages [] l.1 then .reservedLength else .range)
  else if !cvaFree s c set 64 then askRanges s (saParts s c set 64)
  else if (cvaBytes s c set 64).2 then commitEnd s c q x d .poison
  else
    let k := commitSet (cvaBytes s c set 64).1
    let state := tableAt s c k.state k.nstate (decide (1 ≤ k.nstate) && decide (k.nstate ≤ 256))
    let need := (state.toList ++ delta.toList ++ [(k.scratch, 65536)]).map (fun (t : Nat × Nat) => saParts s c t.1 t.2)
    if !rangesFree s need.flatten then askRanges s need.flatten
    else
      let t := tableBytes16 s c state
      let l := tableBytes16 s c delta
      let s := ([(set, 64)] ++ state.toList ++ delta.toList).foldl (fun s (t : Nat × Nat) => (cvaRead s firmwareAgent c t.1 t.2).2) s
      if t.2 || l.2 then commitEnd s c q x d .poison
      else if reservedPages t.1 l.1 then commitEnd s c q x d .reservedLength
      else if state.isNone ∨ delta.isNone then commitEnd s c q x d .range
      else checkedCommit s c q x d io k ((entriesOf t.1 k.nstate).map statePart) l.1

/-- STEP_COMMIT (R583-R605): a queue whose STEP_COMMIT is being carried out takes it further; else its next descriptor is
dispatched. -/
def execStepCommit (c : Ctx) (q : QNum) (io : CommitIo) (s : State) : Host.Outcome State Fault Refusal :=
  effectOn s (
    match s.q.jobs.find? (fun j => decide (j.ctx = c.toNat) && decide (j.queue = q.val) && (commitOf j).isSome) with
    | some j => commitPump s c.toNat q.val j.idx
    | none => dispatchAs s c.toNat q.val [1] (fun d => dOp d = 0xF) (fun s x d => doCommit s c.toNat q.val x d io))

/-- CHECKPOINT_DONE (R596). -/
def execCheckpointDone (c : Ctx) (set : BitVec 57) (s : State) : Host.Outcome State Fault Refusal :=
  effectOn s (checkpointDone s c.toNat set.toNat)

/-! ## Shadows (R601) -/

/-- A shadow command of a context: 1 BEGIN, 2 TAKEOVER; outcomes 1 DONE, 2 NOT_PROVEN, 3 BAD_STATE (R601). -/
def shadowCommand (s : State) (c k : Nat) : State :=
  let outcome (s : State) (v : Nat) : State := odSet s (odCtx 0xC120 c) v
  if !dictUp s ∨ c = 0 then s
  else if k = 1 then
    if ctxActive s c && !isShadow s c then outcome (odSet (odSet s (odCtx 0xC100 c) 1) (odCtx 0xC130 c) 0) 1 else outcome s 3
  else if !isShadow s c then outcome s 3
  else if odGet s (odKey 0xC000 2) ≤ odGet s (odCtx 0xC130 c) then outcome (odSet s (odCtx 0xC100 c) 0) 1
  else outcome s 2

/-- BEGIN (R601). -/
def execBegin (c : Ctx) (s : State) : Host.Outcome State Fault Refusal := effectOn s (shadowCommand s c.toNat 1)

/-- TAKEOVER (R601). -/
def execTakeover (c : Ctx) (s : State) : Host.Outcome State Fault Refusal := effectOn s (shadowCommand s c.toNat 2)

end Sys2Proof.Machine
end

