-- ==== Sys2Proof/Machine/OdView.lean ====
section
/-! DEFINITION. The dictionary as it is read and judged: the value of every entry (R48-R53, R643), the checks of a written value
(R56, R645-R648), and the rules across fields (R84). -/

namespace Sys2Proof.Machine

/-! ## Rows and values -/

/-- The row of an entry as the running image serves it: the recovery image serves five ranges (R50, R530). -/
def servedRow (s : State) (key : Nat) : Option OdRow :=
  if s.boot.recovery && !([0x1, 0x9, 0xA, 0xB, 0xF].contains (key / 2 ^ 20)) then none else odRow key

/-- Access class code (R67). -/
def accCode : OdAcc → Nat
  | .ro => 0 | .rw => 1 | .wo => 2 | .rwd => 3

/-- Maximum length of a STR or BLOB entry (R67). -/
def maxLen (r : OdRow) : Nat :=
  match r.check with
  | .upTo n => n
  | .exact n _ => n
  | .records _ n => n
  | _ => 0

/-- Number of a table's entry: the context of a per-context table, or the other number that takes its place (R49). -/
def tableNumber (r : OdRow) (key : Nat) : Nat := key - r.i0 * 256

/-- Entries of context 0x000 read as zero and refuse writes (R49). -/
def ctxZero (r : OdRow) (key : Nat) : Bool := r.perCtx && decide (tableNumber r key = 0)

/-- Zero of a type (R49, R52). -/
def zeroOf (r : OdRow) : OdVal := if tySize r.ty = 0 then .bytes [] else .num 0

/-- Whole events, newest first, as many as fit a BLOB (R93); their bytes are not stated. -/
def logBytes : List Event → Bytes → Bytes
  | [], b => b
  | e :: t, b =>
    let x := Config.eventBytes (nameCode e.name) e.time e.args
    if b.length + x.length ≤ 1024 then logBytes t (b ++ x) else b

/-- OD 0xC210 of a WID: the target of an import window (R609). -/
def importTargetOf (s : State) (wid : Nat) : Nat :=
  match fabWinAt s wid with
  | some w =>
    if w.role = 2 then
      match tblFind s.step.targets wid with
      | some t => t.node + t.wid * 2 ^ 12 + t.page * 2 ^ 24
      | none => w.rnode + w.rwid * 2 ^ 12 + faOff w.base / 4096 * 2 ^ 24
    else 0
  | none => 0

/-- End of the highest allocated placed frame in MiB (R201). -/
def placedEnd (s : State) : Nat := mib ((s.tier.t1.map (fun r => r.start + r.count - t1First)).foldl max 0)

/-- The memories have started: stage 2 has closed (R643). -/
def memoriesUp (s : State) : Bool := match s.boot.next with | some n => decide (3 ≤ n) | none => false

/-- Numbers that the device computes when they are read; what the memories report reads zero until they have started (R643). -/
def computedNum (s : State) (idx sub : Nat) : Option Nat :=
  let c := idx % 16 * 256 + sub
  if !memoriesUp s && ((decide (idx = 0x3004) && [1, 2, 8].contains sub) || decide (idx = 0x8011)) then some 0
  else if idx = 0x1000 ∧ sub = 4 then some Config.hwRev.toNat
  else if idx = 0x1001 then some Config.mac.toNat
  else if idx = 0x2201 ∧ sub = 5 then some s.q.windows.length
  else if idx = 0x2802 then some s.q.quills.length
  else if idx = 0x3004 then
    match sub with
    | 1 => some (poolFree s 1 / 256)
    | 2 => some (poolFree s 2 / 256)
    | 3 => some (t3Total s / 256)
    | 4 => some (poolFree s 3 / 256)
    | 5 => some (placedEnd s)
    | 6 => some (ceilDiv (dirtyCharge s) (2 ^ 20))
    | 7 => if journalWidth s = 0 then none else some (dirtyCapGiB s * 1024)
    | _ => some (journalWidth s)
  else
    match idx / 16 with
    | 0x314 => some (mib (chargeFrames s c 1))
    | 0x315 => some (mib (occupancy s c))
    | 0x316 => some (mib (chargeFrames s c 2))
    | 0x317 => some (mib (chargeFrames s c 3))
    | 0x318 => some (mib (pinnedFrames s c 1))
    | 0xC21 => some (importTargetOf s c)
    | _ =>
      if idx = 0x4001 ∧ sub = 8 then some (tableBytes s)
      else if idx = 0xE000 ∧ sub = 4 then some s.dict.drafts.length
      else none

/-- Bytes that the device computes when they are read; the SPDM response is the reader's own (R516). -/
def computedBytes (s : State) (src : Src) (idx sub : Nat) : Option Bytes :=
  if idx = 0x1000 ∧ sub = 3 then some Config.serial
  else if idx = 0xF000 then some (logBytes s.log [])
  else if idx = 0x9300 ∧ sub = 2 then some (match spdmOf s src with | some x => x.response | none => [])
  else none

/-- The value that a read of an entry returns (R49, R52, R643). -/
def odRead (s : State) (src : Src) (r : OdRow) (key : Nat) : OdVal :=
  if ctxZero r key || decide (r.acc = .wo) then zeroOf r
  else if tySize r.ty = 0 then .bytes ((computedBytes s src (key / 256) (key % 256)).getD (blobGet s key))
  else .num ((computedNum s (key / 256) (key % 256)).getD (odGet s key))

/-- A value as it stands in an item. -/
def valBytes (r : OdRow) : OdVal → Bytes
  | .num n => natLe (tySize r.ty) n
  | .bytes b => b

/-! ## Judging a written value (R56, R645-R648) -/

/-- A byte that begins a UTF-8 character: its length, 0 where none begins with it. -/
def utf8Lead (b : Nat) : Nat :=
  if b < 0x80 then 1 else if 0xC2 ≤ b ∧ b < 0xE0 then 2 else if 0xE0 ≤ b ∧ b < 0xF0 then 3 else if 0xF0 ≤ b ∧ b < 0xF5 then 4 else 0

/-- One character is well formed: continuation bytes, and neither overlong nor a surrogate nor beyond the last code point. -/
def utf8Char (c : Bytes) : Bool :=
  match c.map (·.toNat) with
  | [_] => true
  | [_, b] => decide (b / 64 = 2)
  | [a, b, d] => decide (b / 64 = 2) && decide (d / 64 = 2) && !(decide (a = 0xE0) && decide (b < 0xA0)) && !(decide (a = 0xED) && decide (0xA0 ≤ b))
  | [a, b, d, e] => decide (b / 64 = 2) && decide (d / 64 = 2) && decide (e / 64 = 2) && !(decide (a = 0xF0) && decide (b < 0x90)) &&
      !(decide (a = 0xF4) && decide (0x90 ≤ b))
  | _ => false

/-- The lengths of the characters of a string, none where it is not UTF-8. -/
def utf8Lengths : (fuel : Nat) → Bytes → Option (List Nat)
  | _, [] => some []
  | 0, _ => none
  | fuel + 1, b :: t =>
    let n := utf8Lead b.toNat
    if n = 0 ∨ (b :: t).length < n ∨ utf8Char ((b :: t).take n) = false then none
    else (utf8Lengths fuel ((b :: t).drop n)).map (n :: ·)

/-- Bytes of the whole characters that fit in `room`. -/
def fitChars : List Nat → (room : Nat) → Nat
  | [], _ => 0
  | n :: t, room => if n ≤ room then n + fitChars t (room - n) else 0

/-- What becomes of a written value: refused, or stored with a status. -/
inductive Verdict where
  | refused (st : Status) (rsn : Reason)
  | stored (v : OdVal) (st : Status)
  deriving DecidableEq, Repr

/-- A number against its range (R56, R645, R646). -/
def judgeNum (r : OdRow) (n : Nat) : Verdict :=
  match r.check with
  | .codes l => if l.contains n then .stored (.num n) .ok else .refused .range .enumValue
  | .mask m => .stored (.num (n &&& m)) .ok
  | .ivs l =>
    if r.ty = .bool then (if 1 < n then .stored (.num 1) .clamped else .stored (.num n) .ok)
    else if l.any (fun i => decide (i.1 ≤ n) && decide (n ≤ i.2)) then .stored (.num n) .ok
    else
      match l.head?, l.getLast? with
      | some lo, some hi =>
        if n < lo.1 then .stored (.num lo.1) .clamped else if hi.2 < n then .stored (.num hi.2) .clamped else .refused .range .gap
      | _, _ => .stored (.num n) .ok
  | _ => .stored (.num n) .ok

/-- The bits of a record that are not reserved, and the record's size, in the BLOB tables made of records: T3 extents (R483), host windows
(R473), queue records (R147) and rebind entries (R608); none for other BLOBs. -/
def recordMask (r : OdRow) : Option (Nat × Nat) :=
  match r.i0 with
  | 0x7300 => some (16, 2 ^ 107 - 1)
  | 0x7400 => some (32, 2 ^ 123 - 1 + (2 ^ 64 - 1) * 2 ^ 128)
  | 0x9200 => some (32, 0x1F01FF + (2 ^ 128 - 1) * 2 ^ 64)
  | 0xC200 => some (16, 0x3FFF + (2 ^ 96 - 1) * 2 ^ 32)
  | _ => none

/-- A written BLOB with the reserved bits of its records as zero (R11). -/
def maskBlob (r : OdRow) (b : Bytes) : Bytes :=
  match recordMask r with
  | some (k, m) => ((List.range (b.length / k)).map (fun i => natLe k (leAt b (k * i) k &&& m))).flatten
  | none => b

/-- A BLOB against its lengths (R56, R648). -/
def judgeBlob (r : OdRow) (b : Bytes) : Verdict :=
  if maxLen r < b.length then .refused .range .tooLong
  else
    match r.check with
    | .exact n zero => if b.length = n ∨ (zero = true ∧ b = []) then .stored (.bytes (maskBlob r b)) .ok else .refused .range .type
    | .records k _ => if b.length % k = 0 then .stored (.bytes (maskBlob r b)) .ok else .refused .range .type
    | _ => .stored (.bytes b) .ok

/-- A STR against its maximum (R56). -/
def judgeStr (r : OdRow) (b : Bytes) : Verdict :=
  match utf8Lengths b.length b with
  | none => .refused .range .encoding
  | some l => if b.length ≤ maxLen r then .stored (.bytes b) .ok else .stored (.bytes (b.take (fitChars l (maxLen r)))) .clamped

/-- Table key of an item's entry. -/
def itemKey (i : VItem) : Nat := odKey i.idx i.sub

/-- A write is judged in the order of R647; `draft` where it is staged in a draft. -/
def judge (s : State) (draft : Bool) (i : VItem) : Verdict :=
  match servedRow s (itemKey i) with
  | none => .refused .range .noEntry
  | some r =>
    if ctxZero r (itemKey i) || decide (r.acc = .ro) then .refused .range .access
    else if !draft && decide (r.acc = .rwd) then .refused .range .draftOnly
    else if i.ty ≠ tyCode r.ty then .refused .range .type
    else if r.ty = .blob then judgeBlob r i.val
    else if r.ty = .str then judgeStr r i.val
    else if i.val.length ≠ tySize r.ty then .refused .range .type
    else judgeNum r (leNat i.val)

/-! ## Rules across fields (R84): each gives the entries involved where it fails -/

/-- Store a value. -/
def storeVal (s : State) (e : Nat × OdVal) : State :=
  match e.2 with
  | .num n => odSet s e.1 n
  | .bytes b => blobSet s e.1 b

/-- A WO entry holds nothing (R52). -/
def holdsValue (key : Nat) : Bool := match odRow key with | some r => decide (r.acc ≠ .wo) | none => false

/-- Staged values in place of the values in force. -/
def withStaged (s : State) (l : List (Nat × OdVal)) : State := (l.filter (fun e => holdsValue e.1)).foldl storeVal s

/-- Numbers other than 0 of a table of 4,096 entries: number of the entry and value. -/
def tableNums (s : State) (base : Nat) : List (Nat × Nat) :=
  s.od.filterMap (fun e => if base * 256 ≤ e.1 ∧ e.1 < (base + 16) * 256 ∧ e.2 ≠ 0 then some (e.1 - base * 256, e.2) else none)

/-- A span: group, start, end, and the entries it stands for. -/
abbrev Span := Nat × Nat × Nat × List Nat

/-- Entries of the spans that overlap another one of their group. -/
def overlapping (l : List Span) : List Nat :=
  let n := l.zip (List.range l.length)
  ((n.filter (fun a => n.any (fun b => decide (a.2 ≠ b.2) && decide (a.1.1 = b.1.1) &&
    decide (max a.1.2.1 b.1.2.1 < min a.1.2.2.1 b.1.2.2.1)))).map (fun a => a.1.2.2.2)).flatten

/-- Layer-window slots fit the placed region; sequence slots sum to at most 4,096 (R193). -/
def ruleNib (t : State) : List Nat :=
  (if odGet t (odKey 0x2200 1) * odGet t (odKey 0x2200 2) ≤ odGet t (odKey 0x3000 1) * 1024 then []
   else [odKey 0x2200 1, odKey 0x2200 2, odKey 0x3000 1]) ++
  (let l := tableNums t 0x2210
   if (l.map (·.2)).sum ≤ 4096 then [] else l.map (fun e => odCtx 0x2210 e.1))

/-- The dirty cap lies within the cache region, and the placed region holds every allocated frame (R201, R236). -/
def ruleTiers (t : State) : List Nat :=
  (if odGet t (odKey 0x3001 1) ≤ 384 - odGet t (odKey 0x3000 1) then [] else [odKey 0x3000 1, odKey 0x3001 1]) ++
  (if placedEnd t ≤ odGet t (odKey 0x3000 1) * 1024 then [] else [odKey 0x3000 1, odKey 0x3004 5])

/-- A fault queue lies 128 KiB aligned in a pinned T1 placed range of its resolver (R272). -/
def faultQueueOk (t : State) (c cva : Nat) : Bool :=
  decide (cva % 131072 = 0) && pinnedOk t c cva 131072 .write &&
    (piecesOf (rangeTable t c) (cva / 4096) 32).all (fun e => decide (tierOfPage e.base = 1))

/-- Every group with a resolver names such a queue (R283). -/
def ruleFaults (t : State) : List Nat :=
  ((List.range 64).map (fun g =>
    let c := odGet t (odKey 0x4100 g)
    if c = 0 ∨ faultQueueOk t c (odGet t (odKey 0x4101 g)) = true then [] else [odKey 0x4100 g, odKey 0x4101 g])).flatten

/-- Mordant ranges end at 0xFF00 and do not overlap (R350). -/
def ruleMordants (t : State) : List Nat :=
  let cs := ((tableNums t 0x5010).map (·.1) ++ (tableNums t 0x5020).map (·.1)).foldl addOnce []
  let spans : List Span := cs.map (fun c =>
    (0, odGet t (odCtx 0x5010 c), odGet t (odCtx 0x5010 c) + odGet t (odCtx 0x5020 c), [odCtx 0x5010 c, odCtx 0x5020 c]))
  ((spans.filter (fun x => decide (0xFF00 < x.2.2.1))).map (fun x => x.2.2.2)).flatten ++ overlapping spans

/-- Expected neighbours: KIND 2 on fabric ports (R462), KIND 3 on Urzen ports (R486). -/
def ruleKinds (t : State) : List Nat :=
  ((List.range 16).filter (fun p => odGet t (odKey 0x6100 p) != 0 && field (odGet t (odKey 0x6100 p)) 56 4 != 2)).map (odKey 0x6100) ++
  ((List.range 8).filter (fun p => odGet t (odKey 0x7100 p) != 0 && field (odGet t (odKey 0x7100 p)) 56 4 != 3)).map (odKey 0x7100)

/-- Host windows by HWID. -/
def hostWinRows (t : State) : List (Nat × HostWin) :=
  ((blobRows t 0x7400).map (fun r => (r.1, hostWin r.2))).filter (fun w => decide (w.2.pages ≠ 0))

/-- A host window's PORT lies in its context's port mask, and the windows of one port do not overlap (R486). -/
def ruleHostWindows (t : State) : List Nat :=
  (((hostWinRows t).filter (fun w => decide (w.2.ctx = 0) || !(ctxMask t w.2.ctx).testBit w.2.port)).map (fun w =>
    odCtx 0x7400 w.1 :: (if w.2.ctx = 0 then [] else [odCtx 0x7200 w.2.ctx]))).flatten ++
  overlapping ((hostWinRows t).map (fun w => (w.2.port, w.2.hbase, w.2.hbase + w.2.pages * 4096, [odCtx 0x7400 w.1])))

/-- Extents of one port do not overlap, and one with frames allocated is written with its bytes unchanged (R486). -/
def ruleExtents (s t : State) : List Nat :=
  overlapping ((extents t).map (fun e => (e.2.2.2, e.2.1, e.2.1 + e.2.2.1, [odKey 0x7300 e.1]))) ++
  ((extents s).filter (fun e => decide (blobGet s (odKey 0x7300 e.1) ≠ blobGet t (odKey 0x7300 e.1)) && decide (t3Runs s e.1 ≠ []))).map
    (fun e => odKey 0x7300 e.1)

/-- Record n of a context's queue records (R147, R493), all zero where there is none. -/
def queueRecord (s : State) (c n : Nat) : Nat := leAt (blobGet s (odCtx 0x9200 c)) (32 * n) 32

/-- The fields of a record that an enabled queue keeps: KIND, LOG2SLOTS, RING_BASE, COMPL_BASE. -/
def recordShape (r : Nat) : Nat × Nat × Nat × Nat := (field r 0 8, field r 16 5, field r 64 64, field r 128 64)

/-- A queue that is enabled before and after keeps its shape (R519). -/
def ruleQueues (s t : State) : List Nat :=
  ((blobRows t 0x9200).filter (fun e => (List.range 16).any (fun n =>
    bitOf (queueRecord s e.1 n) 8 && bitOf (queueRecord t e.1 n) 8 &&
      decide (recordShape (queueRecord s e.1 n) ≠ recordShape (queueRecord t e.1 n))))).map (fun e => odCtx 0x9200 e.1)

/-- An entry of a rebind record (R608). -/
structure Rebind where
  kind   : Nat
  wid    : Nat
  tepoch : Nat
  tnode  : Nat
  twid   : Nat
  tpage  : Nat
  deriving DecidableEq, Repr

/-- The entries of a rebind record that are not ignored. -/
def rebinds (b : Bytes) : List Rebind :=
  ((List.range (b.length / 16)).map (fun i =>
    let n := leAt b (16 * i) 16
    (⟨field n 0 2, field n 2 12, field n 32 32, field n 64 12, field n 76 12, field n 88 40⟩ : Rebind))).filter (fun r => decide (r.kind ≠ 0))

/-- A rebind entry may be inked (R608). -/
def rebindOk (t : State) (c : Nat) (r : Rebind) : Bool :=
  decide (r.kind = 1) && inGroup t r.tnode &&
    (match fabWinAt t r.wid with
     | some w => decide (w.role = 2) && decide (w.ctx = c)
     | none => false)

/-- Rebind records name imports of their context, each once, in the group; a context with T3 frames keeps its host port (R608). -/
def ruleRebinds (s t : State) : List Nat :=
  ((blobRows t 0xC200).filter (fun e =>
    let l := rebinds e.2
    !l.all (rebindOk t e.1) || decide ((l.map (·.wid)).dedup.length ≠ l.length))).map (fun e => odCtx 0xC200 e.1) ++
  (((tableNums s 0x7200).map (·.1) ++ (tableNums t 0x7200).map (·.1)).foldl addOnce []).filterMap (fun c =>
    if ctxHostPort s c ≠ ctxHostPort t c ∧ t3Of s c ≠ 0 then some (odCtx 0x7200 c) else none)

/-- Every writable entry that differs from its default, with its default (R55). -/
def defaultsOf (s : State) : List (Nat × OdVal) :=
  let writable (key : Nat) : Bool := match odRow key with | some r => decide (r.acc = .rw) || decide (r.acc = .rwd) | none => false
  let dflt (key : Nat) : Bytes := match odRow key with | some r => r.dbytes | none => []
  ((s.od.filter (fun e => writable e.1 && decide (e.2 ≠ odDefault e.1))).map (fun e => (e.1, OdVal.num (odDefault e.1)))) ++
    ((s.blobs.filter (fun e => writable e.1 && decide (e.2 ≠ dflt e.1))).map (fun e => (e.1, OdVal.bytes (dflt e.1))))

/-- The restoring of defaults is asked for among some values. -/
def asksRestore (l : List (Nat × OdVal)) : Bool := l.any (fun e => decide (e.1 = odKey 0xE000 5) && decide (e.2 = .num 1))

/-- What some values bring into force: with the defaults, where they ask for them (R55, R85). -/
def inkList (s : State) (l : List (Nat × OdVal)) : List (Nat × OdVal) :=
  if asksRestore l then l ++ defaultsOf (withStaged s l) else l

/-- CHECK of some staged values against the values in force: the entries of every rule that fails (R84). -/
def crossFields (s : State) (l : List (Nat × OdVal)) : List Nat :=
  let t := withStaged s (inkList s l)
  (ruleNib t ++ ruleTiers t ++ ruleFaults t ++ ruleMordants t ++ ruleKinds t ++ ruleHostWindows t ++ ruleExtents s t ++ ruleQueues s t ++
    ruleRebinds s t).foldl addOnce []

end Sys2Proof.Machine
end

