-- ==== Sys2Proof/Machine/Effects.lean ====
section
/-! DEFINITION. What a value applied to the dictionary does: its effect on the unit it belongs to (R52, R89), an ink at one instant (R85,
R88), and compositions from their step 3 (R611). -/

namespace Sys2Proof.Machine

/-! ## Effects of single entries -/

/-- The boundary of T1 moves (R202): growing leaves frames to be drained, shrinking frees them for the cache at once. -/
def boundaryMoved (s : State) : State :=
  notePool { s with mem.draining := drainLeft s } 1 false

/-- An extent has been written (R483): bound to the expected adapter of its port while none of its frames is allocated. -/
def extentWritten (s : State) (sub : Nat) : State :=
  let b := blobGet s (odKey 0x7300 sub)
  let s :=
    if t3Runs s sub ≠ [] then s
    else if b = [] then { s with fab.bindings := tblErase s.fab.bindings sub }
    else { s with fab.bindings := tblSet s.fab.bindings sub (odGet s (odKey 0x7100 (extentOf b).2.2)) }
  notePool s 3 false

/-- Every host access that the old window permitted is still permitted by the new one. -/
def windowKept (a b : HostWin) : Bool :=
  decide (a.hbase = b.hbase) && decide (a.ctx = b.ctx) && decide (a.port = b.port) && decide (a.cva = b.cva) && decide (a.pages ≤ b.pages) &&
    (!a.cached || b.cached) && (!a.rd || b.rd) && (!a.wr || b.wr) && (!a.at_ || b.at_)

/-- A host window has been written: one that is narrowed, cleared or retargeted is a withdrawal of its context (R475). -/
def windowChanged (old s : State) (hwid : Nat) : State :=
  let a := hostWin (blobGet old (odCtx 0x7400 hwid))
  let b := hostWin (blobGet s (odCtx 0x7400 hwid))
  if a.pages = 0 ∨ windowKept a b = true then s else windowWithdrawal s a.ctx (a.cva / 4096) a.pages

/-- A queue's ENABLE goes from 0 to 1 (R493, R536). -/
def enableQueue (s : State) (c n r : Nat) : State :=
  let log2 := field r 16 5
  let ring := field r 64 64
  let compl := field r 128 64
  let ok := decide (1 ≤ field r 0 8) && decide (field r 0 8 ≤ 7) && decide (6 ≤ log2) && decide (log2 ≤ 16) && decide (ring % 64 = 0) &&
    decide (compl % 32 = 0) && pinnedOk s c ring (64 * 2 ^ log2) .read && pinnedOk s c compl (32 * 2 ^ log2) .write
  match ok, assignScribe s c n with
  | true, some p => setQueue s c n ⟨field r 0 8, true, log2, ring, compl, 0, 0, 0, [], .unasked, [], p, none, none, none⟩
  | _, _ => logEv s "QUEUE_BAD" [c, n]

/-- A queue's ENABLE goes from 1 to 0: it dispatches nothing more. -/
def disableQueue (s : State) (c n : Nat) : State :=
  match queueOf s c n with
  | some x => setQueue (endWait s c n x) c n { x with enabled := false, wait := .unasked }
  | none => s

/-- The queue records of a context have been written (R493). -/
def recordsChanged (old s : State) (c : Nat) : State :=
  (List.range 16).foldl (fun s n =>
    let a := queueRecord old c n
    let b := queueRecord s c n
    if !bitOf a 8 && bitOf b 8 then enableQueue s c n b
    else if bitOf a 8 && !bitOf b 8 then disableQueue s c n
    else s) s

/-- A slot command (R412): 1 PREPARE_EJECT, 2 ACCEPT_FOREIGN, 3 RETIRE, 4 CANCEL. -/
def slotCommand (s : State) (n k : Nat) : State :=
  if k = 1 then prepareEject s n else if k = 2 then acceptForeign s n else if k = 3 then retireSlot s n else cancelSlot s n

/-- OD 0xD001.01 is AUTO again: loops that stood in for MANUAL end (R541). -/
def governorsBack (s : State) : State :=
  (List.range 40).foldl (fun s d => if loopState s d = 2 then odSet s (odKey 0xA301 d) 0 else s) s

/-- An entry of the range 0xA000 has been written (R533, R534, R543, R550). Whether a restarted processor reaches step 6 is a free
value. An image chunk that an ink applies is stored whatever the program buffer holds (log entry 97). -/
def firmwareWritten (old s : State) (idx sub n : Nat) (b : Bytes) : State :=
  if idx = 0xA000 then
    (if sub = 1 then writePref s n else if sub = 4 ∧ n = 1 then commitSecurity s else s)
  else if idx = 0xA110 then
    let (d, s) := draw s
    operatorRestart s sub (d.testBit 0)
  else if idx = 0xA200 then
    (if sub = 1 then setTarget (odSet s (odKey 0xA200 1) (imageTarget old)) n
     else if sub = 2 then (if n = 1 then eraseSlot s else verifySlot s)
     else chunkStored s b)
  else if idx = 0xA210 then liveUpdate s n
  else s

/-- An entry of the range 0xB000 has been written (R565, R576, R577). -/
def bringUpWritten (s : State) (sub n : Nat) : State :=
  if sub = 2 then (if n = 1 then { s with boot.clearMarks := true } else s)
  else if sub = 3 then failNamed s n
  else if sub = 5 ∨ sub = 6 then settleTopology s
  else s

/-- The effect of one applied value. -/
def effectOf (src : Src) (old s : State) (e : Nat × OdVal) : State :=
  let idx := e.1 / 256
  let sub := e.1 % 256
  let c := idx % 16 * 256 + sub
  let n := match e.2 with | .num n => n | .bytes _ => 0
  let b := match e.2 with | .num _ => [] | .bytes b => b
  match idx / 16 with
  | 0x310 => settleQuota s c
  | 0x311 => settleQuota s c
  | 0x312 => settleQuota s c
  | 0x313 => settleQuota s c
  | 0x740 => windowChanged old s c
  | 0x911 => contextCommand s c n
  | 0x920 => recordsChanged old s c
  | 0xA00 => firmwareWritten old s idx sub n b
  | 0xA11 => firmwareWritten old s idx sub n b
  | 0xA20 => firmwareWritten old s idx sub n b
  | 0xA21 => firmwareWritten old s idx sub n b
  | 0xC11 => shadowCommand s c n
  | _ =>
    if idx = 0x3000 then boundaryMoved s
    else if idx = 0x3003 then notePool s sub false
    else if idx = 0x3006 then (if n = 1 then powerOffStop s else s)
    else if idx = 0x6100 then expectedChanged s sub
    else if idx = 0x7100 then expectedChanged s (16 + sub)
    else if idx = 0x7300 then extentWritten s sub
    else if idx = 0x8002 then slotCommand s sub n
    else if idx = 0x9300 then spdmRequest s src b
    else if idx = 0xB001 then bringUpWritten s sub n
    else if idx = 0xD001 ∧ sub = 1 ∧ n = 0 then governorsBack s
    else s

/-! ## Effects of an ink as a whole -/

/-- The context that owns a mordant by the entries OD 0x5010 and 0x5020. -/
def mordOwner (s : State) (m : Nat) : Option Nat := ((tableNums s 0x5020).find? (fun e => mordOwned s e.1 m)).map (·.1)

/-- Mordants have been assigned or removed (R338): one that a context gains begins at zero, and a descriptor that waits on one its
context has lost completes with RANGE when its queue is taken up. -/
def mordantsMoved (old s : State) : State :=
  pollAll { s with q.mordants := s.q.mordants.filter (fun e => decide ((mordOwner s e.1).isNone) || decide (mordOwner old e.1 = mordOwner s e.1)) }

/-- Indexes whose values measurement 8 covers (R512). -/
def measured (key : Nat) : Bool :=
  let idx := key / 256
  decide (idx = 0x6100) || decide (idx = 0x7100) || decide (idx / 16 = 0x720) || decide (idx / 16 = 0x740)

/-- A key's value differs between two states. -/
def differs (old s : State) (key : Nat) : Bool := odGet old key != odGet s key || decide (blobGet old key ≠ blobGet s key)

/-- The contexts whose composition an ink carries (R611): those with a rebind entry, and those whose host port changes. -/
def composed (old s : State) (l : List (Nat × OdVal)) : List Nat :=
  (l.filterMap (fun e =>
    let r := e.1 - 0xC20000
    let h := e.1 - 0x720000
    if e.1 / 4096 = 0xC20 ∧ rebinds (blobGet s e.1) ≠ [] then some r
    else if e.1 / 4096 = 0x720 ∧ ctxHostPort old h ≠ ctxHostPort s h then some h
    else none)).foldl addOnce []

/-- Step 3 of a composition: its requests go to the new targets from here, and new ones into the rebound spans are held (R609, R611). -/
def beginComposition (old : State) (l : List (Nat × OdVal)) (since : Nat) (s : State) (c : Nat) : State :=
  let rs := if l.any (fun e => decide (e.1 = odCtx 0xC200 c)) then rebinds (blobGet s (odCtx 0xC200 c)) else []
  let goes : Tbl ImportTarget := rs.foldl (fun t r => tblSet t r.wid ⟨r.tnode, r.twid, r.tpage, r.tepoch⟩) s.step.targets
  { s with step.targets := goes,
           step.compositions := s.step.compositions ++
             [⟨c, since, rs.map (·.wid), decide (ctxHostPort old c ≠ ctxHostPort s c), ctxHostPort old c⟩] }

/-- The generation rises by one (R88). -/
def bumpGeneration (s : State) : State := odSet s (odKey 0xE000 1) ((generation s + 1) % 2 ^ 32)

/-- Generations that some work still carries (R87, R89): descriptors behind a doorbell or dispatched, streams, layer windows, requests at
their homes or waiting for a range walk, and requests to peers. -/
def carried (s : State) : List Nat :=
  (s.q.queues.map (fun e => (e.2.stamps.filter (fun p => ahead p.1 e.2.disp)).map (·.2))).flatten ++ s.q.jobs.map (·.gen) ++
    (s.feed.streams.filter (fun e => !e.2.done)).map (·.2.gen) ++ s.q.windows.map (·.2.gen) ++ s.coh.busy.map (·.2.gen) ++
    s.coh.tickets.filterMap (fun k => k.waiting.map (·.gen)) ++
    s.xlat.walks.filterMap (fun w => match w.waiter with | .request t _ => some t.gen | .stream _ => none) ++ s.fab.peers.map (·.2.gen)

/-- The old numbers stay beside the new ones while work carries their generation (R89). -/
def keepBefore (old s : State) (l : List (Nat × OdVal)) : State :=
  let keys := ((l.map (·.1)).filter (fun k => decide (tblFind old.od k ≠ tblFind s.od k))) ++ [odKey 0xE000 1]
  let all := s.dict.before ++ [(genNow old, keys.foldl (fun t k => tblSet t k (tblFind old.od k)) [])]
  { s with dict.before := all.dropWhile (fun b => !(carried s).contains b.1) }

/-- The generation rises by one, and no number with it. -/
def nextGeneration (s : State) : State := bumpGeneration (keepBefore s s [])

/-- Values come into force at one instant, under a generation higher by one (R85, R88, R89), and their effects follow; persistent ones are
to be saved (R54). -/
def applyValues (src : Src) (since : Nat) (old : State) (l : List (Nat × OdVal)) : State :=
  let s := bumpGeneration (keepBefore old (withStaged old l) l)
  let keep := (l.filter (fun e => match odRow e.1 with | some r => r.persist | none => false)).map (·.1)
  let s := { s with dict.unsaved := keep.foldl addOnce s.dict.unsaved }
  let s := (composed old s l).foldl (beginComposition old l since) s
  let s := l.foldl (effectOf src old) s
  let s := if l.any (fun e => decide (e.1 / 4096 = 0x501) || decide (e.1 / 4096 = 0x502)) then mordantsMoved old s else s
  if l.any (fun e => measured e.1 && differs old s e.1) then extendMeas s 8 5 0xFFFF 0 (topologyDigest s) else s

/-- The configuration area is cleared (R55). -/
def clearConfig (s : State) : State := { s with fw.config := configCleared s.fw.config, dict.unsaved := [] }

/-- One ink: the values at one instant, and where they ask for it every default, with the configuration area cleared (R55, R85). -/
def inkValues (src : Src) (since : Nat) (s : State) (l : List (Nat × OdVal)) : State :=
  let t := applyValues src since s (inkList s l)
  composeQuiet (if asksRestore l then clearConfig t else t)

end Sys2Proof.Machine
end

