-- ==== Sys2Proof/Machine/Dictionary.lean ====
section
/-! DEFINITION. The operations of the dictionary (R48-R93): requests of stations and windows, reads, writes, drafts, inks, notifications and
the field network. -/

namespace Sys2Proof.Machine

/-! ## Items and their answers -/

/-- Items count in OD 0xF001.02 and .03: stored with CLAMPED, and refused other than with BUSY (R652). -/
def countItems (s : State) (l : List VItem) : State :=
  odBump (odBump s (odKey 0xF001 2) (l.filter (fun i => decide (i.st = .clamped))).length) (odKey 0xF001 3)
    (l.filter (fun i => decide (0x10 ≤ statusCode i.st) && decide (i.rsn ≠ .busy))).length

/-- Answer with items, and count them. -/
def answerCounted (s : State) (o : DictOp) (l : List VItem) : State := answerItems (countItems s l) o l

/-- The answer to an item of a READ (R650). -/
def readItem (s : State) (src : Src) (i : VItem) : VItem :=
  match servedRow s (itemKey i) with
  | some r => { i with ty := tyCode r.ty, val := valBytes r (odRead s src r (itemKey i)) }
  | none => { i with val := [], st := .range, rsn := .noEntry }

/-- The description of an entry (R67). -/
def describeRow (r : OdRow) : Bytes :=
  natLe 1 (tyCode r.ty) ++ natLe 1 (accCode r.acc) ++ natLe 1 (if r.persist then 1 else 0) ++ natLe 1 0 ++
    natLe 4 (if tySize r.ty = 0 then maxLen r else 0) ++ natLe 8 0

/-- The answer to an item of a DESCRIBE (R67). -/
def describeItem (s : State) (i : VItem) : VItem :=
  match servedRow s (itemKey i) with
  | some r => { i with ty := 9, val := describeRow r }
  | none => { i with val := [], st := .range, rsn := .noEntry }

/-- Answers in order while they fit in 1,440 bytes with 8 bytes for each later item; from the first that does not, NO_ROOM (R651). -/
def fitItems (answer : VItem → VItem) : (size : Nat) → List VItem → List VItem
  | _, [] => []
  | size, i :: t =>
    let a := answer i
    let n := 8 + roundUp a.val.length 4
    if size + n + 8 * t.length ≤ 1440 then a :: fitItems answer (size + n) t
    else (i :: t).map (fun i => { answer i with val := [], st := .range, rsn := .noRoom })

/-- The type that a written item's answer carries (R650). -/
def answerType (s : State) (i : VItem) : Nat := match servedRow s (itemKey i) with | some r => tyCode r.ty | none => i.ty

/-- The answer to an item that was refused. -/
def refusedItem (s : State) (i : VItem) (st : Status) (rsn : Reason) : VItem := { i with ty := answerType s i, val := [], st := st, rsn := rsn }

/-- The answer to an item whose value was stored or staged. -/
def storedItem (s : State) (i : VItem) (v : OdVal) (st : Status) : VItem :=
  match servedRow s (itemKey i) with
  | some r => { i with ty := tyCode r.ty, val := valBytes r v, st := st }
  | none => i

/-- One item of a WRITE: a one-entry ink of its own (R69). An image chunk that finds the buffer full is answered BUSY (R535). -/
def writeItem (o : DictOp) (s : State) (i : VItem) : VItem × State :=
  match judge s false i with
  | .refused st rsn => (refusedItem s i st rsn, s)
  | .stored v st =>
    if itemKey i = odKey 0xA200 3 then
      let r := writeChunk s i.val
      if r.1 then (storedItem s i v st, nextGeneration r.2) else (refusedItem s i .throttled .busy, r.2)
    else (storedItem s i v st, inkValues o.src o.since s [(itemKey i, v)])

/-- The items of a WRITE in order (R69). -/
def writeItems (o : DictOp) (s : State) : List VItem → List VItem × State
  | [] => ([], s)
  | i :: t =>
    let (a, s) := writeItem o s i
    let (l, s) := writeItems o s t
    (a :: l, s)

/-! ## Drafts (R80-R83) -/

/-- The draft of a request: bound to its source (R81). -/
def draftOf (s : State) (o : DictOp) : Option Draft :=
  s.dict.drafts.find? (fun d => decide (d.handle = o.req.draft.toNat) && decide (d.src = o.src))

/-- Put back a draft, its idle time begun anew (R83). -/
def setDraft (s : State) (d : Draft) : State :=
  { s with dict.drafts := mapWhere (fun x => decide (x.handle = d.handle)) (fun _ => { d with lastOp := s.now }) s.dict.drafts }

/-- A draft is closed. -/
def closeDraft (s : State) (handle : Nat) : State := { s with dict.drafts := s.dict.drafts.filter (fun d => decide (d.handle ≠ handle)) }

/-- A new handle: nonzero, not in use, otherwise free. -/
def newHandle (s : State) (n : Nat) : Nat :=
  (((List.range 9).map (fun i => 1 + (n + i) % 65535)).find? (fun h => s.dict.drafts.all (fun d => decide (d.handle ≠ h)))).getD 1

/-- DRAFT_OPEN (R80, R92). -/
def openDraft (s : State) (o : DictOp) : State :=
  if 8 ≤ s.dict.drafts.length then refuseOp s o .throttled .busy
  else
    let (n, s) := draw s
    let h := newHandle s n
    let k := (s.dict.openCounter + 1) % 65536
    answerOp { s with dict.drafts := s.dict.drafts ++ [⟨h, k, o.src, [], s.now⟩], dict.openCounter := k } o h .ok .none []

/-- Stage a value: a second write of an entry takes the place of the first (R82). -/
def stageValue (l : List (Nat × OdVal)) (e : Nat × OdVal) : List (Nat × OdVal) :=
  if l.any (fun x => decide (x.1 = e.1)) then mapWhere (fun x => decide (x.1 = e.1)) (fun _ => e) l else l ++ [e]

/-- One item of a DRAFT_WRITE (R80, R82). -/
def stageItem (s : State) (d : Draft) (i : VItem) : VItem × Draft :=
  match judge s true i with
  | .refused st rsn => (refusedItem s i st rsn, d)
  | .stored v st =>
    if 256 ≤ d.staged.length ∧ d.staged.all (fun x => decide (x.1 ≠ itemKey i)) = true then (refusedItem s i .range .draftFull, d)
    else (storedItem s i v st, { d with staged := stageValue d.staged (itemKey i, v) })

/-- The items of a DRAFT_WRITE in order. -/
def stageItems (s : State) : Draft → List VItem → List VItem × Draft
  | d, [] => ([], d)
  | d, i :: t =>
    let (a, d) := stageItem s d i
    let (l, d) := stageItems s d t
    (a :: l, d)

/-- The items that name the entries of failed rules, as many as fit (R84). -/
def crossItems (l : List Nat) : List VItem :=
  (l.take 178).map (fun k => ⟨k / 256, k % 256, (match odRow k with | some r => tyCode r.ty | none => 0), [], .range, .crossField⟩)

/-- CHECK, and an INK that its repeated CHECK refuses (R84, R85). -/
def answerCheck (s : State) (o : DictOp) (bad : List Nat) : State := answerCounted s o (crossItems bad)

/-- A staged value as DRAFT_READ returns it. -/
def stagedItem (e : Nat × OdVal) : VItem :=
  match odRow e.1 with
  | some r => ⟨e.1 / 256, e.1 % 256, tyCode r.ty, valBytes r e.2, .ok, .none⟩
  | none => ⟨e.1 / 256, e.1 % 256, 0, [], .ok, .none⟩

/-- As many whole items as fit (R651). -/
def takeFitting : (size : Nat) → List VItem → List VItem
  | _, [] => []
  | size, i :: t =>
    let n := 8 + roundUp i.val.length 4
    if size + n ≤ 1440 then i :: takeFitting (size + n) t else []

/-- DRAFT_READ (R651). -/
def answerDraft (s : State) (o : DictOp) (d : Draft) : State :=
  let rest := d.staged.drop o.req.start.toNat
  let l := takeFitting 16 (rest.map stagedItem)
  answerOp s o o.req.draft.toNat (if l.length < rest.length then .short else .ok) .none l

/-! ## Operations -/

/-- The items of a well-formed request of an operation that the device serves, none where it is malformed (R649). DESIGN CHOICE (log entry
93): a request whose OP is none of R66's operations of a station is malformed. -/
def opItems (o : DictOp) : Option (List VItem) :=
  if o.req.ver.toNat ≠ 1 ∨ ¬ [1, 2, 3, 4, 5, 6, 7, 8, 0x20].contains o.op then none
  else
    match parseItems o.req.count.toNat o.req.body with
    | none => none
    | some l =>
      if [3, 5, 6, 7, 8].contains o.op && decide (o.req.count.toNat ≠ 0) then none
      else if (decide (o.op = 1) || decide (o.op = 0x20)) && l.any (fun i => decide (i.val ≠ [])) then none
      else some l

/-- An operation on a draft. -/
def runDraft (s : State) (o : DictOp) (l : List VItem) : State :=
  match draftOf s o with
  | none => refuseOp s o .range .noDraft
  | some d =>
    let s := setDraft s d
    if o.op = 4 then
      let (a, d) := stageItems s d l
      answerCounted (setDraft s d) o a
    else if o.op = 5 then answerCheck s o (crossFields s d.staged)
    else if o.op = 6 then
      let bad := crossFields s d.staged
      if bad ≠ [] then answerCheck s o bad else { s with dict.ink := some o, dict.inkDone := false }
    else if o.op = 7 then answerOp (closeDraft s d.handle) o o.req.draft.toNat .ok .none []
    else answerDraft s o d

/-- The OP of a RESTORE_DEFAULTS that no request carries (R55), and what is added to the OP of a window's request whose LENGTH is outside
16 to 1,440. -/
def opRestore : Nat := 0x100

/-- See `opRestore`. -/
def opBadLength : Nat := 0x200

/-- A window's GO with a LENGTH outside 16 to 1,440 is answered as malformed, with the VER, OP and SEQ of the buffer (R77). -/
def answerBadLength (s : State) (o : DictOp) : State :=
  let b := vervoResponse o.op o.req.seq.toNat (generation s) 0 .range .frame []
  sendResponse (odBump s (odKey 0xF001 3) 1) o.src o.req.seq.toNat false (natLe 1 o.req.ver.toNat ++ b.drop 1)

/-- The management core takes a request (R66, R78). -/
def runRequest (s : State) (o : DictOp) : State :=
  match opItems o with
  | none => refuseOp s o .range .frame
  | some l =>
    if o.op = 1 then answerCounted s o (fitItems (readItem s o.src) 16 l)
    else if o.op = 2 then
      let (a, s) := writeItems o s l
      answerCounted s o a
    else if o.op = 3 then openDraft s o
    else if o.op = 0x20 then answerCounted s o (fitItems (describeItem s) 16 l)
    else runDraft s o l

/-- The management core takes an operation (R78). -/
def runOp (s : State) (o : DictOp) : State :=
  if o.op = opRestore then inkValues o.src o.since s [(odKey 0xE000 5, .num 1)]
  else if opBadLength ≤ o.op then answerBadLength s o
  else runRequest s o

/-- Operations that wait are taken until one of them is an INK that is carried out (R78). -/
def drainOps : (fuel : Nat) → State → State
  | 0, s => s
  | fuel + 1, s =>
    if s.dict.ink.isSome then s
    else
      match s.dict.waiting with
      | [] => s
      | o :: t => drainOps fuel (runOp { s with dict.waiting := t } o)

/-- Take every operation that may be taken. -/
def takeOps (s : State) : State := drainOps (s.dict.waiting.length + 1) s

/-- An operation arrives; it is taken when those before it have been answered (R78). -/
def submitOp (s : State) (src : Src) (op : Nat) (r : VReq) : State :=
  takeOps { s with dict.waiting := s.dict.waiting ++ [⟨src, op, r, s.now⟩] }

/-! ## Requests of stations (R61, R62, R71-R73) -/

/-- An IPv6 address is link-local (fe80::/10). -/
def linkLocal (a : Ip6) : Bool := decide (a.toNat / 2 ^ 118 = 0x3FA)

/-- The device takes a Vervo datagram (R61, R62). -/
def datagramOk (s : State) (st : Station) : Bool :=
  dictUp s && linkLocal st.addr && decide (st.hop.toNat = 255) && decide (st.port.toNat = vervoPort) && st.sumOk

/-- The device's part in the access to the segment (R61): coordinator of PLCA, follower, or contention under CSMA/CD. -/
inductive MediaRole where
  | coordinator | follower | contention
  deriving DecidableEq, Repr

/-- The part that OD 0x1010 gives the device: coordinator only with node ID 0. -/
def mediaRole (s : State) : MediaRole :=
  if odGet s (odKey 0x1010 1) = 0 then .contention else if odGet s (odKey 0x1010 2) = 0 then .coordinator else .follower

/-- Requests of a source that were accepted within the last second (R73). -/
def acceptedBy (s : State) (a : Ip6) : Nat := (s.dict.accepted.filter (fun e => decide (e.1 = a) && decide (s.now < e.2 + 1000000000))).length

/-- A request of this source and SEQ is being carried out or waits (R71). -/
def inProgress (s : State) (a : Ip6) (seq : Nat) : Bool :=
  (s.dict.ink.toList ++ s.dict.waiting).any (fun o => decide (o.src = .station a) && decide (o.req.seq.toNat = seq))

/-- The response kept for a source and SEQ (R71). -/
def keptFor (s : State) (a : Ip6) (seq : Nat) : Option Bytes :=
  (s.dict.kept.find? (fun k => decide (k.1 = a) && decide (k.2.1 = seq))).map (·.2.2)

/-- A request of a station arrives. -/
def stationOp (op : Nat) (st : Station) (r : VReq) (s : State) : State :=
  if !datagramOk s st then s
  else
    let s := odBump s (odKey 0xF001 1) 1
    let seq := r.seq.toNat
    if inProgress s st.addr seq then s
    else if 32 ≤ acceptedBy s st.addr then
      sendResponse s (.station st.addr) seq false
        (vervoResponse op seq (generation s) r.draft.toNat .throttled .busy [])
    else
      let recent := s.dict.accepted.filter (fun e => decide (s.now < e.2 + 1000000000))
      let s := { s with dict.accepted := recent ++ [(st.addr, s.now)] }
      match keptFor s st.addr seq with
      | some b => emit s (datagram st.addr b)
      | none => submitOp s (.station st.addr) op r

/-- READ (R66, R651). -/
def execRead (st : Station) (r : VReq) (s : State) : Host.Outcome State Fault Refusal := effectOn s (stationOp 0x01 st r s)

/-- WRITE (R66, R69). -/
def execWrite (st : Station) (r : VReq) (s : State) : Host.Outcome State Fault Refusal := effectOn s (stationOp 0x02 st r s)

/-- DRAFT_OPEN (R80). -/
def execDraftOpen (st : Station) (r : VReq) (s : State) : Host.Outcome State Fault Refusal := effectOn s (stationOp 0x03 st r s)

/-- DRAFT_WRITE (R82). -/
def execDraftWrite (st : Station) (r : VReq) (s : State) : Host.Outcome State Fault Refusal := effectOn s (stationOp 0x04 st r s)

/-- CHECK (R84). -/
def execCheck (st : Station) (r : VReq) (s : State) : Host.Outcome State Fault Refusal := effectOn s (stationOp 0x05 st r s)

/-- INK (R85, R90). -/
def execInk (st : Station) (r : VReq) (s : State) : Host.Outcome State Fault Refusal := effectOn s (stationOp 0x06 st r s)

/-- DISCARD (R66). -/
def execDiscard (st : Station) (r : VReq) (s : State) : Host.Outcome State Fault Refusal := effectOn s (stationOp 0x07 st r s)

/-- DRAFT_READ (R651). -/
def execDraftRead (st : Station) (r : VReq) (s : State) : Host.Outcome State Fault Refusal := effectOn s (stationOp 0x08 st r s)

/-- DESCRIBE (R67). -/
def execDescribe (st : Station) (r : VReq) (s : State) : Host.Outcome State Fault Refusal := effectOn s (stationOp 0x20 st r s)

/-! ## Inks (R85-R92) -/

/-- The ID of a draft (R92). -/
def draftId (d : Draft) : Nat := d.handle + d.openCount * 2 ^ 16

/-- Step 4 of an ink: CHECK once more, as the values in force are at that instant; the staged values apply and the draft closes (R85, R91);
the response leaves, a composition's when its last step has run (R90, R611). -/
def commitInk (s : State) (o : DictOp) : State :=
  match draftOf s o with
  | none => refuseOp { s with dict.ink := none } o .range .noDraft
  | some d =>
    let bad := crossFields s d.staged
    if bad ≠ [] then answerCheck { s with dict.ink := none } o bad
    else
    let s := odSet (closeDraft { s with dict.inkDone := true } d.handle) (odKey 0xE000 2) (draftId d)
    let s := inkValues o.src o.since s d.staged
    composeAnswer s

/-- INK_COMMIT (R91). -/
def execInkCommit (s : State) : Host.Outcome State Fault Refusal :=
  effectOn s (
    match s.dict.ink with
    | some o => if s.dict.inkDone then s else takeOps (commitInk s o)
    | none => s)

/-- INK_ABORTED (R91): nothing applies, and the draft stays open. -/
def execInkAborted (s : State) : Host.Outcome State Fault Refusal :=
  effectOn s (
    match s.dict.ink with
    | some o => if s.dict.inkDone then s else takeOps (refuseOp { s with dict.ink := none } o .throttled .inkAborted)
    | none => s)

/-- COMPOSITION_DEADLINE (R611, R612): the end of step 4 of the compositions under way. -/
def execCompositionDeadline (s : State) : Host.Outcome State Fault Refusal := effectOn s (takeOps (composeDeadline s))

/-- DRAFT_IDLE_TIMEOUT (R83): the draft is discarded, unless it is being inked. -/
def execDraftIdleTimeout (handle : BitVec 16) (s : State) : Host.Outcome State Fault Refusal :=
  effectOn s (
    let inked := match s.dict.ink with | some o => decide (o.req.draft = handle) | none => false
    if inked then s else closeDraft s handle.toNat)

/-- RESTORE_DEFAULTS (R55, R78): it takes its turn among the operations, and nobody is answered (log entry 96). -/
def execRestoreDefaults (s : State) : Host.Outcome State Fault Refusal :=
  effectOn s (if dictUp s then submitOp s (.window 0) opRestore ⟨1, 0, 0, 0, 0, []⟩ else s)

/-- CONFIG_SAVE (R54, R525): the value of a persistent entry reaches the boot flash, which holds what differs from its default. -/
def execConfigSave (index : BitVec 16) (sub : BitVec 8) (s : State) : Host.Outcome State Fault Refusal :=
  effectOn s (
    let k := odKey index.toNat sub.toNat
    if !s.dict.unsaved.contains k then s
    else { configSaved s k with dict.unsaved := s.dict.unsaved.filter (· != k) })

/-! ## Notifications and the field network (R61, R74) -/

/-- NOTIFY_REPEAT (R74): an unacknowledged notification is sent again, three times at most. -/
def execNotifyRepeat (seq : BitVec 32) (s : State) : Host.Outcome State Fault Refusal :=
  effectOn s (
    match s.dict.notifies.find? (fun n => decide (n.seq = seq.toNat)) with
    | some n =>
      let rest := if n.repeats ≤ 1 then s.dict.notifies.filter (fun x => decide (x.seq ≠ n.seq))
        else mapWhere (fun x => decide (x.seq = n.seq)) (fun x => { x with repeats := x.repeats - 1 }) s.dict.notifies
      emit { s with dict.notifies := rest } (datagram allNodes n.body)
    | none => s)

/-- NOTIFY_ACK (R74). -/
def execNotifyAck (st : Station) (r : VReq) (s : State) : Host.Outcome State Fault Refusal :=
  effectOn s (
    if datagramOk s st then { s with dict.notifies := s.dict.notifies.filter (fun n => decide (n.seq ≠ r.seq.toNat)) } else s)

/-- NEIGHBOR_DISCOVERY (R61): a solicitation for the device's own address is answered. -/
def execNeighborDiscovery (src target : Ip6) (s : State) : Host.Outcome State Fault Refusal :=
  effectOn s (if dictUp s && linkLocal src && decide (target = ownAddress) then emit s (.neighborAdvert src target) else s)

/-- ECHO (R61). -/
def execEcho (src : Ip6) (data : Bytes) (s : State) : Host.Outcome State Fault Refusal :=
  effectOn s (if dictUp s && linkLocal src then emit s (.echoReply src data) else s)

/-! ## The dictionary window (R75-R77) -/

/-- A request as it stands in a window's buffer (R64). -/
def bufferReq (b : Bytes) : VReq :=
  ⟨BitVec.ofNat 8 (leAt b 0 1), BitVec.ofNat 16 (leAt b 2 2), BitVec.ofNat 32 (leAt b 4 4), BitVec.ofNat 16 (leAt b 8 2),
    BitVec.ofNat 32 (leAt b 12 4), b.drop 16⟩

/-- A write of DW_CTRL (R76, R77): LENGTH is stored, and GO submits the request in the buffer. -/
def windowControl (s : State) (port : Fin 8) (ctrl : Nat) : State :=
  let w := windowOfPort s port.val
  let len := field ctrl 16 11
  let buf := padTo 1440 w.req
  if !bitOf ctrl 0 then setDictWindow s port.val { w with reqLen := len }
  else if w.busy then odBump s (odKey 0xF001 4) 1
  else
    let s := odBump (setDictWindow s port.val { w with reqLen := len, busy := true, done := false }) (odKey 0xF001 1) 1
    if len < 16 ∨ 1440 < len then submitOp s (.window port) (leAt buf 1 1 + opBadLength) (bufferReq buf)
    else submitOp s (.window port) (leAt buf 1 1) (bufferReq (buf.take len))

/-- GO (R76, R77). -/
def execGo (port : Fin 8) (ctrl : BitVec 32) (s : State) : Host.Outcome State Fault Refusal :=
  effectOn s (if dictUp s && decide (urzenState s port.val = 2) && decide (odGet s (odKey 0x7000 1) = 1) then windowControl s port ctrl.toNat else s)

/-- REGISTER_WRITE (R76, R478): DW_CTRL and the request buffer store what is written; every other place ignores it. -/
def execRegisterWrite (a : CwAccess) (data : Bytes) (s : State) : Host.Outcome State Fault Refusal :=
  effectOn s (
    let off := cwOff a
    let n := cwLen a
    let w := windowOfPort s a.port.val
    if !cwAdmitted s a || !cwSized a true || decide (cwPage a ≠ 0) || decide (data.length ≠ n) then s
    else if off = 0 ∧ n = 4 then (if dictUp s then windowControl s a.port (leNat data) else s)
    else if 0x100 ≤ off ∧ off + n ≤ 0x6A0 then setDictWindow s a.port.val { w with req := spliceBytes (padTo 1440 w.req) (off - 0x100) data }
    else s)

end Sys2Proof.Machine
end

