-- ==== Sys2Proof/Machine/Dispatch.lean ====
section
/-! DEFINITION. One arm per command of `Instr`: its meaning, or a refusal by name. -/

namespace Sys2Proof.Machine

def exec (i : Instr) (s : State) : Host.Outcome State Fault Refusal :=
  match i with
  | .managementTakeover => Sys2Proof.Machine.execManagementTakeover s
  | .read st r => Sys2Proof.Machine.execRead st r s
  | .write st r => Sys2Proof.Machine.execWrite st r s
  | .draftOpen st r => Sys2Proof.Machine.execDraftOpen st r s
  | .draftWrite st r => Sys2Proof.Machine.execDraftWrite st r s
  | .check st r => Sys2Proof.Machine.execCheck st r s
  | .ink st r => Sys2Proof.Machine.execInk st r s
  | .inkCommit => Sys2Proof.Machine.execInkCommit s
  | .inkAborted => Sys2Proof.Machine.execInkAborted s
  | .discard st r => Sys2Proof.Machine.execDiscard st r s
  | .draftRead st r => Sys2Proof.Machine.execDraftRead st r s
  | .describe st r => Sys2Proof.Machine.execDescribe st r s
  | .draftIdleTimeout handle => Sys2Proof.Machine.execDraftIdleTimeout handle s
  | .restoreDefaults => Sys2Proof.Machine.execRestoreDefaults s
  | .configSave index sub => Sys2Proof.Machine.execConfigSave index sub s
  | .notifyRepeat seq => Sys2Proof.Machine.execNotifyRepeat seq s
  | .notifyAck st r => Sys2Proof.Machine.execNotifyAck st r s
  | .neighborDiscovery src target => Sys2Proof.Machine.execNeighborDiscovery src target s
  | .echo src data => Sys2Proof.Machine.execEcho src data s
  | .go port ctrl => Sys2Proof.Machine.execGo port ctrl s
  | .doorbell a value => Sys2Proof.Machine.execDoorbell a value s
  | .registerWrite a data => Sys2Proof.Machine.execRegisterWrite a data s
  | .cwRd a => Sys2Proof.Machine.execCwRd a s
  | .nop c q => Sys2Proof.Machine.execNop c q s
  | .matmul c q => Sys2Proof.Machine.execMatmul c q s
  | .attn c q => Sys2Proof.Machine.execAttn c q s
  | .rmsnorm c q => Sys2Proof.Machine.execRmsnorm c q s
  | .layernorm c q => Sys2Proof.Machine.execLayernorm c q s
  | .softmax c q => Sys2Proof.Machine.execSoftmax c q s
  | .taskStart cluster task => Sys2Proof.Machine.execTaskStart cluster task s
  | .taskEnd task => Sys2Proof.Machine.execTaskEnd task s
  | .shadowCheck c q index tile => Sys2Proof.Machine.execShadowCheck c q index tile s
  | .promotedRunEnd c q index => Sys2Proof.Machine.execPromotedRunEnd c q index s
  | .descriptorComplete c q index => Sys2Proof.Machine.execDescriptorComplete c q index s
  | .flagClear a value => Sys2Proof.Machine.execFlagClear a value s
  | .windowOpen c q => Sys2Proof.Machine.execWindowOpen c q s
  | .windowClose c q => Sys2Proof.Machine.execWindowClose c q s
  | .windowFillStart c win => Sys2Proof.Machine.execWindowFillStart c win s
  | .windowFillDone c win fill => Sys2Proof.Machine.execWindowFillDone c win fill s
  | .windowStall c q => Sys2Proof.Machine.execWindowStall c q s
  | .alloc c q => Sys2Proof.Machine.execAlloc c q s
  | .free c q => Sys2Proof.Machine.execFree c q s
  | .pin c q => Sys2Proof.Machine.execPin c q s
  | .unpin c q => Sys2Proof.Machine.execUnpin c q s
  | .place c q => Sys2Proof.Machine.execPlace c q s
  | .demotion c fromT2 => Sys2Proof.Machine.execDemotion c fromT2 s
  | .demotionResume c => Sys2Proof.Machine.execDemotionResume c s
  | .cacheFrameDrain => Sys2Proof.Machine.execCacheFrameDrain s
  | .dirtyWriteback => Sys2Proof.Machine.execDirtyWriteback s
  | .pfailAssert => Sys2Proof.Machine.execPfailAssert s
  | .pfailDeassert => Sys2Proof.Machine.execPfailDeassert s
  | .pfailFlush => Sys2Proof.Machine.execPfailFlush s
  | .pfailCancel => Sys2Proof.Machine.execPfailCancel s
  | .powerOffStop => Sys2Proof.Machine.execPowerOffStop s
  | .map c q => Sys2Proof.Machine.execMap c q s
  | .unmap c q => Sys2Proof.Machine.execUnmap c q s
  | .protect c q => Sys2Proof.Machine.execProtect c q s
  | .resolve c q => Sys2Proof.Machine.execResolve c q s
  | .fail c q => Sys2Proof.Machine.execFail c q s
  | .advance c q => Sys2Proof.Machine.execAdvance c q s
  | .xlatInvAck port c => Sys2Proof.Machine.execXlatInvAck port c s
  | .xlatInvTimeout port => Sys2Proof.Machine.execXlatInvTimeout port s
  | .withdrawDrainEnd c => Sys2Proof.Machine.execWithdrawDrainEnd c s
  | .withdrawDeadline c => Sys2Proof.Machine.execWithdrawDeadline c s
  | .rangeWalk die c vpn => Sys2Proof.Machine.execRangeWalk die c vpn s
  | .copy c q => Sys2Proof.Machine.execCopy c q s
  | .fill c q => Sys2Proof.Machine.execFill c q s
  | .chunkIssue stream => Sys2Proof.Machine.execChunkIssue stream s
  | .chunkDone stream offset => Sys2Proof.Machine.execChunkDone stream offset s
  | .faultDeadline stream => Sys2Proof.Machine.execFaultDeadline stream s
  | .load e c sa lenm1 keep => Sys2Proof.Machine.execLoad e c sa lenm1 keep s
  | .store e c sa data hold => Sys2Proof.Machine.execStore e c sa data hold s
  | .evict agent line => Sys2Proof.Machine.execEvict agent line s
  | .rdS r => Sys2Proof.Machine.execRdS r s
  | .rdM r => Sys2Proof.Machine.execRdM r s
  | .upg r => Sys2Proof.Machine.execUpg r s
  | .rdNc r lenm1 => Sys2Proof.Machine.execRdNc r lenm1 s
  | .wrNc r data mask => Sys2Proof.Machine.execWrNc r data mask s
  | .wb agent line keep data allWritten => Sys2Proof.Machine.execWb agent line keep data allWritten s
  | .evictNotice agent line => Sys2Proof.Machine.execEvictNotice agent line s
  | .add r wide fetch op1 op2 => Sys2Proof.Machine.execAdd r wide fetch op1 op2 s
  | .and r wide fetch op1 op2 => Sys2Proof.Machine.execAnd r wide fetch op1 op2 s
  | .or r wide fetch op1 op2 => Sys2Proof.Machine.execOr r wide fetch op1 op2 s
  | .xor r wide fetch op1 op2 => Sys2Proof.Machine.execXor r wide fetch op1 op2 s
  | .umax r wide fetch op1 op2 => Sys2Proof.Machine.execUmax r wide fetch op1 op2 s
  | .umin r wide fetch op1 op2 => Sys2Proof.Machine.execUmin r wide fetch op1 op2 s
  | .smax r wide fetch op1 op2 => Sys2Proof.Machine.execSmax r wide fetch op1 op2 s
  | .smin r wide fetch op1 op2 => Sys2Proof.Machine.execSmin r wide fetch op1 op2 s
  | .swap r wide fetch op1 op2 => Sys2Proof.Machine.execSwap r wide fetch op1 op2 s
  | .cas r wide fetch op1 op2 => Sys2Proof.Machine.execCas r wide fetch op1 op2 s
  | .roll r => Sys2Proof.Machine.execRoll r s
  | .fwdS agent line => Sys2Proof.Machine.execFwdS agent line s
  | .fwdM agent line => Sys2Proof.Machine.execFwdM agent line s
  | .fwdNc agent line => Sys2Proof.Machine.execFwdNc agent line s
  | .inv agent line => Sys2Proof.Machine.execInv agent line s
  | .recall agent line => Sys2Proof.Machine.execRecall agent line s
  | .data agent line => Sys2Proof.Machine.execData agent line s
  | .grant agent line => Sys2Proof.Machine.execGrant agent line s
  | .fwdAck agent line dirty supplied => Sys2Proof.Machine.execFwdAck agent line dirty supplied s
  | .invAck agent line => Sys2Proof.Machine.execInvAck agent line s
  | .recallAck agent line dirty => Sys2Proof.Machine.execRecallAck agent line dirty s
  | .compack agent line => Sys2Proof.Machine.execCompack agent line s
  | .ncDone agent line => Sys2Proof.Machine.execNcDone agent line s
  | .wbAck agent line => Sys2Proof.Machine.execWbAck agent line s
  | .retry agent line => Sys2Proof.Machine.execRetry agent line s
  | .hot agent c line interval => Sys2Proof.Machine.execHot agent c line interval s
  | .atomicBufferWriteout line => Sys2Proof.Machine.execAtomicBufferWriteout line s
  | .hotWindow inkwell bank => Sys2Proof.Machine.execHotWindow inkwell bank s
  | .snoopTimeout port => Sys2Proof.Machine.execSnoopTimeout port s
  | .releaseAtScope e scope => Sys2Proof.Machine.execReleaseAtScope e scope s
  | .acquireAtScope e scope => Sys2Proof.Machine.execAcquireAtScope e scope s
  | .fenceAtScope e scope => Sys2Proof.Machine.execFenceAtScope e scope s
  | .storeAgeing e line => Sys2Proof.Machine.execStoreAgeing e line s
  | .madd c q => Sys2Proof.Machine.execMadd c q s
  | .mset c q => Sys2Proof.Machine.execMset c q s
  | .mread c q => Sys2Proof.Machine.execMread c q s
  | .wakeNotice p m => Sys2Proof.Machine.execWakeNotice p m s
  | .search c q => Sys2Proof.Machine.execSearch c q s
  | .queryStart c q index query quill hw => Sys2Proof.Machine.execQueryStart c q index query quill hw s
  | .fetchReturn quill hw => Sys2Proof.Machine.execFetchReturn quill hw s
  | .queryEnd quill hw => Sys2Proof.Machine.execQueryEnd quill hw s
  | .staleScan c q => Sys2Proof.Machine.execStaleScan c q s
  | .cartInserted slot fourLanes => Sys2Proof.Machine.execCartInserted slot fourLanes s
  | .identify slot cert => Sys2Proof.Machine.execIdentify slot cert s
  | .cartChallenge slot wear signature => Sys2Proof.Machine.execCartChallenge slot wear signature s
  | .cartMread slot rec => Sys2Proof.Machine.execCartMread slot rec s
  | .cartMwrite slot => Sys2Proof.Machine.execCartMwrite slot s
  | .reads line errors => Sys2Proof.Machine.execReads line errors s
  | .readu slot row content meta_ => Sys2Proof.Machine.execReadu slot row content meta_ s
  | .writeu slot row => Sys2Proof.Machine.execWriteu slot row s
  | .jwrite slot => Sys2Proof.Machine.execJwrite slot s
  | .wear slot bytes => Sys2Proof.Machine.execWear slot bytes s
  | .wearPoll => Sys2Proof.Machine.execWearPoll s
  | .cartFailed slot => Sys2Proof.Machine.execCartFailed slot s
  | .cartRemoved slot => Sys2Proof.Machine.execCartRemoved slot s
  | .cartRebuilt slot => Sys2Proof.Machine.execCartRebuilt slot s
  | .resilverDone slot => Sys2Proof.Machine.execResilverDone slot s
  | .scrub group row bad parityDiffers => Sys2Proof.Machine.execScrub group row bad parityDiffers s
  | .prepareEject slot => Sys2Proof.Machine.execPrepareEject slot s
  | .acceptForeign slot => Sys2Proof.Machine.execAcceptForeign slot s
  | .retire slot => Sys2Proof.Machine.execRetire slot s
  | .cancel slot => Sys2Proof.Machine.execCancel slot s
  | .flit link fecOk flit => Sys2Proof.Machine.execFlit link fecOk flit s
  | .linkRetry link seq => Sys2Proof.Machine.execLinkRetry link seq s
  | .laneSpare link lane => Sys2Proof.Machine.execLaneSpare link lane s
  | .portNarrowed link good => Sys2Proof.Machine.execPortNarrowed link good s
  | .lossOfSignal link => Sys2Proof.Machine.execLossOfSignal link s
  | .portTrain link good => Sys2Proof.Machine.execPortTrain link good s
  | .ident link info => Sys2Proof.Machine.execIdent link info s
  | .prd p => Sys2Proof.Machine.execPrd p s
  | .pwr p => Sys2Proof.Machine.execPwr p s
  | .patom p => Sys2Proof.Machine.execPatom p s
  | .prdData p => Sys2Proof.Machine.execPrdData p s
  | .pwrDone p => Sys2Proof.Machine.execPwrDone p s
  | .patomDone p => Sys2Proof.Machine.execPatomDone p s
  | .peerTimeout tag => Sys2Proof.Machine.execPeerTimeout tag s
  | .msg p => Sys2Proof.Machine.execMsg p s
  | .msgDone p => Sys2Proof.Machine.execMsgDone p s
  | .assign p => Sys2Proof.Machine.execAssign p s
  | .windowSet p => Sys2Proof.Machine.execWindowSet p s
  | .windowClear p => Sys2Proof.Machine.execWindowClear p s
  | .ownGrant p => Sys2Proof.Machine.execOwnGrant p s
  | .teardown p => Sys2Proof.Machine.execTeardown p s
  | .mgtAck p => Sys2Proof.Machine.execMgtAck p s
  | .atomic c q => Sys2Proof.Machine.execAtomic c q s
  | .send c q => Sys2Proof.Machine.execSend c q s
  | .mboxOpen c q => Sys2Proof.Machine.execMboxOpen c q s
  | .ownAcquire c q => Sys2Proof.Machine.execOwnAcquire c q s
  | .ownTimeout c q index => Sys2Proof.Machine.execOwnTimeout c q index s
  | .ownRelease c q => Sys2Proof.Machine.execOwnRelease c q s
  | .flush c q => Sys2Proof.Machine.execFlush c q s
  | .t3Data port tag poison data => Sys2Proof.Machine.execT3Data port tag poison data s
  | .t3Done port tag poison => Sys2Proof.Machine.execT3Done port tag poison s
  | .t3Timeout port tag => Sys2Proof.Machine.execT3Timeout port tag s
  | .create c => Sys2Proof.Machine.execCreate c s
  | .createDone c => Sys2Proof.Machine.execCreateDone c s
  | .tear c => Sys2Proof.Machine.execTear c s
  | .release c => Sys2Proof.Machine.execRelease c s
  | .keyRecordDurable c => Sys2Proof.Machine.execKeyRecordDurable c s
  | .standbyResync => Sys2Proof.Machine.execStandbyResync s
  | .getVersion src msg => Sys2Proof.Machine.execGetVersion src msg s
  | .getCapabilities src msg => Sys2Proof.Machine.execGetCapabilities src msg s
  | .negotiateAlgorithms src msg => Sys2Proof.Machine.execNegotiateAlgorithms src msg s
  | .getDigests src msg => Sys2Proof.Machine.execGetDigests src msg s
  | .getCertificate src msg => Sys2Proof.Machine.execGetCertificate src msg s
  | .challenge src msg => Sys2Proof.Machine.execChallenge src msg s
  | .getMeasurements src msg => Sys2Proof.Machine.execGetMeasurements src msg s
  | .imageTargetSlot slot => Sys2Proof.Machine.execImageTargetSlot slot s
  | .erase => Sys2Proof.Machine.execErase s
  | .imageChunk src chunk => Sys2Proof.Machine.execImageChunk src chunk s
  | .verify => Sys2Proof.Machine.execVerify s
  | .commitSecurityState => Sys2Proof.Machine.execCommitSecurityState s
  | .restart p reaches => Sys2Proof.Machine.execRestart p reaches s
  | .watchdog p reaches => Sys2Proof.Machine.execWatchdog p reaches s
  | .processorFault p reaches => Sys2Proof.Machine.execProcessorFault p reaches s
  | .restartTimeout p => Sys2Proof.Machine.execRestartTimeout p s
  | .restartStable p => Sys2Proof.Machine.execRestartStable p s
  | .liveUpdate what => Sys2Proof.Machine.execLiveUpdate what s
  | .fwUpdate reaches => Sys2Proof.Machine.execFwUpdate reaches s
  | .sliceEnd p => Sys2Proof.Machine.execSliceEnd p s
  | .governorFallback die cause flagged => Sys2Proof.Machine.execGovernorFallback die cause flagged s
  | .fallbackLoop die sensors => Sys2Proof.Machine.execFallbackLoop die sensors s
  | .loopLost die => Sys2Proof.Machine.execLoopLost die s
  | .powerGood => Sys2Proof.Machine.execPowerGood s
  | .stage0 s0Passes s1Passes => Sys2Proof.Machine.execStage0 s0Passes s1Passes s
  | .stage1 found => Sys2Proof.Machine.execStage1 found s
  | .stage2 found => Sys2Proof.Machine.execStage2 found s
  | .stage3 found => Sys2Proof.Machine.execStage3 found s
  | .stage4 found => Sys2Proof.Machine.execStage4 found s
  | .stage5 found => Sys2Proof.Machine.execStage5 found s
  | .stage6 => Sys2Proof.Machine.execStage6 s
  | .topologyShort => Sys2Proof.Machine.execTopologyShort s
  | .trainingSave => Sys2Proof.Machine.execTrainingSave s
  | .engineFail die cluster phys => Sys2Proof.Machine.execEngineFail die cluster phys s
  | .engineHang die cluster phys => Sys2Proof.Machine.execEngineHang die cluster phys s
  | .katInterval failed => Sys2Proof.Machine.execKatInterval failed s
  | .failPhysicalEngine code => Sys2Proof.Machine.execFailPhysicalEngine code s
  | .clearRepairMarks => Sys2Proof.Machine.execClearRepairMarks s
  | .stepCommit c q io => Sys2Proof.Machine.execStepCommit c q io s
  | .checkpointDone c set => Sys2Proof.Machine.execCheckpointDone c set s
  | .begin c => Sys2Proof.Machine.execBegin c s
  | .takeover c => Sys2Proof.Machine.execTakeover c s
  | .compositionDeadline => Sys2Proof.Machine.execCompositionDeadline s
  | .undervoltage => Sys2Proof.Machine.execUndervoltage s
  | .overvoltage => Sys2Proof.Machine.execOvervoltage s
  | .pfailUnsignalled => Sys2Proof.Machine.execPfailUnsignalled s
  | .ceilingStep average => Sys2Proof.Machine.execCeilingStep average s
  | .fastClamp => Sys2Proof.Machine.execFastClamp s
  | .thermalTrip die sensor => Sys2Proof.Machine.execThermalTrip die sensor s
  | .thermalRelease die => Sys2Proof.Machine.execThermalRelease die s
  | .thermalShutdown cause => Sys2Proof.Machine.execThermalShutdown cause s
  | .coolantWarm inlet outlet => Sys2Proof.Machine.execCoolantWarm inlet outlet s
  | .reset => Sys2Proof.Machine.execReset s
  | .fspiEnable => Sys2Proof.Machine.execFspiEnable s
  | .dieFailure die => Sys2Proof.Machine.execDieFailure die s
  | .thermalVoltageReduction die => Sys2Proof.Machine.execThermalVoltageReduction die s
  | .resetRelease => Sys2Proof.Machine.execResetRelease s

end Sys2Proof.Machine
end

