-- ==== Sys2Proof/WellFormed.lean ====
section
/-! DEFINITION. Which commands are well formed: the bounds of a command's operands that their types do not state already. A
command that is not well formed still has a meaning; the bounds are what the outside world can send. -/

namespace Sys2Proof

/-- An engine that exists (R25-R27): Nibs, Quills and Feeds in their clusters and one Inkwell on each of the 24 engine dies, two
scribe cores there and one on every media and optical die, and one management core on each management die. -/
def Eng.wf (e : Eng) : Bool :=
  match e.kind with
  | .nib => decide (e.die.val < 24) && decide (e.engine.val < 8)
  | .quill => decide (e.die.val < 24) && decide (e.cluster.val < 2) && decide (e.engine.val < 8)
  | .feed => decide (e.die.val < 24) && decide (e.cluster.val < 4) && decide (e.engine.val < 8)
  | .inkwell => decide (e.die.val < 24) && decide (e.cluster.val = 0) && decide (e.engine.val = 0)
  | .scribe => decide (e.die.val < 38) && decide (e.cluster.val = 0) && decide (e.engine.val < if e.die.val < 24 then 2 else 1)
  | .mgmt => decide (38 ≤ e.die.val) && decide (e.cluster.val = 0) && decide (e.engine.val = 0)

/-- A request's items follow its 16-byte header in at most 1,440 bytes (R63). -/
def VReq.wf (r : VReq) : Bool := decide (r.body.length ≤ 1424)

/-- A fabric packet carries at most 8 data slots of 16 bytes (R442). -/
def FabIn.wf (p : FabIn) : Bool := decide (p.data.length ≤ 128)

/-- A page of a copy region has 4,096 bytes. -/
def pageWf (p : Nat × Option Bytes) : Bool := match p.2 with | some b => decide (b.length = 4096) | none => true

/-- A region's header is one line, and its pages are whole (R594). -/
def CommitIo.wf (io : CommitIo) : Bool :=
  [io.mirror0, io.mirror1, io.ckpt, io.partner0, io.partner1].all
    (fun r => match r.header with | some h => decide (h.length = 128) | none => true) &&
  io.pages.all pageWf && io.image.all pageWf

/-- Lanes of a port: at most 8 (R425, R464). -/
def Finding.wf : Finding → Bool
  | .laneSpared _ lane => decide (lane < 8)
  | .portLanes _ good => decide (good ≤ 8)
  | .t0Repaired .. | .engineBad .. | .clusterBad .. | .scribeBad .. | .hbmRepaired .. | .hbmBad .. | .cartLinkBad .. | .cartPresent ..
  | .oscOffset .. | .oscBad | .netSpared .. | .netBad .. | .imageReload .. | .imageBad .. | .inkwellBad .. | .standbyBad | .fallback ..
  | .slotFailed .. | .journal .. => true

/-- A membership record names a slot, a group and a position that exist (R409). -/
def Membership.wf (m : Membership) : Bool :=
  decide (m.serial.length ≤ 32) && decide (m.slot < 32) && decide (m.group < 3) && decide (m.position < 10)

/-- Bytes of a context-window access (R478). -/
def CwAccess.bytes (a : CwAccess) : Nat := a.lenm1.toNat + 1

/-- A noncoherent read stays in its line (R291). -/
def Req.readWf (r : Req) (lenm1 : BitVec 7) : Bool :=
  match r.place with
  | .sa a => decide (a.toNat % 128 + lenm1.toNat < 128)
  | .host _ _ _ => true

/-- Are a command's operands ones that the outside world can give it? -/
def Instr.wf : Instr → Bool
  -- Requests of the dictionary
  | .read _ r | .write _ r | .draftOpen _ r | .draftWrite _ r | .check _ r | .ink _ r | .discard _ r | .draftRead _ r | .describe _ r
  | .notifyAck _ r => r.wf
  -- Context windows: a write carries as many bytes as its length says
  | .registerWrite a d => decide (d.length = a.bytes)
  | .doorbell a _ => decide (a.bytes = 8)
  | .flagClear a _ => decide (a.bytes = 4)
  -- Data of at most one line
  | .load e .. => e.wf
  | .store e _ _ d _ => e.wf && decide (d ≠ []) && decide (d.length ≤ 128)
  | .rdNc r lenm1 => r.readWf lenm1
  | .wrNc _ d _ => decide (d ≠ []) && decide (d.length ≤ 128)
  | .wb _ _ _ d _ => decide (d.length ≤ 128)
  | .fwdAck _ _ _ d => decide (d.length ≤ 128)
  | .recallAck _ _ d => match d with | some b => decide (b.length = 128) | none => true
  | .t3Data _ _ _ d => decide (d.length ≤ 128)
  | .releaseAtScope e _ | .acquireAtScope e _ | .fenceAtScope e _ | .storeAgeing e _ => e.wf
  -- Cartridges
  | .identify _ cert => decide (cert.serial.length ≤ 32)
  | .cartChallenge _ _ signature => decide (signature.length = 384)
  | .cartMread _ rec_ => match rec_ with | some m => m.wf | none => true
  | .reads _ errors => decide errors.Nodup
  | .readu _ _ content _ => decide (content.length = 4096)
  | .scrub _ _ bad _ => decide bad.Nodup
  -- Links and packets
  | .flit _ _ b => decide (b.length = 256)
  | .prd p | .pwr p | .patom p | .prdData p | .pwrDone p | .patomDone p | .msg p | .msgDone p | .assign p | .windowSet p | .windowClear p
  | .ownGrant p | .teardown p | .mgtAck p => p.wf
  -- Messages and chunks of at most 1,024 bytes (R508, R525)
  | .getVersion _ m | .getCapabilities _ m | .negotiateAlgorithms _ m | .getDigests _ m | .getCertificate _ m | .challenge _ m
  | .getMeasurements _ m => decide (m.length ≤ 1024)
  | .imageChunk _ m => decide (m.length ≤ 1024)
  -- Bring-up and the thermal loop
  | .stage1 f | .stage2 f | .stage3 f | .stage4 f | .stage5 f => f.all Finding.wf
  | .fallbackLoop _ sensors => decide (sensors.length = 8)
  | .stepCommit _ _ io => io.wf
  -- Every other command: the operands' types say all
  | .managementTakeover | .inkCommit | .inkAborted | .draftIdleTimeout .. | .restoreDefaults | .configSave .. | .notifyRepeat ..
  | .neighborDiscovery .. | .echo .. | .go .. | .cwRd .. | .nop .. | .matmul .. | .attn .. | .rmsnorm .. | .layernorm .. | .softmax ..
  | .taskStart .. | .taskEnd .. | .shadowCheck .. | .promotedRunEnd .. | .descriptorComplete .. | .windowOpen .. | .windowClose ..
  | .windowFillStart .. | .windowFillDone .. | .windowStall .. | .alloc .. | .free .. | .pin .. | .unpin .. | .place .. | .demotion ..
  | .demotionResume .. | .cacheFrameDrain | .dirtyWriteback | .pfailAssert | .pfailDeassert | .pfailFlush | .pfailCancel
  | .powerOffStop | .map .. | .unmap .. | .protect .. | .resolve .. | .fail .. | .advance .. | .xlatInvAck .. | .xlatInvTimeout ..
  | .withdrawDrainEnd .. | .withdrawDeadline .. | .rangeWalk .. | .copy .. | .fill .. | .chunkIssue .. | .chunkDone .. | .faultDeadline ..
  | .evict .. | .rdS .. | .rdM .. | .upg .. | .evictNotice .. | .add .. | .and .. | .or .. | .xor .. | .umax .. | .umin .. | .smax ..
  | .smin .. | .swap .. | .cas .. | .roll .. | .fwdS .. | .fwdM .. | .fwdNc .. | .inv .. | .recall .. | .data .. | .grant .. | .invAck ..
  | .compack .. | .ncDone .. | .wbAck .. | .retry .. | .hot .. | .atomicBufferWriteout .. | .hotWindow .. | .snoopTimeout .. | .madd ..
  | .mset .. | .mread .. | .wakeNotice .. | .search .. | .queryStart .. | .fetchReturn .. | .queryEnd .. | .staleScan ..
  | .cartInserted .. | .cartMwrite .. | .writeu .. | .jwrite .. | .wear .. | .wearPoll | .cartFailed .. | .cartRemoved ..
  | .cartRebuilt .. | .resilverDone .. | .prepareEject .. | .acceptForeign .. | .retire .. | .cancel .. | .linkRetry .. | .laneSpare ..
  | .portNarrowed .. | .lossOfSignal .. | .portTrain .. | .ident .. | .peerTimeout .. | .atomic .. | .send .. | .mboxOpen ..
  | .ownAcquire .. | .ownTimeout .. | .ownRelease .. | .flush .. | .t3Done .. | .t3Timeout .. | .create .. | .createDone .. | .tear ..
  | .release .. | .keyRecordDurable .. | .standbyResync | .imageTargetSlot .. | .erase | .verify | .commitSecurityState | .restart ..
  | .watchdog .. | .processorFault .. | .restartTimeout .. | .restartStable .. | .liveUpdate .. | .fwUpdate .. | .sliceEnd ..
  | .governorFallback .. | .loopLost .. | .powerGood | .stage0 .. | .stage6 | .topologyShort | .trainingSave | .engineFail ..
  | .engineHang .. | .katInterval .. | .failPhysicalEngine .. | .clearRepairMarks | .checkpointDone .. | .begin .. | .takeover ..
  | .compositionDeadline | .undervoltage | .overvoltage | .pfailUnsignalled | .ceilingStep .. | .fastClamp | .thermalTrip ..
  | .thermalRelease .. | .thermalShutdown .. | .coolantWarm .. | .reset | .fspiEnable | .dieFailure .. | .thermalVoltageReduction ..
  | .resetRelease => true

end Sys2Proof
end

