-- ==== Sys2Proof/Safety.lean ====
section
/-! DEFINITION. What counts as a safe run: no step of it ends in a fault or a refusal; and the words the statements about whole
runs use. -/

namespace Sys2Proof.Machine

/-- The first `n` steps from `s` all answer a next state. -/
def safeFor : Nat → State → Bool
  | 0, _ => true
  | n + 1, s =>
    match step s with
    | .next t => safeFor n t
    | .fault _ => false
    | .refused _ => false

/-- The state after `n` steps, staying where a step stops. -/
def after : Nat → State → State
  | 0, s => s
  | n + 1, s =>
    match step s with
    | .next t => after n t
    | .fault _ => s
    | .refused _ => s

/-- The commands that act on a device whose rails are off: its input, the pins of the rear face and a cartridge's slot (R396,
R556, R620, R632-R637). -/
def actsUnpowered : Instr → Bool
  | .powerGood | .undervoltage | .overvoltage | .pfailAssert | .pfailDeassert | .reset | .fspiEnable | .resetRelease => true
  | .cartInserted _ _ => true
  | .cartRemoved _ => true
  | _ => false

/-- Everything of the state but the queue of waiting commands and the oscillator's count. -/
def besideQueue (s : State) : State := { s with pending := [], now := 0 }

/-- The device is without power, no waiting command acts on it then, and it holds what `s₀` holds. -/
def asleep (s₀ s : State) : Prop :=
  s.power.on = false ∧ (∀ c ∈ s.pending, actsUnpowered c = false) ∧ besideQueue s = besideQueue s₀

/-- The state in which the work of the descriptor begins that queue `q` of context `c` dispatches when it is taken up (R149, R157, R323);
the queue taken up, where it dispatches none. -/
def workState (s : State) (c q : Nat) : State :=
  match readyDesc (queuePoll s c q) c q with
  | some (y, d) => beginWork (queuePoll s c q) c q y d
  | none => queuePoll s c q

/-- Queue `q` of context `c`, of a KIND, dispatches descriptor `d` when it is taken up, and is `x` when the descriptor's work begins. -/
def due (s : State) (c q kind : Nat) (x : Queue) (d : Nat) : Prop :=
  s.power.on = true ∧ (∃ y, readyDesc (queuePoll s c q) c q = some (y, d) ∧ y.kind = kind) ∧ queueOf (workState s c q) c q = some x

/-- That state as the descriptor finds it, under the generation that its doorbell stamped on it (R87). -/
def begun (s : State) (c q : Nat) (x : Queue) : State := inGen (workState s c q) (stampOf (workState s c q) x x.disp)

/-- What the command leaves where the descriptor's own work, begun there, leaves `t`. -/
def ended (s : State) (c q : Nat) (x : Queue) (t : State) : State :=
  keepQueue s (outGen (workState s c q) (stampOf (workState s c q) x x.disp) t)

/-- A station's datagram is taken, and is no repeat: no request of its source and SEQ is in progress or answered, and its source
has not used up its 32 requests of this second (R62, R71, R73). -/
def freshRequest (s : State) (st : Station) (r : VReq) : Prop :=
  s.power.on = true ∧ datagramOk s st = true ∧ inProgress s st.addr r.seq.toNat = false ∧ acceptedBy s st.addr < 32 ∧
    keptFor s st.addr r.seq.toNat = none

/-- No operation is being carried out or waits (R78). -/
def idleDict (s : State) : Prop := s.dict.ink = none ∧ s.dict.waiting = []

/-- The state in which the management core takes a fresh request: the request is counted, and its instant is kept for a second. -/
def counted (s : State) (a : Ip6) : State :=
  let s := odBump s (odKey 0xF001 1) 1
  { s with dict.accepted := s.dict.accepted.filter (fun e => decide (s.now < e.2 + 1000000000)) ++ [(a, s.now)] }

end Sys2Proof.Machine
end

