-- ==== Sys2Proof/Certificates/Slice0/Obligations.lean ====
section
/-! DEFINITION. The statements for the provers. -/

open Sys2Proof Sys2Proof.Machine

/-! ## The block -/

/-- A step with a command at the front of the queue is the command's meaning on the state with the queue's rest. -/
def Obligations.StepRunsFrontCommand : Prop :=
  ∀ (c : Instr) (rest : List Instr) (s : State), step { s with pending := c :: rest } = exec c { s with pending := rest }

/-- On an empty queue the oscillator counts one nanosecond and nothing else changes (the model's choice: log entry 4). -/
def Obligations.EmptyQueueTicks : Prop :=
  ∀ s : State, s.pending = [] → step s = .next { s with now := s.now + 1 }

/-- Every command answers a next state, and leaves the queue and the oscillator's count as they are. -/
def Obligations.CommandsCompleteAndKeepQueue : Prop :=
  ∀ (c : Instr) (s : State), ∃ t, exec c s = .next t ∧ t.pending = s.pending ∧ t.now = s.now

/-- The waiting commands are taken first in, first out, one each step, without a stop and without the oscillator moving. -/
def Obligations.QueueDrainsInOrder : Prop :=
  ∀ (n : Nat) (s : State), n ≤ s.pending.length →
    safeFor n s = true ∧ (after n s).pending = s.pending.drop n ∧ (after n s).now = s.now

/-- A device whose rails are off holds still: a step under commands that need power changes nothing but the queue and the
oscillator's count. -/
def Obligations.UnpoweredDeviceSleeps : Prop :=
  ∀ s₀ s t : State, asleep s₀ s → step s = .next t → asleep s₀ t

/-- The state after reset is asleep. -/
def Obligations.ResetIsAsleep : Prop := asleep State.reset State.reset

/-- What reset leaves: rails off, admission closed, no context, queue, job, transaction or message, the device in BRINGUP, every
entry of the dictionary at its default, and memory reading zero. -/
def Obligations.ResetLeaves : Prop :=
  State.reset.power.on = false ∧ admitting State.reset = false ∧ devState State.reset = 0 ∧
    (∀ c, ctxState State.reset c = 0) ∧ (∀ key, odGet State.reset key = odDefault key) ∧
    (∀ a, memGet State.reset.mem.mem a = 0#8) ∧ (∀ a, memGet State.reset.mem.media a = 0#8) ∧
    State.reset.pending = [] ∧ State.reset.q.queues = [] ∧ State.reset.q.jobs = [] ∧ State.reset.coh.busy = [] ∧ State.reset.out = []

/-! ## The dictionary -/

/-- R56 for numbers, BOOL and ENUM, R645: a number outside one interval is set to the nearer limit with CLAMPED, one within it
is stored; a BOOL above 1 is stored as 1 with CLAMPED; an ENUM value not in the set is refused with RANGE and ENUM_VALUE;
reserved bits are stored as zero with OK. -/
def Obligations.NumbersAreClamped : Prop :=
  ∀ (r : OdRow) (n : Nat),
    (∀ lo hi, r.check = .ivs [(lo, hi)] → r.ty ≠ .bool → lo ≤ hi →
      judgeNum r n = if n < lo then .stored (.num lo) .clamped else if hi < n then .stored (.num hi) .clamped else .stored (.num n) .ok) ∧
    (∀ l, r.check = .ivs l → r.ty = .bool → judgeNum r n = if 1 < n then .stored (.num 1) .clamped else .stored (.num n) .ok) ∧
    (∀ l, r.check = .codes l → judgeNum r n = if n ∈ l then .stored (.num n) .ok else .refused .range .enumValue) ∧
    (∀ m, r.check = .mask m → judgeNum r n = .stored (.num (n &&& m)) .ok)

/-- R646: a value between the intervals of an entry's range is refused with RANGE and GAP and stores nothing; one beyond the lowest or the
highest limit is clamped to that limit; one within an interval is stored as it is. -/
def Obligations.GapsAreRefused : Prop :=
  ∀ (r : OdRow) (l : List (Nat × Nat)) (lo hi : Nat × Nat), r.check = .ivs l → r.ty ≠ .bool → l.head? = some lo → l.getLast? = some hi →
    lo.1 ≤ hi.2 →
    (∀ n, (∃ i ∈ l, i.1 ≤ n ∧ n ≤ i.2) → judgeNum r n = .stored (.num n) .ok) ∧
    (∀ n, (∀ i ∈ l, n < i.1 ∨ i.2 < n) →
      (n < lo.1 → judgeNum r n = .stored (.num lo.1) .clamped) ∧ (hi.2 < n → judgeNum r n = .stored (.num hi.2) .clamped) ∧
      (lo.1 ≤ n → n ≤ hi.2 → judgeNum r n = .refused .range .gap ∧
        ∀ (o : DictOp) (s : State) (i : VItem), servedRow s (itemKey i) = some r → ctxZero r (itemKey i) = false → r.acc ≠ .ro → r.acc ≠ .rwd →
          i.ty = tyCode r.ty → r.ty ≠ .blob → r.ty ≠ .str → i.val.length = tySize r.ty → leNat i.val = n →
          (writeItem o s i).2 = s ∧ (writeItem o s i).1.st = .range ∧ (writeItem o s i).1.rsn = .gap))

/-- R648, R645: what length a BLOB or STR item may have; the reserved bits of a stored BLOB's records are stored as zero. -/
def Obligations.BlobLengthsAreJudged : Prop :=
  ∀ (r : OdRow) (b : Bytes),
    (r.ty = .blob →
      (maxLen r < b.length → judgeBlob r b = .refused .range .tooLong) ∧
      (b.length ≤ maxLen r →
        (∀ n, r.check = .exact n false →
          judgeBlob r b = if b.length = n then .stored (.bytes (maskBlob r b)) .ok else .refused .range .type) ∧
        (∀ n, r.check = .exact n true →
          judgeBlob r b = if b.length = n ∨ b = [] then .stored (.bytes (maskBlob r b)) .ok else .refused .range .type) ∧
        (∀ k n, r.check = .records k n →
          judgeBlob r b = if b.length % k = 0 then .stored (.bytes (maskBlob r b)) .ok else .refused .range .type) ∧
        (∀ n, r.check = .upTo n → judgeBlob r b = .stored (.bytes b) .ok))) ∧
    (∀ k m, recordMask r = some (k, m) → 0 < k → b.length % k = 0 →
      (maskBlob r b).length = b.length ∧ ∀ i, i < b.length / k → leAt (maskBlob r b) (k * i) k = leAt b (k * i) k &&& m) ∧
    (recordMask r = none → maskBlob r b = b) ∧
    (∀ n, r.ty = .str → r.check = .upTo n → b.length ≤ n → utf8Lengths b.length b ≠ none → judgeStr r b = .stored (.bytes b) .ok)

/-- R647: the checks of a write in their order: the entry exists, its access class permits the write on the path, the type and
the length agree, and the value checks come last; a read is judged on the first check only. No STR entry of the map is writable. -/
def Obligations.WritesAreJudgedInOrder : Prop :=
  ∀ (s : State) (draft : Bool) (src : Src) (i : VItem),
    (servedRow s (itemKey i) = none → judge s draft i = .refused .range .noEntry ∧
      (readItem s src i).st = .range ∧ (readItem s src i).rsn = .noEntry) ∧
    ∀ r, servedRow s (itemKey i) = some r →
      readItem s src i = { i with ty := tyCode r.ty, val := valBytes r (odRead s src r (itemKey i)) } ∧
      (r.ty = .str → r.acc = .ro) ∧
      ((ctxZero r (itemKey i) = true ∨ r.acc = .ro) → judge s draft i = .refused .range .access) ∧
      (ctxZero r (itemKey i) = false → r.acc = .rwd → draft = false → judge s draft i = .refused .range .draftOnly) ∧
      (ctxZero r (itemKey i) = false → r.acc ≠ .ro → (r.acc = .rwd → draft = true) →
        (i.ty ≠ tyCode r.ty → judge s draft i = .refused .range .type) ∧
        (i.ty = tyCode r.ty → r.ty ≠ .blob →
          judge s draft i = if i.val.length ≠ tySize r.ty then .refused .range .type else judgeNum r (leNat i.val)) ∧
        (i.ty = tyCode r.ty → r.ty = .blob → judge s draft i = judgeBlob r i.val))

/-- R57: a refused write changes nothing, whether it is a WRITE item or is staged in a draft; its answer carries the refusal. A clamped write
stores the clamped value, with the effect that a value written as it is has. -/
def Obligations.RefusedWriteChangesNothing : Prop :=
  ∀ (o : DictOp) (s : State) (d : Draft) (i : VItem),
    (∀ st rsn, judge s false i = .refused st rsn →
      (writeItem o s i).2 = s ∧ (writeItem o s i).1.st = st ∧ (writeItem o s i).1.rsn = rsn) ∧
    (∀ st rsn, judge s true i = .refused st rsn →
      (stageItem s d i).2 = d ∧ (stageItem s d i).1.st = st ∧ (stageItem s d i).1.rsn = rsn) ∧
    (∀ v st, judge s false i = .stored v st → itemKey i ≠ odKey 0xA200 3 →
      writeItem o s i = (storedItem s i v st, inkValues o.src o.since s [(itemKey i, v)])) ∧
    (∀ v st, judge s true i = .stored v st → d.staged.length < 256 →
      stageItem s d i = (storedItem s i v st, { d with staged := stageValue d.staged (itemKey i, v) })) ∧
    (∀ v, judge s false i = .stored v .clamped → itemKey i ≠ odKey 0xA200 3)

/-- Items that are written as bytes are read back, in order and whole: the codec of R65. -/
def Obligations.VervoItemsRoundTrip : Prop :=
  ∀ l : List VItem, (∀ i ∈ l, i.idx < 2 ^ 16 ∧ i.sub < 2 ^ 8 ∧ i.ty < 2 ^ 8 ∧ i.val.length < 2 ^ 16 ∧ i.st = .ok ∧ i.rsn = .none) →
    parseItems l.length ((l.map vItemBytes).flatten) = some l

/-- READ, DRAFT_OPEN, DRAFT_WRITE, CHECK, DISCARD, DRAFT_READ and DESCRIBE of a station: a fresh, well-formed request is carried out and answered
at once, with the OP plus 0x80, the request's SEQ and the generation (R64). READ and DESCRIBE answer each item in order while they fit
(R66, R67, R651); DRAFT_OPEN opens an empty draft under a new handle while fewer than eight are open (R80); DRAFT_WRITE stages its items
(R82); CHECK names the entries of the rules that fail, none where all hold (R84); DISCARD closes the draft; DRAFT_READ returns staged items
from START on (R651). A malformed request is refused whole (R649), and one that names no draft of its source with NO_DRAFT (R81). The
response is kept for a repeat (R71), and nothing of the device changes but the dictionary's front end and its counters. -/
def Obligations.StationRequestsAreAnswered : Prop :=
  ∀ (s : State) (st : Station) (r : VReq), freshRequest s st r → idleDict s →
    let w := { counted s st.addr with dict.waiting := [] }
    let o (op : Nat) : DictOp := ⟨.station st.addr, op, r, s.now⟩
    let answered (c : Instr) (op draft : Nat) (stat : Status) (rsn : Reason) (items : List VItem) (drafts : List Draft) : Prop :=
      let b := vervoResponse op r.seq.toNat (generation s) draft stat rsn items
      ∃ t, exec c s = .next t ∧ t.out = s.out ++ [datagram st.addr b] ∧ t.dict.drafts = drafts ∧
        t.dict.kept = ((st.addr, r.seq.toNat, b) :: s.dict.kept).take 64 ∧ t.dict.ink = none ∧ t.dict.waiting = [] ∧
        (∀ k, k / 256 ≠ 0xF001 → odGet t k = odGet s k) ∧ t.blobs = s.blobs ∧
        t.mem = s.mem ∧ t.tier = s.tier ∧ t.xlat = s.xlat ∧ t.feed = s.feed ∧ t.coh = s.coh ∧ t.q = s.q ∧ t.cart = s.cart ∧ t.fab = s.fab ∧
        t.iso = s.iso ∧ t.fw = s.fw ∧ t.boot = s.boot ∧ t.step = s.step ∧ t.power = s.power
    let items (c : Instr) (op : Nat) (l : List VItem) (drafts : List Draft) : Prop :=
      answered c op r.draft.toNat (statusOf (l.map (·.st))) .none l drafts
    (∀ l, opItems (o 1) = some l → items (.read st r) 1 (fitItems (readItem w (.station st.addr)) 16 l) s.dict.drafts) ∧
    (∀ l, opItems (o 0x20) = some l → items (.describe st r) 0x20 (fitItems (describeItem w) 16 l) s.dict.drafts) ∧
    (opItems (o 3) = some [] → s.dict.drafts.length < 8 → ∃ h, h ≠ 0 ∧ h < 2 ^ 16 ∧ (∀ d ∈ s.dict.drafts, d.handle ≠ h) ∧
      answered (.draftOpen st r) 3 h .ok .none []
        (s.dict.drafts ++ [⟨h, (s.dict.openCounter + 1) % 65536, .station st.addr, [], s.now⟩])) ∧
    (opItems (o 3) = some [] → 8 ≤ s.dict.drafts.length →
      answered (.draftOpen st r) 3 r.draft.toNat .throttled .busy [] s.dict.drafts) ∧
    (∀ op l d, opItems (o op) = some l → draftOf w (o op) = some d →
      let v := setDraft w d
      (op = 4 → items (.draftWrite st r) op (stageItems v d l).1 (setDraft v (stageItems v d l).2).dict.drafts) ∧
      (op = 5 → items (.check st r) op (crossItems (crossFields v d.staged)) v.dict.drafts) ∧
      (op = 7 → answered (.discard st r) op r.draft.toNat .ok .none []
        (v.dict.drafts.filter (fun e => decide (e.handle ≠ d.handle)))) ∧
      (op = 8 →
        let rest := d.staged.drop r.start.toNat
        let l := takeFitting 16 (rest.map stagedItem)
        answered (.draftRead st r) op r.draft.toNat (if l.length < rest.length then .short else .ok) .none l v.dict.drafts)) ∧
    (∀ e ∈ [(Instr.read st r, 1), (.write st r, 2), (.draftOpen st r, 3), (.draftWrite st r, 4), (.check st r, 5), (.ink st r, 6),
        (.discard st r, 7), (.draftRead st r, 8), (.describe st r, 0x20)],
      (opItems (o e.2) = none → answered e.1 e.2 r.draft.toNat .range .frame [] s.dict.drafts) ∧
      (∀ l, opItems (o e.2) = some l → 4 ≤ e.2 → e.2 ≤ 8 → draftOf w (o e.2) = none →
        answered e.1 e.2 r.draft.toNat .range .noDraft [] s.dict.drafts))

/-- WRITE: the items of a well-formed request apply in order, each as a one-entry ink of its own (R69), and the answer carries what was
stored; one item that is stored comes into force under a higher generation, and is answered with the value stored. INK: a draft of the
same source that fails no rule across fields is being carried out from here, and nothing is answered yet (R85, R90); one that fails a rule
is answered as CHECK answers it. -/
def Obligations.WriteAndInkAreTaken : Prop :=
  ∀ (s : State) (st : Station) (r : VReq), freshRequest s st r → idleDict s →
    let w := { counted s st.addr with dict.waiting := [] }
    let o (op : Nat) : DictOp := ⟨.station st.addr, op, r, s.now⟩
    (∀ l, opItems (o 2) = some l → exec (.write st r) s =
      .next (keepQueue s (drainOps 1 (answerCounted (writeItems (o 2) w l).2 (o 2) (writeItems (o 2) w l).1)))) ∧
    (∀ i v stat, opItems (o 2) = some [i] → judge w false i = .stored v stat → itemKey i ≠ odKey 0xA200 3 →
      let a := storedItem w i v stat
      let t := countItems (inkValues (.station st.addr) s.now w [(itemKey i, v)]) [a]
      ∃ b, b = vervoResponse 2 r.seq.toNat (generation t) r.draft.toNat stat .none [a] ∧
        exec (.write st r) s = .next (keepQueue s (drainOps 1 (sendResponse t (.station st.addr) r.seq.toNat true b)))) ∧
    (∀ l d, opItems (o 6) = some l → draftOf w (o 6) = some d →
      let v := setDraft w d
      (crossFields v d.staged = [] →
        ∃ t, exec (.ink st r) s = .next t ∧ t = keepQueue s { v with dict.ink := some (o 6), dict.inkDone := false } ∧ t.out = s.out ∧
          t.blobs = s.blobs ∧ ∀ k, k / 256 ≠ 0xF001 → odGet t k = odGet s k) ∧
      (crossFields v d.staged ≠ [] →
        ∃ t, exec (.ink st r) s = .next t ∧ t.dict.ink = none ∧ t.dict.drafts = v.dict.drafts ∧
          t.out = s.out ++ [datagram st.addr (vervoResponse 6 r.seq.toNat (generation s) r.draft.toNat .range .none
            (crossItems (crossFields v d.staged)))]))

/-- A datagram that is not from a link-local source with hop limit 255, or is not to UDP port 48,816, or has a wrong checksum, is not
taken: no operation of a station does anything with it (R61, R62). -/
def Obligations.ForeignDatagramsAreDropped : Prop :=
  ∀ (s : State) (st : Station) (r : VReq) (c : Instr),
    (linkLocal st.addr = false ∨ st.hop ≠ 255 ∨ st.port ≠ 48816 ∨ st.sumOk = false) →
    c ∈ [Instr.read st r, .write st r, .draftOpen st r, .draftWrite st r, .check st r, .ink st r, .discard st r, .draftRead st r,
      .describe st r, .notifyAck st r] → exec c s = .next s

/-- INK_COMMIT: where the draft still fails no rule across fields, its staged values come into force, OD 0xE000.02 shows the draft's ID
and the draft closes (R85, R91, R92); where it fails one, the failure is answered and the draft stays open. INK_ABORTED: nothing applies, the
draft stays open, and the INK is answered THROTTLED with INK_ABORTED (R91). DRAFT_IDLE_TIMEOUT: a draft that is not being inked is
discarded (R83). COMPOSITION_DEADLINE: step 4 of the compositions under way ends (R611). -/
def Obligations.InksEnd : Prop :=
  ∀ s : State, s.power.on = true →
    (∀ o d, s.dict.ink = some o → s.dict.inkDone = false → draftOf s o = some d →
      (crossFields s d.staged = [] →
        exec .inkCommit s = .next (keepQueue s (takeOps (composeAnswer (inkValues o.src o.since
          (odSet (closeDraft { s with dict.inkDone := true } d.handle) (odKey 0xE000 2) (draftId d)) d.staged))))) ∧
      (crossFields s d.staged ≠ [] → s.dict.waiting = [] →
        ∃ t, exec .inkCommit s = .next t ∧ t.dict.ink = none ∧ t.dict.drafts = s.dict.drafts ∧ t.blobs = s.blobs ∧
          (∀ k, k / 256 ≠ 0xF001 → odGet t k = odGet s k) ∧
          ∀ a, o.src = .station a → t.out = s.out ++ [datagram a (vervoResponse o.op o.req.seq.toNat (generation s) o.req.draft.toNat .range
            .none (crossItems (crossFields s d.staged)))])) ∧
    (∀ o, s.dict.ink = some o → s.dict.inkDone = false → s.dict.waiting = [] →
      ∃ t, exec .inkAborted s = .next t ∧ t.dict.ink = none ∧ t.dict.drafts = s.dict.drafts ∧ t.od = s.od ∧ t.blobs = s.blobs ∧
        ∀ a, o.src = .station a → t.out = s.out ++ [datagram a (vervoResponse o.op o.req.seq.toNat (generation s) o.req.draft.toNat
          .throttled .inkAborted [])]) ∧
    (∀ h : BitVec 16, (∀ o, s.dict.ink = some o → o.req.draft ≠ h) →
      ∃ t, exec (.draftIdleTimeout h) s = .next t ∧ t.dict.drafts = s.dict.drafts.filter (fun d => decide (d.handle ≠ h.toNat)) ∧ t.od = s.od) ∧
    exec .compositionDeadline s = .next (keepQueue s (takeOps (composeDeadline s)))

/-- CONFIG_SAVE: an entry applied and not yet saved reaches the configuration area, from which its value is then read, the default where it lists
none (R54, R525). RESTORE_DEFAULTS: one ink of OD 0xE000.05 = 1, in its turn (R55, R78). NOTIFY_REPEAT: an unacknowledged notification is sent again (R74). NOTIFY_ACK: it
is no longer repeated. NEIGHBOR_DISCOVERY and ECHO are answered on the link (R61). -/
def Obligations.DictionaryHousekeeping : Prop :=
  ∀ s : State, s.power.on = true →
    (∀ (i : BitVec 16) (j : BitVec 8), odKey i.toNat j.toNat ∈ s.dict.unsaved →
      ∃ t, exec (.configSave i j) s = .next t ∧ odKey i.toNat j.toNat ∉ t.dict.unsaved ∧ t.od = s.od ∧ t.blobs = s.blobs ∧
        t.fw.config = (configSaved s (odKey i.toNat j.toNat)).fw.config ∧
        ((entryBytes s (odKey i.toNat j.toNat)).length < 2 ^ 16 →
          (tblFind (configValues (configHalf t.fw.config)) (odKey i.toNat j.toNat)).getD (defaultBytes (odKey i.toNat j.toNat)) =
            entryBytes s (odKey i.toNat j.toNat))) ∧
    (dictUp s = true → exec .restoreDefaults s = .next (keepQueue s (submitOp s (.window 0) opRestore ⟨1, 0, 0, 0, 0, []⟩)) ∧
      (idleDict s →
        exec .restoreDefaults s = .next (keepQueue s (drainOps 1 (inkValues (.window 0) s.now s [(odKey 0xE000 5, .num 1)]))))) ∧
    (∀ (q : BitVec 32) (n : Notify), s.dict.notifies.find? (fun n => decide (n.seq = q.toNat)) = some n →
      ∃ t, exec (.notifyRepeat q) s = .next t ∧ t.out = s.out ++ [datagram allNodes n.body] ∧ t.od = s.od ∧ t.mem = s.mem) ∧
    (∀ st r, datagramOk s st = true →
      ∃ t, exec (.notifyAck st r) s = .next t ∧ t.dict.notifies = s.dict.notifies.filter (fun n => decide (n.seq ≠ r.seq.toNat)) ∧
        t.out = s.out ∧ t.od = s.od) ∧
    (∀ a : Ip6, dictUp s = true → linkLocal a = true →
      exec (.neighborDiscovery a ownAddress) s = .next { s with out := s.out ++ [.neighborAdvert a ownAddress] } ∧
      ∀ b, exec (.echo a b) s = .next { s with out := s.out ++ [.echoReply a b] })

/-- GO of an open window that is not BUSY is taken as a request of that window, in its turn; with a LENGTH outside 16 to 1,440 it is
answered as malformed in its turn; one to a BUSY window is dropped and counted in OD 0xF001.04; without GO the write sets LENGTH (R76,
R77, R78). -/
def Obligations.WindowGo : Prop :=
  ∀ (s : State) (p : Fin 8) (v : BitVec 32), s.power.on = true → dictUp s = true → urzenState s p.val = 2 → odGet s (odKey 0x7000 1) = 1 →
    let w := windowOfPort s p.val
    let len := field v.toNat 16 11
    let taken := odBump (setDictWindow s p.val { w with reqLen := len, busy := true, done := false }) (odKey 0xF001 1) 1
    let buf := padTo 1440 w.req
    (bitOf v.toNat 0 = false → exec (.go p v) s = .next (keepQueue s (setDictWindow s p.val { w with reqLen := len }))) ∧
    (bitOf v.toNat 0 = true → w.busy = true → exec (.go p v) s = .next (keepQueue s (odBump s (odKey 0xF001 4) 1))) ∧
    (bitOf v.toNat 0 = true → w.busy = false → 16 ≤ len → len ≤ 1440 →
      exec (.go p v) s = .next (keepQueue s (submitOp taken (.window p) (leAt buf 1 1) (bufferReq (buf.take len))))) ∧
    (bitOf v.toNat 0 = true → w.busy = false → (len < 16 ∨ 1440 < len) →
      exec (.go p v) s = .next (keepQueue s (submitOp taken (.window p) (leAt buf 1 1 + opBadLength) (bufferReq buf))) ∧
      (idleDict s → ∃ t, exec (.go p v) s = .next t ∧ (windowOfPort t p.val).busy = false ∧ (windowOfPort t p.val).done = true ∧
        (windowOfPort t p.val).respLen = 16 ∧ leAt (windowOfPort t p.val).resp 10 1 = statusCode .range ∧
        leAt (windowOfPort t p.val).resp 11 1 = reasonCode .frame))

/-- Accesses to context windows (R76, R77, R343, R478-R480, R659). A read of an admitted page with a size the page takes is answered OK
with its TAG and data, any other with RANGE and zeros. A write of a window's request buffer stores its bytes, one of DW_CTRL acts as R76
says. A doorbell ahead of the tail and within the ring moves the tail and the queue is taken up; a write of a flag's count clears the flag
where the count still matches, and changes nothing where it does not. Both wait while earlier host writes of their function have not been
ordered (R482). A write that is not admitted changes nothing. -/
def Obligations.ContextWindowAccesses : Prop :=
  ∀ (s : State) (a : CwAccess), s.power.on = true →
    let answer (st : Status) (data : Bytes) : State :=
      sendUrzen s a.port.val 0x2C (statusCode st) a.ctx.toNat a.tag.toNat a.addr.toNat (cwLen a - 1) 0 0 data
    (cwAdmitted s a = true → cwSized a false = true →
      (cwPage a = 0 →
        exec (.cwRd a) s = .next (keepQueue s (answer .ok (dwRead (windowOfPort s a.port.val) (cwOff a) (cwLen a))))) ∧
      (cwPage a ≠ 0 → exec (.cwRd a) s = .next (keepQueue s (answer .ok (natLe (cwLen a) (cwRead s (cwPage a) (cwOff a))))))) ∧
    ((cwAdmitted s a = false ∨ cwSized a false = false) →
      exec (.cwRd a) s = .next (keepQueue s (answer .range (natLe (cwLen a) 0)))) ∧
    (∀ data : Bytes, cwAdmitted s a = true → cwSized a true = true → cwPage a = 0 → data.length = cwLen a →
      (0x100 ≤ cwOff a → cwOff a + cwLen a ≤ 0x6A0 →
        ∃ t, exec (.registerWrite a data) s = .next t ∧
          (windowOfPort t a.port.val).req = spliceBytes (padTo 1440 (windowOfPort s a.port.val).req) (cwOff a - 0x100) data ∧
          t.out = s.out ∧ t.od = s.od ∧ t.mem = s.mem ∧ t.q = s.q) ∧
      (cwOff a = 0 → cwLen a = 4 → dictUp s = true →
        exec (.registerWrite a data) s = .next (keepQueue s (windowControl s a.port (leNat data))))) ∧
    (∀ v : BitVec 64, cwAdmitted s a = true → cwPage a ≠ 0 → cwOff a = 0 → cwLen a = 8 →
      let q := v.toNat % 16
      let tail := field v.toNat 32 32
      (hostWaits s a.port.val (cwPage a) ≠ [] → exec (.doorbell a v) s = .next { s with
        fab.heldCw := s.fab.heldCw ++ [⟨a.port.val, cwPage a, 0, v.toNat, hostWaits s a.port.val (cwPage a)⟩] }) ∧
      (hostWaits s a.port.val (cwPage a) = [] →
        exec (.doorbell a v) s = .next (keepQueue s (ringDoorbell s (cwPage a) q tail)) ∧
        ∀ x, queueOf s (cwPage a) q = some x → x.tail ≠ tail → (tail + 2 ^ 32 - x.tail) % 2 ^ 32 < 2 ^ 31 →
          (tail + 2 ^ 32 - x.head) % 2 ^ 32 ≤ 2 ^ x.log2 → x.tail < 2 ^ 32 →
          exec (.doorbell a v) s = .next (keepQueue s (queuePoll (acquireIn
            (setQueue s (cwPage a) q { x with tail := tail, stamps := addStamp s x tail }) (locProc s x.scribe) 4) (cwPage a) q)))) ∧
    (∀ v : BitVec 32, cwAdmitted s a = true → cwPage a ≠ 0 → 0x80 ≤ cwOff a → cwOff a < 0xC0 → cwOff a % 4 = 0 → cwLen a = 4 →
      let n := (cwOff a - 0x80) / 4
      let f := flagGet s (cwPage a) n
      (hostWaits s a.port.val (cwPage a) ≠ [] → exec (.flagClear a v) s = .next { s with
        fab.heldCw := s.fab.heldCw ++ [⟨a.port.val, cwPage a, cwOff a, v.toNat, hostWaits s a.port.val (cwPage a)⟩] }) ∧
      (hostWaits s a.port.val (cwPage a) = [] →
        (f.count = v.toNat → ∃ t, exec (.flagClear a v) s = .next t ∧ flagGet t (cwPage a) n = ⟨f.count, f.count, f.last⟩ ∧
          t.out = s.out ∧ t.od = s.od ∧ t.mem = s.mem) ∧
        (f.count ≠ v.toNat → exec (.flagClear a v) s = .next s))) ∧
    (cwAdmitted s a = false → ∀ (v : BitVec 64) (u : BitVec 32) (data : Bytes),
      exec (.registerWrite a data) s = .next s ∧ exec (.doorbell a v) s = .next s ∧ exec (.flagClear a u) s = .next s)

/-! ## Descriptors begin -/

/-- A queue that is looked at where it stands dispatches its next descriptor as R147 to R157 ask: it is enabled and its context and processor
work, a doorbell has named the descriptor, its slot can be read, no FENCE and no wait holds it, its header passes check 1 and its opcode is
one of its KIND; and one that dispatches a descriptor begins its own work, by its opcode, whatever its other fields hold (R156): of a Nib queue
(R158, R162, R168, R177, R189, R583), of a tier queue on the active management core (R203, R205), of a Feed queue (R257), of a Quill
queue (R356) and of a fabric queue (R449), all under the generation stamped on the descriptor (R87). -/
def Obligations.DescriptorsBegin : Prop :=
  ∀ (s : State) (c : Ctx) (q : QNum) (x : Queue) (d : Nat),
    let w := begun s c.toNat q.val x
    let begins (i : Instr) (t : State) : Prop := exec i s = .next (ended s c.toNat q.val x t)
    (∀ y, s.power.on = true → queueOf s c.toNat q.val = some y → ctxActive s c.toNat = true → s.tier.admitting = true →
      procRunning s y.scribe = true → y.disp ≠ y.tail → stepHolds s c.toNat q.val = false →
      pinnedOk s c.toNat (slotCva y y.disp) 64 .read = true → cvaFree s c.toNat (slotCva y y.disp) 64 = true →
      (cvaBytes s c.toNat (slotCva y y.disp) 64).2 = false → d = leNat (cvaBytes s c.toNat (slotCva y y.disp) 64).1 →
      (fenced y.kind d = true → y.head = y.disp) → fenceHeld s c.toNat d = false → headerOk s c.toNat y.kind d = true →
      (dWaitEn d = true → y.wait = .satisfied) → opDefined y.kind d = true → queueOf (beginWork s c.toNat q.val y d) c.toNat q.val = some x →
      due s c.toNat q.val y.kind x d ∧ workState s c.toNat q.val = beginWork s c.toNat q.val y d) ∧
    (due s c.toNat q.val 1 x d →
      (dOp d = 1 → begins (.matmul c q) (doMatmul w c.toNat q.val x d)) ∧
      (dOp d = 2 → begins (.attn c q) (doAttn w c.toNat q.val x d)) ∧
      (dOp d = 3 → field d 140 4 = 0 → begins (.rmsnorm c q) (doRowop w c.toNat q.val x d)) ∧
      (dOp d = 3 → field d 140 4 = 1 → begins (.layernorm c q) (doRowop w c.toNat q.val x d)) ∧
      (dOp d = 3 → field d 140 4 = 2 → begins (.softmax c q) (doRowop w c.toNat q.val x d)) ∧
      (dOp d = 4 → begins (.windowOpen c q) (doWindowOpen w c.toNat q.val x d)) ∧
      (dOp d = 5 → begins (.windowClose c q) (doWindowClose w c.toNat q.val x d)) ∧
      (dOp d = 0xF → (∀ j ∈ s.q.jobs, ¬(j.ctx = c.toNat ∧ j.queue = q.val ∧ (commitOf j).isSome)) →
        ∀ io, begins (.stepCommit c q io) (doCommit w c.toNat q.val x d io))) ∧
    (due s c.toNat q.val 4 x d → coreUp w = true →
      (dOp d = 0x20 → begins (.alloc c q) (doAlloc w c.toNat q.val x d)) ∧
      (dOp d = 0x21 → begins (.free c q) (doFree w c.toNat q.val x d)) ∧
      (dOp d = 0x22 → begins (.pin c q) (doPin w c.toNat q.val x d true)) ∧
      (dOp d = 0x23 → begins (.unpin c q) (doPin w c.toNat q.val x d false)) ∧
      (dOp d = 0x24 → begins (.place c q) (doPlace w c.toNat q.val x d))) ∧
    (due s c.toNat q.val 2 x d →
      (dOp d = 0x40 → begins (.copy c q) (startCopy false w c.toNat q.val x d)) ∧
      (dOp d = 0x41 → begins (.fill c q) (startCopy true w c.toNat q.val x d))) ∧
    (due s c.toNat q.val 6 x d →
      (dOp d = 0x60 → begins (.search c q) (doSearch w c.toNat q.val x d)) ∧
      (dOp d = 0x61 → cutOver s = false → begins (.staleScan c q) (doStaleScan w c.toNat q.val x d))) ∧
    (due s c.toNat q.val 7 x d →
      (dOp d = 0x70 → begins (.atomic c q) (doAtomicDesc w c.toNat q.val x d)) ∧
      (dOp d = 0x71 → begins (.send c q) (doSend w c.toNat q.val x d)) ∧
      (dOp d = 0x72 → begins (.mboxOpen c q) (doMbox w c.toNat q.val x d)) ∧
      (dOp d = 0x73 → begins (.ownAcquire c q) (doOwnAcquire w c.toNat q.val x d)) ∧
      (dOp d = 0x74 → begins (.ownRelease c q) (doOwnRelease w c.toNat q.val x d)) ∧
      (dOp d = 0x75 → begins (.flush c q) (startDrain w c.toNat q.val x d false 0)))

/-! ## Descriptors of Nib queues -/

/-- NOP: on a queue of any KIND, its job is complete at once with OK, and the queue's next descriptor is the one after it; nothing else of
the queue and nothing of memory changes (R156). -/
def Obligations.NopCompletes : Prop :=
  ∀ (s : State) (c : Ctx) (q : QNum) (x : Queue) (d k : Nat), due s c.toNat q.val k x d → dOp d = 0 → 1 ≤ k → k ≤ 7 → x.kind = k →
    let w := begun s c.toNat q.val x
    ∃ t, exec (.nop c q) s = .next t ∧
      (∃ j, t.q.jobs = w.q.jobs ++ [j] ∧ j.ctx = c.toNat ∧ j.queue = q.val ∧ j.idx = x.disp ∧ j.tag = dTag d ∧
        j.result = some (plainRecord k .ok d)) ∧
      (∃ y, queueOf t c.toNat q.val = some y ∧ y.disp = (x.disp + 1) % 2 ^ 32 ∧ y.head = x.head ∧ y.tail = x.tail ∧ y.kind = x.kind) ∧
      t.mem = w.mem ∧ t.od = (ended s c.toNat q.val x w).od ∧ t.q.mordants = w.q.mordants ∧ t.q.flags = w.q.flags ∧ t.xlat = w.xlat ∧
      t.coh = w.coh

/-- R320, R332, R336, R337: MADD adds its operand and MSET stores it, modulo 2^64, and both record the scope and the instance of the release; the
record of all three returns the value before the operation; MREAD changes no mordant. A MADD or MSET releases the stores of its context
first, and waits while one of them has not reached its home; with none of them held it leaves memory as it is, and so does an MREAD that
is no acquire at die scope. An operation on a mordant that is not the context's completes with RANGE and changes no mordant and no memory. -/
def Obligations.SyncDescriptors : Prop :=
  ∀ (s : State) (c : Ctx) (q : QNum) (x : Queue) (d : Nat), due s c.toNat q.val 5 x d →
    let w := begun s c.toNat q.val x
    let m := sMid d
    let old := mordGet w m
    let inst := (instanceOf w c.toNat q.val x (dScope d)).1
    let v := (instanceOf w c.toNat q.val x (dScope d)).2
    let u := releaseIn v c.toNat inst (dScope d)
    let ran (i : Instr) (value : Nat) : Prop :=
      (unreleased u c.toNat inst (dScope d) ≠ [] → exec i s = .next (ended s c.toNat q.val x u)) ∧
      (unreleased u c.toNat inst (dScope d) = [] → exec i s = .next (ended s c.toNat q.val x (mordUpdate
        (syncEnd u c.toNat q.val x d .ok old.value old.lscope) m value (dScope d) inst))) ∧
      (unreleased v c.toNat inst (dScope d) = [] → ∃ t, exec i s = .next t ∧
        mordGet t m = { old with value := value % 2 ^ 64, lscope := dScope d, lloc := inst } ∧
        (∀ n, n ≠ m → mordGet t n = mordGet w n) ∧ t.mem = w.mem ∧
        ∃ j, t.q.jobs = w.q.jobs ++ [j] ∧ j.result = some (recSync .ok (dOp d) (dTag d) old.value old.lscope))
    (mordOwned w c.toNat m = true →
      (dOp d = 0x50 → ran (.madd c q) (old.value + sOperand d)) ∧
      (dOp d = 0x51 → ran (.mset c q) (sOperand d)) ∧
      (dOp d = 0x52 → ∃ t, exec (.mread c q) s = .next t ∧ (∀ n, mordGet t n = mordGet w n) ∧ (dScope d ≠ 3 → t.mem = w.mem) ∧
        ∃ j, t.q.jobs = w.q.jobs ++ [j] ∧ j.result = some (recSync .ok (dOp d) (dTag d) old.value old.lscope))) ∧
    (mordOwned w c.toNat m = false → ∀ i ∈ [(0x50, Instr.madd c q), (0x51, .mset c q), (0x52, .mread c q)], dOp d = i.1 →
      ∃ t, exec i.2 s = .next t ∧ t.q.mordants = w.q.mordants ∧ t.mem = w.mem ∧
        ∃ j, t.q.jobs = w.q.jobs ++ [j] ∧ j.result = some (recSync .range (dOp d) (dTag d) 0 0))

/-- Tasks. TASK_START: a ready task of an ACTIVE context, whose turn it is by the share weights, takes a free cluster that is up; a cluster with a
Nib for every row group and every strip of it takes it whole, and nothing but the tasks and the count of the shares changes (R173, R174).
TASK_END ends the task, SHADOW_CHECK compares a sampled tile, and PROMOTED_RUN_END ends the reference run of a promoted MATMUL (R131, R139,
R170-R174); none of these three runs after the cut of a flush. -/
def Obligations.NibWorkGoesOn : Prop :=
  ∀ s : State, s.power.on = true →
    (∀ (k : Fin 288) (n : Nat) (t : Task), tblFind s.q.tasks n = some t → t.cluster = none →
      (∀ e ∈ s.q.tasks, e.2.cluster ≠ some k.val) → admitting s = true → clusterUp s (nibCluster k.val).1 (nibCluster k.val).2 = true →
      ctxActive s t.ctx = true →
      ((nibWeight s t.ctx ≠ 0 ∧ inShare (nibWeight s) (handedOut s) t.ctx 288 = true) ∨
        (nibWeight s t.ctx = 0 ∧ ∀ e ∈ s.q.tasks, e.2.cluster = none → e.2.ctx = t.ctx)) →
      exec (.taskStart k n) s = .next (keepQueue s (startTask s n t k.val)) ∧
      (t.groups ≤ nibsUp s k.val → t.strips ≤ nibsUp s k.val → ∃ u, exec (.taskStart k n) s = .next u ∧
        u.q.tasks = tblSet s.q.tasks n { t with cluster := some k.val } ∧ u.q.jobs = s.q.jobs ∧ u.mem = s.mem ∧ u.od = s.od)) ∧
    (cutOver s = false → ∀ n t, tblFind s.q.tasks n = some t → t.cluster ≠ none →
      exec (.taskEnd n) s = .next (keepQueue s (endTask s n t))) ∧
    (∀ (c : Ctx) (q : QNum) (i : BitVec 32) j m, cutOver s = false → matmulJob s c.toNat q.val i.toNat = some (j, m) →
      (ctxActive s c.toNat = true → ∀ tile, exec (.shadowCheck c q i tile) s = .next (keepQueue s (shadowTile s j m tile))) ∧
      (m.promoting = true → exec (.promotedRunEnd c q i) s = .next (keepQueue s (promotedRun s j m))))

/-- DESCRIPTOR_COMPLETE: the stores of a descriptor whose work has ended are released at its scope first (R328); where they have reached their
homes and the lines of its completion record are free, the record is written, the head moves and the flags and the signal follow
(R150-R153); while the lines are held elsewhere they are asked for. A queue that is no longer enabled holds nothing back. -/
def Obligations.DescriptorsComplete : Prop :=
  ∀ (s : State) (c : Ctx) (q : QNum) (i : BitVec 32) (j : Job) (r : Nat), s.power.on = true → jobFind s c.toNat q.val i.toNat = some j →
    j.result = some r →
    (queueOf s c.toNat q.val = none → exec (.descriptorComplete c q i) s = .next (keepQueue s (completeJob s j r))) ∧
    (∀ x, queueOf s c.toNat q.val = some x → cutOver s = false →
      let u := (jobRelease s j).1
      ((jobRelease s j).2 = true → exec (.descriptorComplete c q i) s = .next (keepQueue s u)) ∧
      ((jobRelease s j).2 = false → recordTakes u c.toNat x j.idx = true →
        exec (.descriptorComplete c q i) s = .next (keepQueue s (completeJob u j r))) ∧
      ((jobRelease s j).2 = false → recordTakes u c.toNat x j.idx = false →
        exec (.descriptorComplete c q i) s =
          .next (keepQueue s (askWrites u (saParts u c.toNat (x.compl + 32 * (j.idx % 2 ^ x.log2)) 32)))))

/-- Layer windows. WINDOW_FILL_START begins the next fill of an open window where its slot is free (R180, R181); WINDOW_FILL_DONE ends a fill whose
streams have all ended, frees its place in flight and counts it, and FILLED_ID follows (R182, R187); WINDOW_STALL reports a descriptor that
has waited for a fill, once (R186). -/
def Obligations.LayerWindows : Prop :=
  ∀ (s : State) (c : Ctx) (n : Fin 16) (w : Window), s.power.on = true →
    let k := winKey c.toNat n.val
    windowOf s k = some w →
    (∀ g, nextToStart w = some g → mayStart s w g = true → slotsFree s (streamCount (fillLayer w g).2.1) = true → ctxActive s w.ctx = true →
      admitting s = true →
      exec (.windowFillStart c n) s = .next (keepQueue s
        (setWindow (startStreams s (newStream (.fill k g) w.gen w.ctx w.queue w.tag (fillLayer w g).1 (slotAddr w g) (fillLayer w g).2.1) (fillLayer w g).2.1) k
          { updFill w g (fun f => { f with started := true, streams := streamCount (fillLayer w g).2.1 }) with
            nextFill := max w.nextFill (g + 1), inFlight := w.inFlight + 1 }))) ∧
    (∀ g, let xs := (streamsOf s (.fill k g)).map (·.2)
      xs ≠ [] → xs.all (·.done) = true →
      exec (.windowFillDone c n g) s = .next (keepQueue s (advanceFilled (w.fills.length + 1)
        (odBump (odBump (setWindow (dropStreams s (.fill k g)) k
          { updFill w g (fun f => { f with done := true, status := statusOf (xs.map (·.status)), bytes := (xs.map (·.bytes)).sum }) with
            inFlight := w.inFlight - 1 }) (odKey 0x2201 2) (xs.map (·.bytes)).sum)
          (odKey 0x2201 (if statusOf (xs.map (·.status)) = .ok then 1 else 3)) 1) k))) ∧
    (∀ (q : QNum) v y, s.q.windows.find? (fun e => e.2.waiters.any (fun x => decide (x.1 = qKey c.toNat q.val) && stalled e.2 x)) = some (k, v) →
      v.waiters.find? (fun x => decide (x.1 = qKey c.toNat q.val)) = some y →
      ∃ t, exec (.windowStall c q) s = .next t ∧ odGet t (odKey 0x2201 4) = (odGet s (odKey 0x2201 4) + 1) % 2 ^ 64 ∧
        (∃ e ∈ t.log, e.name = "WINDOW_STALL" ∧ e.args = [k % 16, y.2.1 % max v.nlayers 1, y.2.1]) ∧ t.mem = s.mem)

/-! ## Descriptors of the other queues -/

/-- Translation descriptors begin on the active management core (R253-R256, R276-R278): MAP, UNMAP and PROTECT; RESOLVE lets the held stream go
on, FAIL ends it with FAULT_UNRESOLVED, both RANGE where no such fault is held; ADVANCE moves the consumed index of a group that the
context resolves, RANGE otherwise. -/
def Obligations.TranslationDescriptorsBegin : Prop :=
  ∀ (s : State) (c : Ctx) (q : QNum) (x : Queue) (d : Nat), due s c.toNat q.val 3 x d →
    let w := begun s c.toNat q.val x
    let runs (i : Instr) (t : State) : Prop := exec i s = .next (ended s c.toNat q.val x t)
    coreUp w = true →
    (dOp d = 0x30 → runs (.map c q) (doMap w c.toNat q.val x d)) ∧
    (dOp d = 0x31 → runs (.unmap c q) (doUnmap w c.toNat q.val x d)) ∧
    (dOp d = 0x32 → runs (.protect c q) (doProtect w c.toNat q.val x d)) ∧
    (∀ i y f, field d 256 16 = i → streamOf w i = some y → y.fault = some f → f.seq = field d 272 32 →
      odGet w (odKey 0x4100 f.group) = c.toNat → ctxActive w y.ctx = true →
      (dOp d = 0x33 → runs (.resolve c q) (issueChunk (clearFault (tierEnd w c.toNat q.val x d .ok 0) i) i none)) ∧
      (dOp d = 0x34 → runs (.fail c q) (endStream (clearFault (tierEnd w c.toNat q.val x d .ok 0) i) i (standsAt y) .faultUnresolved))) ∧
    (heldStream w c.toNat d = none →
      (dOp d = 0x33 → runs (.resolve c q) (tierEnd w c.toNat q.val x d .range 0)) ∧
      (dOp d = 0x34 → runs (.fail c q) (tierEnd w c.toNat q.val x d .range 0))) ∧
    (let g := field d 256 6
     let h := field d 272 32
     let gr := groupOf w g
     dOp d = 0x35 →
      ((odGet w (odKey 0x4100 g) = c.toNat ∧ (h + 2 ^ 32 - gr.consumed) % 2 ^ 32 ≤ (gr.posted + 2 ^ 32 - gr.consumed) % 2 ^ 32) →
        runs (.advance c q) (drainParked (setGroup (tierEnd w c.toNat q.val x d .ok 0) g { gr with consumed := h }) g)) ∧
      (¬(odGet w (odKey 0x4100 g) = c.toNat ∧ (h + 2 ^ 32 - gr.consumed) % 2 ^ 32 ≤ (gr.posted + 2 ^ 32 - gr.consumed) % 2 ^ 32) →
        runs (.advance c q) (tierEnd w c.toNat q.val x d .range 0)))


/-! ## Descriptors whose checks pass -/

/-- Nib descriptors whose checks pass (R157). A MATMUL that takes its weights from a CVA draws its sampled tiles and puts its tasks on the
boards (R131, R170); one that names a layer window is bound to a fill first (R183). An ATTN runs or waits for its slots (R166, R167). A
ROWOP runs every row and completes with OK (R168). WINDOW_CLOSE of a window that is open drops its unbound fills and waits for the bound
ones (R189). -/
def Obligations.NibDescriptorsRun : Prop :=
  ∀ (s : State) (c : Ctx) (q : QNum) (x : Queue) (d : Nat), due s c.toNat q.val 1 x d →
    let w := begun s c.toNat q.val x
    let runs (i : Instr) (t : State) : Prop := exec i s = .next (ended s c.toNat q.val x t)
    (∀ ob m, dOp d = 1 → matmulFields d = true → bitOf d 148 = false → pinnedOk w c.toNat (field d 448 64) 64 .read = true →
      cvaFree w c.toNat (field d 448 64) 64 = true → cvaBytes w c.toNat (field d 448 64) 64 = (ob, false) →
      m = { matmulOf d (leNat ob) (stamped w x) with wref := field d 256 64, bound := none } → operandsOk w c.toNat m = true →
      imagePinned w c.toNat m.wfmt (mK m) m.wref m.strips = true → runs (.matmul c q) (matmulBegins w c.toNat q.val x d m)) ∧
    (∀ v g win ob m, dOp d = 1 → matmulFields d = true → bitOf d 148 = true →
      bindFill w c.toNat q.val x.disp (field d 256 4) (field d 260 12) = .ready v g → windowOf v (winKey c.toNat (field d 256 4)) = some win →
      16 * field d 272 32 < (fillLayer win g).2.1 → pinnedOk v c.toNat (field d 448 64) 64 .read = true →
      cvaFree v c.toNat (field d 448 64) 64 = true → cvaBytes v c.toNat (field d 448 64) 64 = (ob, false) →
      m = { matmulOf d (leNat ob) (stamped v x) with
        wref := slotAddr win g + 16 * field d 272 32, bound := some (winKey c.toNat (field d 256 4), g) } →
      operandsOk v c.toNat m = true → imagePinned v c.toNat m.wfmt (mK m) m.wref m.strips = true →
      runs (.matmul c q) (matmulBegins v c.toNat q.val x d m)) ∧
    (let a := attnOf d
     dOp d = 2 → attnFields a = true → pinnedOk w c.toNat a.seqtab (64 + 32 * a.nseq) .read = true → attnFree w c.toNat d = true →
      tablesPoisoned w c.toNat a = false → attnOk w c.toNat a (seqNow w c.toNat a).1 (seqNow w c.toNat a).2 = true →
      anyPoison w c.toNat (attnReads w c.toNat a (seqNow w c.toNat a).1 (seqNow w c.toNat a).2) = false →
      runs (.attn c q) (attnBegins w c.toNat q.val x d ((seqNow w c.toNat a).2.map (·.slot)))) ∧
    (let r := rowOf d
     dOp d = 3 → rowOk w c.toNat r = true → allFree w c.toNat (rowReads r) = true → allTake w c.toNat (rowWrites r) = true →
      anyPoison w c.toNat (rowReads r) = false →
      (r.op = 0 → runs (.rmsnorm c q) (rowopRuns w c.toNat q.val x d)) ∧
      (r.op = 1 → runs (.layernorm c q) (rowopRuns w c.toNat q.val x d)) ∧
      (r.op = 2 → runs (.softmax c q) (rowopRuns w c.toNat q.val x d))) ∧
    (∀ v, dOp d = 5 → windowOf w (winKey c.toNat (field d 128 4)) = some v → v.closed = false →
      let k := winKey c.toNat (field d 128 4)
      let dropped := v.fills.filter (fun f => decide (f.bound = []))
      let u := addJob (dropped.foldl (fun s f => dropStreams s (.fill k f.g)) w) c.toNat q.val x d (.close k) none
      let v' := { v with fills := v.fills.filter (fun f => decide (f.bound ≠ [])), closed := true,
                         inFlight := v.inFlight - (dropped.filter (fun f => f.started && !f.done)).length,
                         closer := some (qKey c.toNat q.val, x.disp) }
      runs (.windowClose c q) (settleClose (startFills (flightLimit u v) (setWindow u k v') k) k))

/-- WINDOW_OPEN whose checks pass opens its window with the depth that its doorbell stamped; where 256 windows are open it completes with
THROTTLED (R177-R179, R188, R193). -/
def Obligations.WindowsOpen : Prop :=
  ∀ (s : State) (c : Ctx) (q : QNum) (x : Queue) (d : Nat), due s c.toNat q.val 1 x d → dOp d = 4 →
    let w := begun s c.toNat q.val x
    let n := field d 144 16
    let tab := field d 256 64
    let slots := field d 320 64
    let ls := layerTable w c.toNat tab n
    let depth := (stamped w x).getD 9 12
    1 ≤ n → n ≤ 4096 → mordOwned w c.toNat (field d 160 16) = true → mordOwned w c.toNat (field d 176 16) = true → tab % 32 = 0 →
    slots % 4096 = 0 → pinnedOk w c.toNat tab (32 * n) .read = true → cvaFree w c.toNat tab (32 * n) = true →
    (cvaBytes w c.toNat tab (32 * n)).2 = false →
    (∀ l ∈ ls, l.2.1 ≠ 2 ^ 40 - 1 ∧ l.2.1 ≠ 0 ∧ l.2.1 % 16 = 0 ∧ l.1 % 16 = 0 ∧ l.1 + l.2.1 ≤ cvaEnd ∧ (n ≤ depth ∨ l.2.2 ≠ 0)) →
    windowOf w (winKey c.toNat (field d 128 4)) = none → slotSizeOf ls ≤ (stamped w x).getD 10 8192 * 2 ^ 20 →
    pinnedOk w c.toNat slots (depth * slotSizeOf ls) .read = true → pinnedOk w c.toNat slots (depth * slotSizeOf ls) .write = true →
    inPlaced w c.toNat slots (depth * slotSizeOf ls) = true →
    (w.q.windows.length < 256 → exec (.windowOpen c q) s = .next (ended s c.toNat q.val x (windowOpens w c.toNat q.val x d ls depth))) ∧
    (256 ≤ w.q.windows.length → exec (.windowOpen c q) s = .next (ended s c.toNat q.val x (nibEnd w c.toNat q.val x d .throttled)))

/-- Tier descriptors whose checks pass (R205). ALLOC takes frames of its tier and completes with OK and its LENGTH; FREE begins the withdrawal of
its range, whose frames return when it ends; PIN and UNPIN set and clear the pin of DEVICE pages and complete with OK; PLACE completes at
once where every page lies in TIER and the context is within its quota there, and else its pages begin to move (R210, R213, R221). -/
def Obligations.TierDescriptorsRun : Prop :=
  ∀ (s : State) (c : Ctx) (q : QNum) (x : Queue) (d : Nat), due s c.toNat q.val 4 x d →
    let w := begun s c.toNat q.val x
    let runs (i : Instr) (t : State) : Prop := exec i s = .next (ended s c.toNat q.val x t)
    coreUp w = true → tierFields d = none →
    let v := (tRange d).1
    let n := (tRange d).2
    let t := rangeTable w c.toNat
    let ep := epochOf w c.toNat
    let ps := piecesOf t v n
    (∀ l u, dOp d = 0x20 → 1 ≤ tTier d → tTier d ≤ 3 → ¬(tTier d = 3 ∧ tPin d = true) → (∀ e ∈ ps, e.ty = .absent) →
      roomFor w c.toNat (tTier d) n = none → chooseFrames w c.toNat (tTier d) n = (some l, u) →
      let t' := replaceRange (epochOf u c.toNat) (rangeTable u c.toNat) v n (entriesOver u c.toNat (tTier d) (tPin d) v l)
      tableFits t' = true →
      runs (.alloc c q) (settleQuota (notePool (tierEnd
        (putTable (takeFrames (forgetUnits u c.toNat v n) c.toNat (tTier d) l) c.toNat t') c.toNat q.val x d .ok (tLen d)) (tTier d) false)
        c.toNat)) ∧
    (dOp d = 0x21 → movesIn w c.toNat v n = false → withdrawing w c.toNat = false → covered t v n = true →
      (∀ e ∈ ps, framesOf e ≠ none ∧ e.pin = false) → touchesFaultQueue w c.toNat v n = false → touchesExport w c.toNat v n = false →
      let t' := replaceRange ((ep + 1) % 2 ^ 32) t v n []
      tableFits t' = true →
      runs (.free c q) (beginWithdrawal (addJob w c.toNat q.val x d (.withdraw (tLen d)) none) c.toNat .free v n t'
        (some (qKey c.toNat q.val, x.disp)) [] (ps.filterMap framesOf))) ∧
    (∀ on : Bool, dOp d = (if on then 0x22 else 0x23) → movesIn w c.toNat v n = false → covered t v n = true →
      (on = true → ∀ e ∈ ps, e.ty = .device) → (on = false → touchesFaultQueue w c.toNat v n = false ∧ touchesExport w c.toNat v n = false) →
      let t' := replaceRange ep t v n (ps.map (fun e => if e.ty = .device ∧ e.pin ≠ on then { e with pin := on, epoch := ep } else e))
      tableFits t' = true →
      runs (if on then .pin c q else .unpin c q) (settleQuota (putTable (tierEnd w c.toNat q.val x d .ok (tLen d)) c.toNat t') c.toNat)) ∧
    (∀ l u, dOp d = 0x24 → movesIn w c.toNat v n = false → withdrawing w c.toNat = false → 1 ≤ tTier d → tTier d ≤ 3 → covered t v n = true →
      (∀ e ∈ ps, framesOf e ≠ none ∧ e.pin = false) →
      let away := ps.filter (fun e => decide ((framesOf e).map (·.1) ≠ some (tTier d)))
      let k := (away.map (·.pages)).sum
      roomFor w c.toNat (tTier d) k = none → chooseFrames w c.toNat (tTier d) k = (some l, u) →
      let ms := ((pagesIn u c.toNat away).zip (placesOf u c.toNat (tTier d) l)).map (fun p =>
        (⟨some (qKey c.toNat q.val, x.disp), c.toNat, p.1.1, tTier d, p.1.2, p.2, none, false⟩ : Move))
      tableFits (movedTable u t ms) = true →
      (ms = [] → runs (.place c q) (tierEnd u c.toNat q.val x d .ok (tLen d))) ∧
      (∀ m r, ms = m :: r →
        let v' := notePool (addJob (takeFrames u c.toNat (tTier d) l) c.toNat q.val x d (.place v n) none) (tTier d) false
        runs (.place c q) (copyPage { v' with tier.moves := v'.tier.moves ++ ms } m)))

/-- Translation descriptors whose checks pass (R255). MAP of an ABSENT range to an allowed target puts one entry over it and completes with OK;
UNMAP withdraws a range of HOST, PEER and ABSENT pages (R244); PROTECT that clears no right sets its rights and completes with OK, and one that
clears a right is a withdrawal that, for pinned pages, waits for the descriptors dispatched before it (R252). -/
def Obligations.TranslationDescriptorsRun : Prop :=
  ∀ (s : State) (c : Ctx) (q : QNum) (x : Queue) (d : Nat), due s c.toNat q.val 3 x d →
    let w := begun s c.toNat q.val x
    let runs (i : Instr) (t : State) : Prop := exec i s = .next (ended s c.toNat q.val x t)
    coreUp w = true → xlatFields d = none →
    let v := xArg d / 4096
    let n := xPages d
    let t := rangeTable w c.toNat
    let ep := epochOf w c.toNat
    let next := (ep + 1) % 2 ^ 32
    let ps := piecesOf t v n
    (∀ ty, dOp d = 0x30 → xType d = some ty → (∀ e ∈ ps, e.ty = .absent) → targetAllowed w c.toNat ty (xTarget d) (n * 4096) = true →
      let t' := replaceRange ep t v n [⟨v, n, ty, bitOf d 131, bitOf d 132, bitOf d 133, false, false, xTarget d / 4096, ep⟩]
      tableFits t' = true → runs (.map c q) (putTable (tierEnd w c.toNat q.val x d .ok (n * 4096)) c.toNat t')) ∧
    (dOp d = 0x31 → withdrawing w c.toNat = false → covered t v n = true → (∀ e ∈ ps, e.ty ≠ .device ∧ (e.ty = .host → e.t3 = false)) →
      tableFits (replaceRange next t v n []) = true →
      runs (.unmap c q) (beginWithdrawal (addJob w c.toNat q.val x d (.withdraw (n * 4096)) none) c.toNat .unmap v n
        (replaceRange next t v n []) (some (qKey c.toNat q.val, x.disp)) [] [])) ∧
    (let clears (e : RangeEntry) : Bool := (e.rd && !bitOf d 131) || (e.wr && !bitOf d 132) || (e.at_ && !bitOf d 133)
     let set (ep : Nat) := replaceRange ep t v n (ps.map (fun e => { e with rd := bitOf d 131, wr := bitOf d 132, at_ := bitOf d 133, epoch := ep }))
     dOp d = 0x32 → movesIn w c.toNat v n = false → covered t v n = true → (∀ e ∈ ps, e.ty ≠ .absent) →
      ((∀ e ∈ ps, clears e = false) → tableFits (set ep) = true →
        runs (.protect c q) (putTable (tierEnd w c.toNat q.val x d .ok (n * 4096)) c.toNat (set ep))) ∧
      ((∃ e ∈ ps, clears e = true) → withdrawing w c.toNat = false → tableFits (set next) = true →
        runs (.protect c q) (beginWithdrawal (addJob w c.toNat q.val x d (.withdraw (n * 4096)) none) c.toNat .protect v n
          (set next) (some (qKey c.toNat q.val, x.disp)) (if ps.any (fun e => e.pin && clears e) then pinUsers w c.toNat else []) [])))

/-- Feed and Quill descriptors whose checks pass. COPY and FILL begin one stream for each part of their length, where so many streams are free
(R258-R260); SEARCH lets its queries wait for hardware contexts (R359, R360); STALE_SCAN writes its records and completes (R386-R388). -/
def Obligations.FeedAndQuillDescriptorsRun : Prop :=
  ∀ (s : State) (c : Ctx) (q : QNum) (x : Queue) (d : Nat),
    let w := begun s c.toNat q.val x
    let runs (i : Instr) (t : State) : Prop := exec i s = .next (ended s c.toNat q.val x t)
    (due s c.toNat q.val 2 x d → slotsFree w (streamCount (field d 128 40)) = true →
      (dOp d = 0x40 → copyCheck w c.toNat d false = none →
        runs (.copy c q) (addJob (startStreams w (descStream false (genNow w) c.toNat q.val x d) (field d 128 40)) c.toNat q.val x d
          (.feed (streamCount (field d 128 40))) none)) ∧
      (dOp d = 0x41 → copyCheck w c.toNat d true = none →
        runs (.fill c q) (addJob (startStreams w (descStream true (genNow w) c.toNat q.val x d) (field d 128 40)) c.toNat q.val x d
          (.feed (streamCount (field d 128 40))) none))) ∧
    (due s c.toNat q.val 6 x d →
      let gcva := field d 256 64
      (let nq := field d 128 16
       let qtab := field d 320 64
       let g := graphOf gcva (leNat (cvaBytes w c.toNat gcva 64).1)
       let qs := (List.range nq).map (fun i => leAt (cvaBytes w c.toNat qtab (64 * nq)).1 (64 * i) 64)
       dOp d = 0x60 → nq ≠ 0 → qtab % 64 = 0 → recordOk w c.toNat gcva = true → pinnedOk w c.toNat qtab (64 * nq) .read = true →
        allFree w c.toNat (searchReads d) = true → anyPoison w c.toNat (searchReads d) = false → graphOk w c.toNat g true = true →
        qs.all (queryOk w c.toNat g) = true → runs (.search c q) (searchBegins w c.toNat q.val x d g qs)) ∧
      (let g := graphOf gcva (leNat (cvaBytes w c.toNat gcva 64).1)
       let z := scanNodes w c.toNat g d
       dOp d = 0x61 → cutOver s = false → field d 168 40 ≠ 2 ^ 40 - 1 → field d 168 40 ≠ 0 → field d 208 24 ≠ 0 → field d 320 64 % 16 = 0 →
        recordOk w c.toNat gcva = true → cvaFree w c.toNat gcva 64 = true → (cvaBytes w c.toNat gcva 64).2 = false →
        graphOk w c.toNat g false = true → field d 128 40 + field d 168 40 ≤ g.nodes →
        pinnedOk w c.toNat (field d 320 64) (16 * field d 208 24) .write = true → allFree w c.toNat z.reads = true →
        allTake w c.toNat [(field d 320 64, (scanBytes z).length)] = true →
        runs (.staleScan c q) (scanEnds w c.toNat q.val x d z)))

/-- Fabric-queue descriptors whose checks pass. ATOMIC leaves as a PATOM request and waits for its answer (R449); SEND leaves as a message with
the next MSEQ, or, of a shadow, completes at once and is counted (R452, R602); MBOX_OPEN opens or closes a mailbox (R451); OWN_ACQUIRE sends OWN_REQ and
waits for its grant (R455); OWN_RELEASE of an owned region and FLUSH wait for the answers to earlier requests (R456). -/
def Obligations.FabricDescriptorsRun : Prop :=
  ∀ (s : State) (c : Ctx) (q : QNum) (x : Queue) (d : Nat), due s c.toNat q.val 7 x d →
    let w := begun s c.toNat q.val x
    let runs (i : Instr) (t : State) : Prop := exec i s = .next (ended s c.toNat q.val x t)
    (∀ e fa t u, dOp d = 0x70 → 1 ≤ field d 160 8 → field d 160 8 ≤ 10 → (field d 168 4 = 4 ∨ field d 168 4 = 8) →
      field d 256 64 % field d 168 4 = 0 → field d 256 64 + field d 168 4 ≤ cvaEnd →
      entryAt (rangeTable w c.toNat) (field d 256 64 / 4096) = some e → e.ty = .peer → e.at_ = true → isShadow w c.toNat = false →
      entryTarget w c.toNat e (field d 256 64) = .peer fa → composedHold w c.toNat (.peer fa) = false →
      peerSend w c.toNat (.job (qKey c.toNat q.val) x.disp) 3 fa (field d 168 4) (natLe 8 (field d 320 64) ++ natLe 8 (field d 384 64))
        (field d 160 8) (field d 168 4) (bitOf d 172) = (.tag t, u) →
      runs (.atomic c q) (addJob u c.toNat q.val x d (.peer t) none)) ∧
    (∀ b u m v, dOp d = 0x71 → field d 192 32 ≠ 0 → field d 192 32 ≤ 4096 → pinnedOk w c.toNat (field d 256 64) (field d 192 32) .read = true →
      cvaFree w c.toNat (field d 256 64) (field d 192 32) = true → (cvaBytes w c.toNat (field d 256 64) (field d 192 32)).2 = false →
      cvaRead w firmwareAgent c.toNat (field d 256 64) (field d 192 32) = ((b, false), u) →
      takeMseq u c.toNat (field d 128 12) (field d 140 12) (field d 152 2) = (m, v) →
      (isShadow v c.toNat = true → runs (.send c q) (fabEnd (odBump v (odKey 0xC001 8) 1) c.toNat q.val x d .ok m)) ∧
      (∀ p t, isShadow v c.toNat = false → anyPort v = some p → tblFreeKey v.fab.peers 65536 = some t →
        let pr : PeerReq := ⟨.job (qKey c.toNat q.val) x.disp, genNow v, c.toNat, 0x20, p, field d 128 12, 0, m, 4096, 0⟩
        let v' := { v with fab.peers := tblSet v.fab.peers t pr }
        runs (.send c q) (sendParts (addJob v' c.toNat q.val x d (.peer t) none) p (field d 128 12) c.toNat t
          (field d 140 12) (field d 152 2) m (odGet v' (odCtx 0x6200 c.toNat)) b))) ∧
    (let key := mboxKey c.toNat (field d 152 2)
     let n := field d 176 4
     let ring := field d 256 64
     dOp d = 0x72 →
      (n = 0 → runs (.mboxOpen c q) (fabEnd { w with fab.mailboxes := tblErase w.fab.mailboxes key } c.toNat q.val x d .ok 0)) ∧
      (4 ≤ n → n ≤ 12 → ring % 64 = 0 → pinnedOk w c.toNat ring (64 + 4160 * 2 ^ n) .read = true →
        pinnedOk w c.toNat ring (64 + 4160 * 2 ^ n) .write = true → mordOwned w c.toNat (field d 432 16) = true →
        runs (.mboxOpen c q) (fabEnd { w with fab.mailboxes := tblSet w.fab.mailboxes key ⟨ring, n, field d 432 16, 0, []⟩ }
          c.toNat q.val x d .ok 0))) ∧
    (dOp d = 0x73 → field d 176 16 ≠ 0 → isShadow w c.toNat = false →
      runs (.ownAcquire c q) (sendOwn (addJob w c.toNat q.val x d (.own (field d 224 32)) none) 0x43 c.toNat
        (field d 224 32) (natLe 4 (odGet w (odCtx 0x6200 c.toNat))))) ∧
    (dOp d = 0x74 → isShadow w c.toNat = false → ownedEpoch w c.toNat (field d 224 32) ≠ none →
      runs (.ownRelease c q) (startDrain w c.toNat q.val x d true (if bitOf d 472 then field d 448 24 else 0))) ∧
    (dOp d = 0x75 → runs (.flush c q) (startDrain w c.toNat q.val x d false 0))

/-- STEP_COMMIT whose checks pass (R589): its tables are read, and without a partner its copies begin (R590); one that is being carried out
is taken further by the next STEP_COMMIT of its queue. CHECKPOINT_DONE ends a checkpoint (R596). -/
def Obligations.StepCommitsRun : Prop :=
  ∀ (s : State) (c : Ctx) (q : QNum) (io : CommitIo),
    (∀ x d, due s c.toNat q.val 1 x d → dOp d = 0xF →
      s.q.jobs.find? (fun j => decide (j.ctx = c.toNat) && decide (j.queue = q.val) && (commitOf j).isSome) = none →
      let w := begun s c.toNat q.val x
      let set := field d 192 64
      let delta := field d 256 64
      let nd := field d 160 12
      let k := commitSet (cvaBytes w c.toNat set 64).1
      let table := cvaBytes w c.toNat k.state (16 * k.nstate)
      let list := cvaBytes w c.toNat delta (16 * nd)
      let u := (cvaRead (cvaRead (cvaRead w firmwareAgent c.toNat set 64).2 firmwareAgent c.toNat k.state (16 * k.nstate)).2
        firmwareAgent c.toNat delta (16 * nd)).2
      set % 64 = 0 → delta % 16 = 0 → pinnedOk w c.toNat set 64 .read = true → pinnedOk w c.toNat delta (16 * nd) .read = true →
      cvaFree w c.toNat set 64 = true → (cvaBytes w c.toNat set 64).2 = false → k.state % 16 = 0 → k.nstate ≠ 0 → k.nstate ≤ 256 →
      pinnedOk w c.toNat k.state (16 * k.nstate) .read = true →
      rangesFree w (saParts w c.toNat k.state (16 * k.nstate) ++ (saParts w c.toNat delta (16 * nd) ++ saParts w c.toNat k.scratch 65536)) = true →
      table.2 = false → list.2 = false → reservedPages table.1 list.1 = false →
      exec (.stepCommit c q io) s = .next (ended s c.toNat q.val x
        (checkedCommit u c.toNat q.val x d io k ((entriesOf table.1 k.nstate).map statePart) list.1))) ∧
    (∀ j, s.power.on = true → s.q.jobs.find? (fun j => decide (j.ctx = c.toNat) && decide (j.queue = q.val) && (commitOf j).isSome) = some j →
      exec (.stepCommit c q io) s = .next (keepQueue s (commitPump s c.toNat q.val j.idx))) ∧
    (∀ set : BitVec 57, s.power.on = true → exec (.checkpointDone c set) s = .next (keepQueue s (checkpointDone s c.toNat set.toNat))) ∧
    (∀ (x : Queue) (d : Nat) (k : CommitSet) (parts : List StatePart) (list : Bytes) (p0 p1 pc : Nat),
      let n := field d 128 32
      let ds := (entriesOf list (list.length / 16)).map deltaEntry
      let total := (parts.map (·.pages)).sum
      n ≠ 0 → partsOk parts = true → deltaOk parts ds = true →
      k.report % 64 = 0 → pinnedOk s c.toNat k.scratch 65536 .write = true → pinnedOk s c.toNat k.scratch 65536 .read = true →
      pinnedOk s c.toNat k.report 64 .write = true → (∀ p ∈ parts, pinnedOk s c.toNat p.cva (p.pages * 4096) .read = true) →
      regionPlace s c.toNat k.mirror0 total false = some p0 → regionPlace s c.toNat k.mirror1 total false = some p1 →
      regionPlace s c.toNat k.ckpt total true = some pc → p0 ≠ p1 → pc ≠ p0 → pc ≠ p1 → k.partner = 0 →
      checkedCommit s c.toNat q.val x d io k parts list =
        beginCopies s c.toNat q.val x d io k parts list (p0, p1, pc) (odGet s (odCtx 0xC130 c.toNat) * 2 ^ 144))

/-! ## Tiers and persistence -/

/-- DEMOTION of a context over its quota, whose demotions of that tier have not paused and which withdraws and moves nothing, moves its least
recently used pages (R214-R216). DEMOTION_RESUME lifts the pauses whose destination has room again, and clears the flag with the last one (R216, R217).
CACHE_FRAME_DRAIN writes back and drops the lowest frame of the part that the placed region has taken (R202). DIRTY_WRITEBACK begins at three quarters of the
dirty cap with the frame whose dirty line is oldest (R226). -/
def Obligations.TiersAreKept : Prop :=
  ∀ (s : State) (c : Ctx), s.power.on = true →
    (∀ fromT2 : Bool, let u := if fromT2 then s else cutShare s c.toNat
      overQuota u c.toNat (if fromT2 then 2 else 0) = true → (c.toNat, fromT2) ∉ u.tier.paused → withdrawing u c.toNat = false →
      (∀ m ∈ u.tier.moves, m.ctx ≠ c.toNat) →
      exec (.demotion c fromT2) s = .next (keepQueue s (demoteOne u c.toNat fromT2))) ∧
    (∃ t, exec (.demotionResume c) s = .next t ∧
      (∀ p ∈ t.tier.paused, p ∈ s.tier.paused ∧ ¬(p.1 = c.toNat ∧
        mib (chargeFrames s c.toNat (if p.2 then 3 else 2) + 1) ≤ quotaMib s c.toNat (if p.2 then 3 else 2) ∧
        0 < poolFree s (if p.2 then 3 else 2))) ∧
      t.mem = s.mem ∧ t.xlat = s.xlat) ∧
    (∀ f, nextDrain s = some f → exec .cacheFrameDrain s = .next (keepQueue s (notePool (dropFrame s f) 1 false)) ∧
      f ∈ toDrain s ∧ ∀ g ∈ toDrain s, f.place ≤ g.place) ∧
    (∀ f g x, 3 * dirtyCap s ≤ 4 * dirtyCharge s →
      let idle := s.mem.cache.filter (fun f => (tblFind s.cart.rows (rowKey f.frame)).isNone)
      leastDirty idle = some (f, g) → idle.find? (fun x => decide (x.frame = f)) = some x →
      exec .dirtyWriteback s = .next (keepQueue s (startRowWrite s x)))

/-- PFAIL_L. Asserted on a powered device it is acted on only after 2 µs: PFAIL_FLUSH then begins the flush of R229, or stops a bring-up; after
a planned stop nothing is left to flush (the model's choice: log entry 43); deasserted
before, nothing follows. After PERSISTED a deassertion lets PFAIL_CANCEL write the cancel marker, open admission again unless the device has been
stopped for a planned power-off (R233), and take its queues up (R228-R232). -/
def Obligations.PfailSequence : Prop :=
  ∀ s : State,
    (s.power.on = true → s.tier.pfail = .idle →
      ∃ t, exec .pfailAssert s = .next t ∧ t.tier.pfail = .asserted ∧ t.power.pfailLow = true ∧ t.mem = s.mem ∧ t.tier.admitting = s.tier.admitting) ∧
    (s.tier.pfail = .asserted →
      ∃ t, exec .pfailDeassert s = .next t ∧ t.tier.pfail = .idle ∧ t.power.pfailLow = false ∧ t.mem = s.mem ∧ t.tier.admitting = s.tier.admitting) ∧
    (s.tier.pfail = .persisted → ∃ t, exec .pfailDeassert s = .next t ∧ t.tier.pfail = .releasing ∧ t.mem = s.mem) ∧
    (s.power.on = true → s.tier.pfail = .asserted →
      (odGet s (odKey 0x3006 6) = 1 → exec .pfailFlush s = .next s) ∧
      (odGet s (odKey 0x3006 6) ≠ 1 → s.boot.next = some 7 → exec .pfailFlush s = .next (keepQueue s (startFlush s s.now))) ∧
      (odGet s (odKey 0x3006 6) ≠ 1 → s.boot.next ≠ some 7 →
        ∃ t, exec .pfailFlush s = .next t ∧ t.boot.next = none ∧ t.tier.pfail = .idle)) ∧
    (s.power.on = true → s.tier.pfail = .releasing → ∃ u, u.tier.pfail = .idle ∧ (halfOf u s.tier.flushSeq).kind = .cancel ∧ u.mem = s.mem ∧
      (odGet s (odKey 0x3006 6) = 0 → (devState s = 1 ∨ devState s = 2) →
        u.tier.admitting = true ∧ exec .pfailCancel s = .next (keepQueue s (pollAll u))) ∧
      (odGet s (odKey 0x3006 6) ≠ 0 → u.tier.admitting = false ∧ exec .pfailCancel s = .next (keepQueue s u))) ∧
    (s.power.on = true → exec .powerOffStop s = .next (keepQueue s (powerOffStop s)))

/-! ## Translation and Feeds -/

/-- XLAT_INV_ACK of a port: no withdrawal of the context waits for it any longer (R475). XLAT_INV_TIMEOUT: the adapter's cache fails, and no
withdrawal waits for its port. WITHDRAW_DRAIN_END: a withdrawal whose old epoch has drained is finished (R280, R282). WITHDRAW_DEADLINE ends the
transfers of the old epoch that remain (R281). RANGE_WALK ends one of the eight walks that a die makes at a time: the entry
is in its range cache, and who waited goes on (R247, R248). -/
def Obligations.WithdrawalsDrain : Prop :=
  ∀ (s : State) (c : Ctx) (p : Fin 8), s.power.on = true →
    (∀ w, tblFind s.xlat.withdrawals c.toNat = some w →
      ∃ t, exec (.xlatInvAck p c) s = .next t ∧
        tblFind t.xlat.withdrawals c.toNat = some { w with xlatInv := w.xlatInv.filter (· != p.val) } ∧ t.mem = s.mem ∧ t.xlat.tables = s.xlat.tables) ∧
    ((∃ w ∈ s.xlat.withdrawals, p.val ∈ w.2.xlatInv) →
      let u := failAgent s (336 + p.val)
      exec (.xlatInvTimeout p) s = .next (keepQueue s
        { u with xlat.withdrawals := u.xlat.withdrawals.map (fun w => (w.1, { w.2 with xlatInv := w.2.xlatInv.filter (· != p.val) })) })) ∧
    (∀ w, tblFind s.xlat.withdrawals c.toNat = some w → drained s c.toNat w = true →
      exec (.withdrawDrainEnd c) s = .next (keepQueue s (ackWindows (releaseDrained (finishWithdrawal s c.toNat w) c.toNat)))) ∧
    exec (.withdrawDeadline c) s = .next (keepQueue s (importDeadline (withdrawalDeadline s c.toNat) c.toNat)) ∧
    ∀ (d : Fin 40) (v : BitVec 45),
      let found := (walksOf s d.val).find? (fun w => decide (w.ctx = c.toNat) && decide (w.vpn = v.toNat))
      (found = none → exec (.rangeWalk d c v) s = .next s) ∧
      (∀ w, found = some w →
        let u := fillRange { s with xlat.walks := s.xlat.walks.erase w } w.die w.ctx w.vpn
        (∀ i, w.waiter = .stream i → exec (.rangeWalk d c v) s = .next (keepQueue s (issueChunk u i (some w.vpn)))) ∧
        (∀ t k, w.waiter = .request t k →
          (∀ p h, t.reply = .fabric p h → exec (.rangeWalk d c v) s = .next (keepQueue s (servePeer u t (some w.vpn)))) ∧
          ((∀ p h, t.reply ≠ .fabric p h) → exec (.rangeWalk d c v) s = .next (keepQueue s (hostRequest u t k (some w.vpn))))))

/-- CHUNK_ISSUE and CHUNK_DONE take a stream's next chunk, and a chunk whose data is there, further (R261-R264); FAULT_DEADLINE ends a stream of an
ACTIVE context that holds a fault with FAULT_UNRESOLVED, and leaves one of a TORN context (R278, R279). -/
def Obligations.StreamsGoOn : Prop :=
  ∀ (s : State) (i : BitVec 16), s.power.on = true →
    exec (.chunkIssue i) s = .next (keepQueue s (issueChunk s i.toNat none)) ∧
    (∀ off, exec (.chunkDone i off) s = .next (keepQueue s (serveHeld (doneChunk s i.toNat off)))) ∧
    (∀ x f, streamOf s i.toNat = some x → x.fault = some f →
      (ctxActive s x.ctx = true →
        exec (.faultDeadline i) s = .next (keepQueue s (endStream (clearFault s i.toNat) i.toNat (standsAt x) .faultUnresolved))) ∧
      (ctxActive s x.ctx = false → exec (.faultDeadline i) s = .next s))

/-! ## Coherence -/

/-- A request of an agent on the package for a store address is accepted at its home where the line is free and its bank has room, and opens its transaction
(R291, R296, R297); where the line is busy or the bank is full it is refused with RETRY and a ticket (R300). RD_NC, WR_NC of a whole line under its mask, ROLL, and the ten atomic
operations with the codes 0x01 to 0x0A of R307. A host's RD_NC, WR_NC and atomics go through the optical die of its port (R474); its WR_NC
and its atomics hold back the context-window writes of their function that follow (R482); ROLL is not a host's (R127). -/
def Obligations.RequestsOpen : Prop :=
  ∀ (s : State) (r : Req), s.power.on = true → r.agent.val ∉ s.coh.failed → r.ticket = none → cutOver s = false →
    let u (l : Nat) := countReq s l r.ctx.toNat r.agent.val
    let txn (kind : ReqKind) (sa len : Nat) (data : Bytes) (mask aop : Nat) (wide fetch : Bool) (op1 op2 : Nat) (reply : Reply) : Txn :=
      ⟨kind, r.agent.val, r.ctx.toNat, genNow s, sa, len, data, mask, aop, wide, fetch, op1, op2, [], none, false, false, reply, none⟩
    (∀ a : BitVec 64, isAdapter r.agent.val = false → r.place = .sa a →
      let accepts (i : Instr) (kind : ReqKind) (sa len : Nat) (data : Bytes) (mask aop : Nat) (wide fetch : Bool) (op1 op2 : Nat) : Prop :=
        let t := txn kind sa len data mask aop wide fetch op1 op2 .agent
        let l := fwdLine s (sa / 128)
        let held := (tblFind (u l).coh.busy l).isSome || askedBack (u l) l || (takesWrite kind && writesHeld (u l) (l * 128))
        inStore s sa len = true → atomAligned t = true → sa % 128 + len ≤ 128 →
          (held = false → bankFull (u l) l = false → exec i s = .next (keepQueue s (openTxn (u l) l t))) ∧
          (held = true ∨ bankFull (u l) l = true → exec i s = .next (keepQueue s (sendRetry (u l) t l)))
      (∀ n : BitVec 7, accepts (.rdNc r n) .rdNc a.toNat (n.toNat + 1) [] 0 0 false false 0 0) ∧
      (∀ (d : Bytes) (m : BitVec 128), d ≠ [] → d.length ≤ 128 →
        accepts (.wrNc r d m) .wrNc (a.toNat / 128 * 128) 128 (padTo 128 d) m.toNat 0 false false 0 0) ∧
      accepts (.roll r) .roll a.toNat 16 [] 0 0x10 false true 0 0 ∧
      (∀ (w f : Bool) (x y : BitVec 64),
        ∀ p ∈ [(Instr.add r w f x y, 0x01), (.and r w f x y, 0x02), (.or r w f x y, 0x03), (.xor r w f x y, 0x04), (.umax r w f x y, 0x05),
          (.umin r w f x y, 0x06), (.smax r w f x y, 0x07), (.smin r w f x y, 0x08), (.swap r w f x y, 0x09), (.cas r w f x y, 0x0A)],
          accepts p.1 .atom a.toNat (if w then 8 else 4) [] 0 p.2 w f x.toNat y.toNat)) ∧
    (∀ p m addr, r.place = .host p m addr → urzenState s p.val = 2 → 336 ≤ r.agent.val →
      let reply : Reply := .urzen p.val r.tag.toNat addr.toNat
      let v := hostAsks s p.val r.ctx.toNat r.tag.toNat none
      (∀ n : BitVec 7, exec (.rdNc r n) s =
        .next (keepQueue s (hostRequest s (txn .rdNc 0 (n.toNat + 1) [] 0 0 false false 0 0 reply) none none))) ∧
      (∀ (d : Bytes) (m : BitVec 128), d ≠ [] → d.length ≤ 128 → exec (.wrNc r d m) s =
        .next (keepQueue s (hostRequest v (txn .wrNc 0 d.length d 0 0 false false 0 0 reply) none none))) ∧
      exec (.roll r) s = .next (keepQueue s (refuse s (txn .roll 0 16 [] 0 0x10 false true 0 0 reply) .range)) ∧
      (∀ (w f : Bool) (x y : BitVec 64),
        ∀ p ∈ [(Instr.add r w f x y, 0x01), (.and r w f x y, 0x02), (.or r w f x y, 0x03), (.xor r w f x y, 0x04), (.umax r w f x y, 0x05),
          (.umin r w f x y, 0x06), (.smax r w f x y, 0x07), (.smin r w f x y, 0x08), (.swap r w f x y, 0x09), (.cas r w f x y, 0x0A)],
          exec p.1 s = .next (keepQueue s (hostRequest v (txn .atom 0 (if w then 8 else 4) [] 0 p.2 w f x.toNat y.toNat reply) none none))))

/-- A cluster cache's RD_S, RD_M or UPG leaves the network and opens its transaction where the line is free and its bank has room, and is refused
with a ticket where it is busy or the bank is full; the page under move refuses the two that may write (R296, R297, R300, R305). An adapter's
RD_S and RD_M ask for the whole line through the optical die of its port, and its UPG names the line by its store address (R471, R474). -/
def Obligations.CachedRequestsOpen : Prop :=
  (∀ (s : State) (r : Req), s.power.on = true → isAdapter r.agent.val = true → r.agent.val ∉ s.coh.failed →
    let txn (kind : ReqKind) (sa : Nat) (reply : Reply) : Txn :=
      ⟨kind, r.agent.val, r.ctx.toNat, genNow s, sa, 128, [], 0, 0, false, false, 0, 0, [], none, false, false, reply, none⟩
    (∀ p m addr, r.place = .host p m addr → urzenState s p.val = 2 →
      let reply : Reply := .urzen p.val r.tag.toNat (addr.toNat / 128 * 128)
      exec (.rdS r) s = .next (keepQueue s (hostRequest s (txn .rdS 0 reply) r.ticket none)) ∧
      exec (.rdM r) s = .next (keepQueue s (hostRequest s (txn .rdM 0 reply) r.ticket none))) ∧
    (∀ a : BitVec 64, r.place = .sa a → urzenState s (r.agent.val - 336) = 2 →
      exec (.upg r) s = .next (keepQueue s
        (admitted s (txn .upg a.toNat (.urzen (r.agent.val - 336) r.tag.toNat a.toNat)) r.ticket)))) ∧
  ∀ (s : State) (r : Req) (a : BitVec 64) (m : NetMsg), s.power.on = true → r.agent.val < 336 → r.place = .sa a → cutOver s = false →
    ∀ p ∈ [(Instr.rdS r, NetKind.rdS, ReqKind.rdS), (.rdM r, .rdM, .rdM), (.upg r, .upg, .upg)],
      netFind s p.2.1 r.agent.val (a.toNat / 128) = some m → m.ticket = none →
      let l' := a.toNat / 128
      let l := fwdLine (netDrop s m) l'
      let u := countReq (netDrop s m) l m.ctx r.agent.val
      let t : Txn :=
        ⟨p.2.2, r.agent.val, m.ctx, genNow s, l' * 128, 128, [], 0, 0, false, false, 0, 0, [], none, false, false, .agent, none⟩
      let held := (tblFind u.coh.busy l).isSome || askedBack u l || (takesWrite p.2.2 && writesHeld u (l * 128))
      (held = false → bankFull u l = false → exec p.1 s = .next (keepQueue s (openTxn u l t))) ∧
      (held = true ∨ bankFull u l = true → exec p.1 s = .next (keepQueue s (sendRetry u t l)))

/-- R307: the value that each atomic leaves, of a width of 4 or 8 bytes, from operands of that width. R125: ROLL moves AMAX_NEXT to AMAX_CUR, clears
AMAX_NEXT and counts in ROLLS; the fourth word stays. -/
def Obligations.AtomicsCompute : Prop :=
  (∀ (w old a b : Nat), (w = 4 ∨ w = 8) → old < 2 ^ (8 * w) → a < 2 ^ (8 * w) → b < 2 ^ (8 * w) →
    atomicNew 0x01 w old a b = (old + a) % 2 ^ (8 * w) ∧ atomicNew 0x02 w old a b = old &&& a ∧ atomicNew 0x03 w old a b = old ||| a ∧
    atomicNew 0x04 w old a b = old ^^^ a ∧ atomicNew 0x05 w old a b = max old a ∧ atomicNew 0x06 w old a b = min old a ∧
    toSigned (8 * w) (atomicNew 0x07 w old a b) = max (toSigned (8 * w) old) (toSigned (8 * w) a) ∧
    toSigned (8 * w) (atomicNew 0x08 w old a b) = min (toSigned (8 * w) old) (toSigned (8 * w) a) ∧
    atomicNew 0x09 w old a b = a ∧ atomicNew 0x0A w old a b = if old = a then b else old) ∧
  ∀ old : Nat, old < 2 ^ 128 →
    field (rollNew old) 0 32 = 0 ∧ field (rollNew old) 32 32 = field old 0 32 ∧ field (rollNew old) 64 32 = (field old 64 32 + 1) % 2 ^ 32 ∧
    field (rollNew old) 96 32 = field old 96 32

/-- What a cache does with an answer (R295). DATA of a shared or exclusive grant installs the line that waited in IS; DATA of M installs it in M with
the store that asked for it; GRANT makes the line that has its data M; each is acknowledged with COMPACK. RETRY sends the request again with
its ticket; an agent without the line holds its ticket. NC_DONE is received, with the copy that an owner has sent. Nothing else of the
cache, of memory or of the dictionary changes. -/
def Obligations.CachesTakeAnswers : Prop :=
  ∀ (s : State) (a : Fin 336) (l : Line) (m : NetMsg) (c : CLine), s.power.on = true → cacheLine s a.val l.toNat = some c →
    let c' := { c with hasData := true, data := m.data.getD [], poison := m.poison, written := 0 }
    let takes (i : Instr) (x : CLine) (n : NetMsg) : Prop := ∃ t, exec i s = .next t ∧ cacheLine t a.val l.toNat = some x ∧
      t.coh.net = s.coh.net.erase m ++ [n] ∧ (∀ b k, cacheKey b k ≠ cacheKey a.val l.toNat → cacheLine t b k = cacheLine s b k) ∧
      t.mem = s.mem ∧ t.od = s.od ∧ t.q = s.q ∧ t.coh.shadow = s.coh.shadow
    (netFind s .data a.val l.toNat = some m →
      (c.st = .is → m.grant ≠ .m → takes (.data a l) { c' with st := m.grant } (plainMsg .compack a.val l.toNat)) ∧
      ((c.st = .im ∨ c.st = .sm ∨ c.st = .om) → m.grant = .m → takes (.data a l) (installM c') (plainMsg .compack a.val l.toNat))) ∧
    (netFind s .grant a.val l.toNat = some m → (c.st = .sm ∨ c.st = .om) → c.hasData = true →
      takes (.grant a l) (installM c) (plainMsg .compack a.val l.toNat)) ∧
    (∀ b : Fin 374, b.val = a.val → netFind s .retry a.val l.toNat = some m →
      ∀ p ∈ [(CState.is, NetKind.rdS), (.im, .rdM), (.sm, .upg), (.om, .upg)], c.st = p.1 →
        takes (.retry b l) c { plainMsg p.2 a.val l.toNat with ctx := c.ctx, ticket := m.ticket }) ∧
    (∀ b : Fin 374, cacheLine s b.val l.toNat = none → netFind s .retry b.val l.toNat = some m →
      exec (.retry b l) s = .next (netDrop s m)) ∧
    (∀ b : Fin 374, netFind s .ncDone b.val l.toNat = some m →
      let u := netDrop s m
      let copy := u.coh.net.find? (fun m => decide (m.kind = .copy) && decide (m.agent = b.val) && decide (m.line = l.toNat))
      (copy = none → exec (.ncDone b l) s = .next u) ∧ ∀ k, copy = some k → exec (.ncDone b l) s = .next (netDrop u k))

/-- What a cache does with a snoop (R294, R295). INV drops a line in S or O and is acknowledged; RECALL drops a stable line and its dirty data goes
home with the acknowledgement; a forward is served by an owner: FWD_S leaves M as O and E as S, FWD_M leaves the line I, FWD_NC leaves it as
it is and gives a requester of the package a copy of the bytes, and the home hears whether it was dirty. EVICT of a stable line makes it a victim. WB_ACK ends one. -/
def Obligations.CachesTakeSnoops : Prop :=
  ∀ (s : State) (a : Fin 336) (l : Line) (m : NetMsg) (c : CLine), s.power.on = true → cacheLine s a.val l.toNat = some c →
    (netFind s .inv a.val l.toNat = some m → (c.st = .s ∨ c.st = .o) →
      ∃ t, exec (.inv a l) s = .next t ∧ cacheLine t a.val l.toNat = none ∧
        t.coh.net = s.coh.net.erase m ++ [plainMsg .invAck a.val l.toNat] ∧ t.mem = s.mem ∧ t.od = s.od) ∧
    (netFind s .recall a.val l.toNat = some m → (c.st = .m ∨ c.st = .o ∨ c.st = .e ∨ c.st = .s) →
      ∃ t n, exec (.recall a l) s = .next t ∧ cacheLine t a.val l.toNat = none ∧ t.coh.net = s.coh.net.erase m ++ [n] ∧
        n.kind = .recallAck ∧ n.data = (if dirtySt c.st && c.hasData then some c.data else none) ∧ t.mem = s.mem ∧ t.od = s.od) ∧
    (∀ t, tblFind s.coh.busy l.toNat = some t → t.reply = .agent → supplies c.st = true → c.hasData = true →
      let ack (n : NetMsg) : Prop := n.kind = .fwdAck ∧ n.agent = a.val ∧ n.flag = dirtySt c.st ∧ n.data = some c.data
      (netFind s .fwdS a.val l.toNat = some m →
        ∃ u d n, exec (.fwdS a l) s = .next u ∧ cacheLine u a.val l.toNat = some { c with st := afterFwdS c.st } ∧
          u.coh.net = s.coh.net.erase m ++ [d, n] ∧ d.kind = .data ∧ d.agent = t.agent ∧ d.grant = .s ∧ d.data = some c.data ∧ ack n) ∧
      (netFind s .fwdM a.val l.toNat = some m → (c.st = .m ∨ c.st = .o ∨ c.st = .e) →
        ∃ u d n, exec (.fwdM a l) s = .next u ∧ cacheLine u a.val l.toNat = none ∧
          u.coh.net = s.coh.net.erase m ++ [d, n] ∧ d.kind = .data ∧ d.agent = t.agent ∧ d.grant = .m ∧ d.data = some c.data ∧ ack n) ∧
      (netFind s .fwdNc a.val l.toNat = some m →
        ∃ u d n, exec (.fwdNc a l) s = .next u ∧ cacheLine u a.val l.toNat = some c ∧ u.coh.net = s.coh.net.erase m ++ [d, n] ∧
          d.kind = .copy ∧ d.agent = t.agent ∧ d.data = some (ncBytes t c.data) ∧ ack n)) ∧
    (∀ t, tblFind s.coh.busy l.toNat = some t → t.reply ≠ .agent → supplies c.st = true → c.hasData = true →
      netFind s .fwdNc a.val l.toNat = some m →
        ∃ u n, exec (.fwdNc a l) s = .next u ∧ cacheLine u a.val l.toNat = some c ∧ u.coh.net = s.coh.net.erase m ++ [n] ∧
          n.kind = .fwdAck ∧ n.agent = a.val ∧ n.flag = dirtySt c.st ∧ n.data = some c.data) ∧
    (∀ p ∈ [(CState.s, CState.si), (.e, .ei), (.o, .oi), (.m, .mi)], c.st = p.1 →
      exec (.evict a l) s = .next (keepQueue s (sendVictim (setCacheLine s a.val l.toNat { c with st := p.2, sent := false }) a.val l.toNat))) ∧
    (netFind s .wbAck a.val l.toNat = some m →
      s.coh.caches.all (fun e => e.1 == cacheKey a.val l.toNat || !decide (e.1 / 2 ^ 45 = a.val) || e.2.sent) = true →
      ∃ t, exec (.wbAck a l) s = .next t ∧ cacheLine t a.val l.toNat = none ∧ t.coh.net = s.coh.net.erase m ∧ t.mem = s.mem)

/-- What a home does with a reply (R296, R297): WB and EVICT of a cluster cache are taken in, FWD_ACK, INV_ACK and RECALL_ACK take the
transaction of the line further, and COMPACK of its requester closes it. The same from an adapter whose snoop is outstanding. -/
def Obligations.HomesTakeReplies : Prop :=
  ∀ (s : State) (a : Fin 344) (l : Line), s.power.on = true →
    (isAdapter a.val = false →
      (∀ m, netFind s .wb a.val l.toNat = some m → cutOver s = false → ∀ k d w,
        exec (.wb a l k d w) s = .next (keepQueue s (takeWb (netDrop s m) a.val l.toNat m.flag (m.data.getD []) m.poison m.allWritten))) ∧
      (∀ m, netFind s .evict a.val l.toNat = some m → exec (.evictNotice a l) s = .next (keepQueue s (takeEvict (netDrop s m) a.val l.toNat))) ∧
      (∀ m t, netFind s .fwdAck a.val l.toNat = some m → tblFind s.coh.busy l.toNat = some t → t.owner = some a.val → ∀ k d,
        exec (.fwdAck a l k d) s = .next (keepQueue s (ownerReplied (netDrop s m) l.toNat t a.val m.flag (m.data.getD []) m.poison))) ∧
      (∀ m, netFind s .invAck a.val l.toNat = some m →
        exec (.invAck a l) s = .next (keepQueue s (holderReplied (netDrop s m) a.val l.toNat none false false))) ∧
      (∀ m, netFind s .recallAck a.val l.toNat = some m → ∀ d,
        exec (.recallAck a l d) s = .next (keepQueue s (holderReplied (netDrop s m) a.val l.toNat m.data m.poison m.allWritten))) ∧
      (∀ m t, netFind s .compack a.val l.toNat = some m → tblFind s.coh.busy l.toNat = some t → t.agent = a.val → takesState t.kind = true → blocked t = false →
        exec (.compack a l) s = .next (keepQueue s (settleTxn (netDrop s m) l.toNat { t with ended := true })))) ∧
    (isAdapter a.val = true →
      (cutOver s = false → urzenState s (a.val - 336) = 2 → a.val ∉ s.coh.failed → ∀ k d w,
        (inStore s (l.toNat * 128) 128 = true →
          exec (.wb a l k d w) s = .next (keepQueue s (takeWb s a.val l.toNat k d false w)) ∧
          exec (.evictNotice a l) s = .next (keepQueue s (takeEvict s a.val l.toNat))) ∧
        (inStore s (l.toNat * 128) 128 = false →
          exec (.wb a l k d w) s = .next (keepQueue s (refuseWb s a.val l.toNat)) ∧
          exec (.evictNotice a l) s = .next (keepQueue s (refuseWb s a.val l.toNat)))) ∧
      (∀ t, tblFind s.coh.busy l.toNat = some t → t.owner = some a.val → (a.val - 336, l.toNat) ∈ s.fab.snoops →
        let u := snoopDone s a.val l.toNat
        let bad := poisoned s l.toNat
        ∀ k d,
          (t.kind = .rdNc → exec (.fwdAck a l k d) s = .next (keepQueue s (ownerReplied u l.toNat t a.val k (padTo 128 d) bad))) ∧
          (t.kind = .rdS → exec (.fwdAck a l k d) s = .next (keepQueue s (ownerReplied
            (sendData u (a.val + 1) t l.toNat .s (padTo 128 d) bad) l.toNat t a.val k (padTo 128 d) bad))) ∧
          (t.kind = .rdM ∨ t.kind = .upg → exec (.fwdAck a l k d) s = .next (keepQueue s (ownerReplied
            (sendData u (a.val + 1) t l.toNat .m (padTo 128 d) bad) l.toNat t a.val k (padTo 128 d) bad)))) ∧
      ((a.val - 336, l.toNat) ∈ s.fab.snoops →
        exec (.invAck a l) s = .next (keepQueue s (holderReplied (snoopDone s a.val l.toNat) a.val l.toNat none false false)) ∧
        ∀ d, exec (.recallAck a l d) s =
          .next (keepQueue s (holderReplied (snoopDone s a.val l.toNat) a.val l.toNat d (poisoned s l.toNat) false))) ∧
      (∀ t, tblFind s.coh.busy l.toNat = some t → t.supplied = true → urzenState s (a.val - 336) = 2 → t.agent = a.val → takesState t.kind = true →
        blocked t = false → exec (.compack a l) s = .next (keepQueue s (settleTxn s l.toNat { t with ended := true }))))

/-- LOAD of bytes that the engine's cluster cache has in M, O, E or S completes with what the engine sees: the cache's bytes under its own held
stores (R294, R316), or POISON on a FAILED device (R47). STORE to a line that the cluster has in M or E, with nothing of it held, goes into
the cache, which is then in M (R294, R319). A load whose line the cluster does not have sends RD_S, a store sends RD_M, and a store to a
line in S or O sends UPG. An access outside the ranges of the store completes with RANGE (R195). -/
def Obligations.EnginesLoadAndStore : Prop :=
  ∀ (s : State) (e : Eng) (c : Ctx) (sa : Sa) (a : Nat), s.power.on = true → cacheAgent e = some a →
    let l := sa.toNat / 128
    let off := sa.toNat % 128
    (∀ (n : BitVec 7) k, inStore s sa.toNat (n.toNat + 1) = false →
      exec (.load e c sa n k) s = .next (setLoaded s e sa.toNat .range [])) ∧
    (∀ (n : BitVec 7) (x : CLine), off + n.toNat < 128 → inStore s sa.toNat (n.toNat + 1) = true → copyOf s e l = none →
      cacheLine s a l = some x → loadHits x.st = true → clinePoison x = false →
      (devState s ≠ 3 → exec (.load e c sa n false) s = .next (keepQueue s (setLoaded (touchSa s sa.toNat) e sa.toNat .ok
        (((seenLine s e l x.data).drop off).take (n.toNat + 1))))) ∧
      (devState s = 3 → exec (.load e c sa n false) s = .next (keepQueue s (setLoaded (touchSa s sa.toNat) e sa.toNat .poison [])))) ∧
    (∀ (n : BitVec 7) k, off + n.toNat < 128 → inStore s sa.toNat (n.toNat + 1) = true → copyOf s e l = none →
      cacheLine s a l = none → exec (.load e c sa n k) s =
        .next (keepQueue s (askLine s a c.toNat l .rdS ⟨.is, false, [], false, 0, false, c.toNat, none⟩))) ∧
    (∀ d : Bytes, d ≠ [] → d.length ≤ 128 → inStore s sa.toNat d.length = false → cutOver s = false → ∀ h,
      exec (.store e c sa d h) s = .next (setLoaded s e sa.toNat .range [])) ∧
    (∀ d : Bytes, d ≠ [] → off + d.length ≤ 128 → inStore s sa.toNat d.length = true → cutOver s = false →
      (∀ p ∈ holdPath e, heldAt s p l = none) →
      let u := copyTakes (touchSa s sa.toNat) e l ((2 ^ d.length - 1) * 2 ^ off) (padTo 128 (List.replicate off 0#8 ++ d))
      (∀ x, cacheLine s a l = some x →
        (x.st = .m → exec (.store e c sa d false) s = .next (keepQueue s (setCacheLine u a l (storeInto x off d)))) ∧
        (x.st = .e → exec (.store e c sa d false) s = .next (keepQueue s (setCacheLine u a l (storeInto { x with st := .m } off d)))) ∧
        (x.st = .s → exec (.store e c sa d false) s =
          .next (keepQueue s (askLine u a c.toNat l .upg { x with st := .sm, ctx := c.toNat, pend := some (off, d, c.toNat) }))) ∧
        (x.st = .o → exec (.store e c sa d false) s =
          .next (keepQueue s (askLine u a c.toNat l .upg { x with st := .om, ctx := c.toNat, pend := some (off, d, c.toNat) })))) ∧
      (cacheLine s a l = none → exec (.store e c sa d false) s =
        .next (keepQueue s (askLine u a c.toNat l .rdM ⟨.im, false, [], false, 0, false, c.toNat, some (off, d, c.toNat)⟩))))

/-- Hot lines and buffers. HOT paces the pair of context and line at its agent with the interval it carries, of at most 16 pairs (R311).
HOT_WINDOW closes the window of a bank: its counts begin anew (R310). ATOMIC_BUFFER_WRITEOUT takes a line out of its buffer (R308). SNOOP_TIMEOUT
of a port with a snoop outstanding fails its adapter's cache (R312). -/
def Obligations.HotLinesAndTimeouts : Prop :=
  ∀ (s : State) (l : Line), s.power.on = true →
    (∀ (a : Fin 374) (c : Ctx) (n : Nat) (m : NetMsg),
      s.coh.net.find? (fun m => decide (m.kind = .hot) && decide (m.agent = a.val) && decide (m.line = l.toNat) && decide (m.ctx = c.toNat) &&
        decide (m.ticket = some n)) = some m → mayArrive s m = true →
      ∃ t, exec (.hot a c l n) s = .next t ∧ t.coh.net = s.coh.net.erase m ∧
        (∃ p ∈ t.coh.pacing, p.agent = a.val ∧ p.ctx = c.toNat ∧ p.line = l.toNat ∧ p.interval = n) ∧ t.mem = s.mem ∧ t.od = s.od) ∧
    (∀ (i : Fin 24) (b : Fin 8), ∃ t, exec (.hotWindow i b) s = .next t ∧
      ∀ x ∈ t.coh.counts, ¬(homeOf s x.1 = i.val ∧ bankOf s x.1 = b.val)) ∧
    (∃ t, exec (.atomicBufferWriteout l) s = .next t ∧ (∀ x ∈ t.coh.atomBuf, x.1 ≠ l.toNat) ∧ t.mem = s.mem ∧ t.od = s.od) ∧
    (∀ p : Fin 8, (∃ x ∈ s.fab.snoops, x.1 = p.val) → exec (.snoopTimeout p) s = .next (keepQueue s (failAgent s (336 + p.val))))

/-! ## The memory model -/

/-- Releases, acquires, fences and ageing. A release empties the holding points below its scope, from the engine outwards (R319, R320). An acquire at
engine scope does nothing; a wider one drops the engine's operand copies, and at die scope also what its cluster's cache holds of lines with stores at the
die's collector (R322); a FENCE is a release and then an acquire of the same engine
and scope (R315). The stores of a line age out of the engine's holding points, counted where they leave a cluster store buffer (R321). WAKE_NOTICE looks again at the queues that wait on the
mordant at a processor whose SUBS bit is set, and at none where it is not (R335). -/
def Obligations.ScopesAreServed : Prop :=
  ∀ (s : State) (e : Eng) (k : Scope), s.power.on = true →
    (cutOver s = false →
      exec (.releaseAtScope e k) s = .next (keepQueue s (((holdPath e).filter (emptiedBy k)).foldl drainPoint s))) ∧
    exec (.acquireAtScope e .engine) s = .next s ∧
    (∀ k', (k' = .cluster ∨ k' = .device) →
      exec (.acquireAtScope e k') s = .next { s with q.copies := s.q.copies.filter (fun x => !decide (x.eng = e)) }) ∧
    (∀ a, cacheAgent e = some a →
      let t := { s with q.copies := s.q.copies.filter (fun x => !decide (x.eng = e)) }
      exec (.acquireAtScope e .die) s = .next (keepQueue s
        ((t.q.stores.filter (fun h => decide (h.place = .die e.die.val))).foldl (fun s h => invalidateHere s a h.line) t))) ∧
    exec (.fenceAtScope e k) s = .next (keepQueue s (doAcquire (doRelease s e k) e k)) ∧
    (∀ l : Line, cutOver s = false →
      exec (.storeAgeing e l) s = .next (keepQueue s ((holdPath e).foldl (fun s p => ageLine s p l.toNat) s))) ∧
    (∀ (p : Fin 64) (m : BitVec 16),
      ((mordGet s m.toNat).subs.testBit p.val = true → exec (.wakeNotice p m) s = .next (keepQueue s
        ((s.q.queues.filter (fun e => decide (e.2.scribe = p.val) && decide (e.2.wait = .waiting m.toNat))).foldl
          (fun s e => queuePoll s (e.1 / 16) (e.1 % 16)) s))) ∧
      ((mordGet s m.toNat).subs.testBit p.val = false → exec (.wakeNotice p m) s = .next s))

/-! ## Quill search -/

/-- QUERY_START gives the next query of a SEARCH a free hardware context of a Quill in its place (R377-R379). FETCH_RETURN takes the walk of a
context further: entry points, a list, heads, or the next candidate (R362-R366). QUERY_END widens a walk that may, and else writes the result once its
lines are free (R371, R374). -/
def Obligations.QuillsWalk : Prop :=
  ∀ (s : State) (n : Fin 384) (h : Fin 64), s.power.on = true →
    let key := hwKey n.val h.val
    (∀ (c : Ctx) (q : QNum) (i : BitVec 32) (y : BitVec 16) j b, searchJob s c.toNat q.val i.toNat = some (j, b) →
      (y.toNat ∈ b.again ∨ (y.toNat = b.next ∧ y.toNat < b.nq)) → ctxActive s c.toNat = true → admitting s = true → quillUp s n.val = true →
      tblFind s.q.quills key = none → locContains b.place (quillLoc s n.val) = true → mayQuery s c.toNat = true →
      exec (.queryStart c q i y n h) s = .next (keepQueue s (startQuery s j b y.toNat key))) ∧
    (∀ x j b, tblFind s.q.quills key = some x → searchJob s (x.qkey / 16) (x.qkey % 16) x.idx = some (j, b) →
      (x.ended = false →
        (x.started = false → exec (.fetchReturn n h) s = .next (keepQueue s (entriesArrive s (x.qkey / 16) key x b))) ∧
        (x.started = true → ∀ m, x.listOf = some m → exec (.fetchReturn n h) s = .next (keepQueue s (listArrives s (x.qkey / 16) key x b m))) ∧
        (x.started = true → x.listOf = none → x.todo = [] → exec (.fetchReturn n h) s = .next (keepQueue s (setHw s key (nextCandidate x)))) ∧
        (x.started = true → x.listOf = none → x.todo ≠ [] → exec (.fetchReturn n h) s = .next (keepQueue s (headsArrive s (x.qkey / 16) key x b)))) ∧
      (x.ended = true → cutOver s = false →
        (widens x b.wlim = true →
          exec (.queryEnd n h) s = .next (keepQueue s (setHw s key { walkStart x (min (2 * x.l) b.wlim) with widens := x.widens + 1 }))) ∧
        (widens x b.wlim = false → cvaTakes s (x.qkey / 16) x.result (resultBytes x).length = true →
          exec (.queryEnd n h) s = .next (keepQueue s (endQuery s key x j b))) ∧
        (widens x b.wlim = false → cvaTakes s (x.qkey / 16) x.result (resultBytes x).length = false →
          exec (.queryEnd n h) s = .next (keepQueue s (askWrites s (saParts s (x.qkey / 16) x.result (resultBytes x).length))))))

/-! ## Cartridges -/

/-- A cartridge comes in. CART_INSERTED powers its slot and begins the identity check, or leaves the slot FAILED without all four lanes (R396,
R407); IDENTIFY checks certificates and revocation, and sends a nonce; CART_CHALLENGE checks the signature over it and the life that is left;
CART_MREAD gives the slot its role; CART_MWRITE ends the write of a membership record (R397, R407-R409). The checks are the media scribe core's,
and without it nothing happens (R521, R545). -/
def Obligations.CartridgesAreTaken : Prop :=
  ∀ (s : State) (slot : Fin 32),
    let n := slot.val
    (slotState s n = 0 →
      (s.power.on = false → ∀ f, exec (.cartInserted slot f) s = .next (setCart s n { emptySlot with present := true })) ∧
      (∀ k, s.power.on = true → s.boot.next = some k → 2 ≤ k →
        exec (.cartInserted slot true) s = .next (keepQueue s
          (setCart (beginIdentity s n) n { cartSlot (beginIdentity s n) n with inserted := groupsUp s })) ∧
        ∃ t, exec (.cartInserted slot false) s = .next t ∧ slotState t n = 10 ∧ t.mem = s.mem ∧ t.out = s.out)) ∧
    (s.power.on = true → mediaUp s n = false →
      (∀ cert, exec (.identify slot cert) s = .next s) ∧ (∀ w sig, exec (.cartChallenge slot w sig) s = .next s) ∧
      ∀ r, exec (.cartMread slot r) s = .next s) ∧
    (s.power.on = true →
      (∀ cert : CertInfo, mediaUp s n = true → slotState s n = 1 → (cartSlot s n).nonce = none →
        let sound := cert.sigsOk = true ∧ cert.rootHash = Config.cartRoot ∧ cert.extOk = true
        (¬sound → exec (.identify slot cert) s = .next (keepQueue s (refuseCart s n 2))) ∧
        (sound → cert.certHash.toNat ∈ revokedCerts s → exec (.identify slot cert) s = .next (keepQueue s (refuseCart s n 3))) ∧
        (sound → cert.certHash.toNat ∉ revokedCerts s → ∃ t nonce, exec (.identify slot cert) s = .next t ∧
          t.out = s.out ++ [.cart n .challenge 0 nonce] ∧ (cartSlot t n).nonce = some nonce ∧ (cartSlot t n).certHash = cert.certHash.toNat ∧
          (cartSlot t n).modulus = cert.modulus.toNat ∧ slotState t n = 1 ∧ t.mem = s.mem)) ∧
      (∀ (b : Bytes) (w : BitVec 64) (sig : Bytes), mediaUp s n = true → (cartSlot s n).nonce = some b → slotState s n = 1 →
        let ok := rsaOk (cartSlot s n).modulus (b ++ natBe 32 (cartSlot s n).certHash ++ natLe 8 w.toNat) sig
        let life := lifeOf (cartSlot s n).rated w.toNat
        (ok = false → exec (.cartChallenge slot w sig) s = .next (keepQueue s (refuseCart s n 4))) ∧
        (ok = true → life = 0 → (cartSlot s n).inserted = true → ∃ t, exec (.cartChallenge slot w sig) s = .next t ∧ slotState t n = 11 ∧
          odGet t (odKey 0x8005 n) = 5 ∧ t.out = s.out) ∧
        (ok = true → (life ≠ 0 ∨ (cartSlot s n).inserted = false) → ∃ t, exec (.cartChallenge slot w sig) s = .next t ∧ slotState t n = 1 ∧ odGet t (odKey 0x8005 n) = 1 ∧
          odGet t (odKey 0x8100 n) = life ∧ t.out = s.out ++ [.cart n .mread 0 []])) ∧
      (mediaUp s n = true → slotState s n = 1 → odGet s (odKey 0x8005 n) = 1 →
        exec (.cartMread slot none) s = .next (keepQueue s (takeBlank (setCart s n { cartSlot s n with record := none }) n)) ∧
        ∀ r : Membership,
          let u := setCart s n { cartSlot s n with record := some r }
          (r.serial ≠ Config.serial → exec (.cartMread slot (some r)) s = .next (keepQueue s (setSlotState u n 3))) ∧
          (r.serial = Config.serial →
            (∀ code, expected u n r = some code →
              let v := settleGroups (setSlotState u n code)
              exec (.cartMread slot (some r)) s = .next (keepQueue s (if code = 5 then spareAppears v else v))) ∧
            (expected u n r = none → exec (.cartMread slot (some r)) s = .next (keepQueue s (takeBlank u n))))) ∧
      (∀ r, (cartSlot s n).writing = some r →
        exec (.cartMwrite slot) s = .next (setCart s n { cartSlot s n with record := r, writing := none })))

/-- Rows and units. READS fills a line of T2 that its own sector, or eight others, give, and poisons it where three are missing (R402); READU
recomputes and rewrites a bad unit (R405); WRITEU ends a write of a row with its last unit (R403); JWRITE lets the journal go on with the
last acknowledgement (R231); a unit of a target durable brings its next row (R416); WEAR sets the bytes written and the life that is left, WEAR_POLL asks every cartridge in
service for them (R419-R421); SCRUB reads one row (R406); CART_REBUILT and RESILVER_DONE end a rebuild and a re-silver (R416, R417). Targets,
wear and rebuilds are the media scribe core's, and without it nothing happens (R521, R545). -/
def Obligations.CartridgeRowsMove : Prop :=
  ∀ s : State, s.power.on = true →
    (∀ (l : Line) (errs : List (Fin 10)),
      let f := l.toNat / 32
      let gone := (List.range 10).filter (fun p => (missingAt s (grpOf f) (rowOf2 f)).contains p || (errs.map (·.val)).contains p)
      let p := posOf (rowOf2 f) (f % 8)
      inT2 (l.toNat * 128) 128 = true → frameOwner s f ≠ none → lineCached s l.toNat = false → tblFind s.cart.rows (rowKey f) = none →
      groupsUp s = true →
        (p ∉ gone → exec (.reads l errs) s = .next (keepQueue s (cacheFill s l.toNat))) ∧
        (p ∈ gone → gone.length ≤ 2 → exec (.reads l errs) s = .next (keepQueue s (cacheFill (odBump s (odKey 0x8201 1) 1) l.toNat))) ∧
        (p ∈ gone → 2 < gone.length → exec (.reads l errs) s = .next { s with mem.poison := addOnce s.mem.poison l.toNat })) ∧
    (∀ (slot : Fin 32) (row : BitVec 30) (b : Bytes) (mt : BitVec 128) (g p : Nat), servedPos s slot.val = some (g, p) →
      slotReads s slot.val row.toNat = true → tblFind s.cart.rows (g * 2 ^ 30 + row.toNat) = none → cutOver s = false →
      let good := crc32c b = field mt.toNat 0 32 ∧ field mt.toNat 34 30 = row.toNat
      let n := (addOnce (missingAt s g row.toNat) p).length
      (good → exec (.readu slot row b mt) s = .next s) ∧
      (¬good → n ≤ 2 → exec (.readu slot row b mt) s = .next (keepQueue s (repairUnit s g row.toNat p))) ∧
      (¬good → 2 < n → exec (.readu slot row b mt) s = .next (keepQueue s (groupLost s g row.toNat)))) ∧
    (∀ (slot : Fin 32) (row : BitVec 30) (k : Nat) (w : RowWrite),
      s.cart.rows.find? (fun e => decide (e.1 % 2 ^ 30 = row.toNat) && e.2.waitFor.contains slot.val) = some (k, w) →
      let w' := { w with waitFor := w.waitFor.filter (· != slot.val) }
      (w'.waitFor = [] → exec (.writeu slot row) s = .next (keepQueue s (endRowWrite s k w'))) ∧
      (w'.waitFor ≠ [] → exec (.writeu slot row) s = .next { s with cart.rows := tblSet s.cart.rows k w' })) ∧
    (∀ (slot : Fin 32) (row : BitVec 30),
      s.cart.rows.find? (fun e => decide (e.1 % 2 ^ 30 = row.toNat) && e.2.waitFor.contains slot.val) = none →
      ((cutOver s = true ∨ mediaUp s slot.val = false) → exec (.writeu slot row) s = .next s) ∧
      (∀ g p, cutOver s = false → mediaUp s slot.val = true → (cartSlot s slot.val).pos = some (g, p) →
        (slotState s slot.val = 7 ∨ slotState s slot.val = 8) → rowsDone s slot.val = row.toNat → row.toNat + 1 < 2 ^ 30 →
        exec (.writeu slot row) s = .next (keepQueue s (sendUnit (odSet s (odKey 0x8103 slot.val) (row.toNat + 1)) slot.val
          (row.toNat + 1) p (unitAt s g (row.toNat + 1) p))))) ∧
    (∀ slot : Fin 32, slot.val ∈ s.tier.jwrites →
      let left := s.tier.jwrites.filter (· != slot.val)
      (left ≠ [] → exec (.jwrite slot) s = .next { s with tier.jwrites := left }) ∧
      (left = [] → exec (.jwrite slot) s = .next (keepQueue s (journalStep 2 { s with tier.jwrites := [] })))) ∧
    (∀ (slot : Fin 32) (b : BitVec 64), mediaUp s slot.val = false → exec (.wear slot b) s = .next s) ∧
    (∀ (slot : Fin 32) (b : BitVec 64), slotCounts (slotState s slot.val) = true → mediaUp s slot.val = true →
      exec (.wear slot b) s = .next (keepQueue s (actOnLife (setWear s slot.val b.toNat) slot.val)) ∧
      odGet (setWear s slot.val b.toNat) (odKey 0x8101 slot.val) = b.toNat ∧
      odGet (setWear s slot.val b.toNat) (odKey 0x8100 slot.val) = lifeOf (cartSlot s slot.val).rated b.toNat) ∧
    exec .wearPoll s = .next (keepQueue s (((journalSlots s).filter (mediaUp s)).foldl (fun s n => actOnLife (emit s (.cart n .wear 0 [])) n) s)) ∧
    (∀ (g : Fin 3) (row : BitVec 30) (bad : List (Fin 10)) (d : Bool), (odGet s (odKey 0x8000 4) ≠ 0 ∨ s.cart.scrubTwice = true) →
      groupsUp s = true → cutOver s = false → tblFind s.cart.rows (g.val * 2 ^ 30 + row.toNat) = none →
      exec (.scrub g row bad d) s = .next (keepQueue s (scrubOne s g.val row.toNat (bad.map (·.val)) d))) ∧
    (∀ (slot : Fin 32) (g p : Nat), (cartSlot s slot.val).pos = some (g, p) → cutOver s = false →
      mediaUp s slot.val = true →
      (slotState s slot.val = 7 → exec (.cartRebuilt slot) s = .next (keepQueue s (rebuildEnds s slot.val g p))) ∧
      (∀ k, (cartSlot s slot.val).source = some k → slotState s slot.val = 8 → (slotState s k = 6 ∨ slotState s k = 9) →
        exec (.resilverDone slot) s = .next (keepQueue s (resilverEnds s slot.val g p k))))

/-- A slot that fails or is emptied, and the slot commands. CART_FAILED takes the slot out of service; after CART_REMOVED no cartridge is present
(R412, R414). PREPARE_EJECT, ACCEPT_FOREIGN, RETIRE and CANCEL answer by the state of the slot (R412, R413). -/
def Obligations.SlotsAreCommanded : Prop :=
  ∀ (s : State) (slot : Fin 32),
    let n := slot.val
    let st := slotState s n
    (s.power.on = true →
      (st ∉ [0, 10, 12] → exec (.cartFailed slot) s = .next (keepQueue s (loseSlot (logEv s "CART_FAILED" [n]) n 10))) ∧
      (st ∈ [0, 10, 12] → exec (.cartFailed slot) s = .next s)) ∧
    ((cartSlot s n).present = true → ∃ t, exec (.cartRemoved slot) s = .next t ∧ slotState t n = 0 ∧ cartSlot t n = emptySlot) ∧
    (dictUp s = true →
      let answers (i : Instr) (t : State) : Prop := exec i s = .next (keepQueue s t)
      (st = 0 → answers (.prepareEject slot) (slotResult s n 5)) ∧
      (st = 12 → answers (.prepareEject slot) (slotResult s n 2)) ∧
      (st ∈ [1, 2, 3, 5, 10, 11] → answers (.prepareEject slot) (slotResult (powerOffSlot s n) n 2)) ∧
      (st = 7 ∨ st = 8 → answers (.prepareEject slot) (slotResult (powerOffSlot (loseSlot s n 10) n) n 2)) ∧
      (∀ g p, (st = 4 ∨ st = 6 ∨ st = 9) → servedPos s n = some (g, p) → targetOf s n = none →
        (freeSpare s g = none → answers (.prepareEject slot) (slotResult s n 3)) ∧
        (∀ k, freeSpare s g = some k → groupState s g ≠ 0 → answers (.prepareEject slot) (slotResult s n 4)) ∧
        (∀ k, freeSpare s g = some k → groupState s g = 0 → answers (.prepareEject slot) (slotResult (startEvac s n k g p .eject) n 1))) ∧
      (∀ g p k, (st = 4 ∨ st = 6 ∨ st = 9) → servedPos s n = some (g, p) → targetOf s n = some k →
        answers (.prepareEject slot) (slotResult (setCart s n { cartSlot s n with goal := .eject }) n 1) ∧
        (st ≠ 9 → answers (.retire slot) (slotResult (setCart s n { cartSlot s n with goal := .retire }) n 1))) ∧
      (st = 3 → answers (.acceptForeign slot) (slotResult (takeBlank (writeRecordOf s n none) n) n 2)) ∧
      (st ≠ 3 → answers (.acceptForeign slot) (slotResult s n 5)) ∧
      (∀ g p, (st = 4 ∨ st = 6) → servedPos s n = some (g, p) → targetOf s n = none →
        (freeSpare s g = none → answers (.retire slot) (slotResult s n 3)) ∧
        (∀ k, freeSpare s g = some k → groupState s g ≠ 0 → answers (.retire slot) (slotResult s n 4)) ∧
        (∀ k, freeSpare s g = some k → groupState s g = 0 →
          answers (.retire slot) (slotResult (startEvac (setSlotState s n 9) n k g p .retire) n 1))) ∧
      (st = 9 → answers (.retire slot) (slotResult s n 1)) ∧
      (st ∉ [4, 6, 9] → answers (.retire slot) (slotResult s n 5)) ∧
      (st = 8 → answers (.cancel slot) (slotResult (setSlotState (clearTarget s n) n 10) n 2)) ∧
      (∀ k, st = 7 → (cartSlot s n).source = some k → answers (.cancel slot) (slotResult (stopEvac s k n) n 2)) ∧
      (st ≠ 8 → ¬(st = 7 ∧ (cartSlot s n).source.isSome = true) →
        (targetOf s n = none → answers (.cancel slot) (slotResult s n 5)) ∧
        (∀ k, targetOf s n = some k → slotState s k = 7 → answers (.cancel slot) (slotResult (stopEvac s n k) n 2)) ∧
        (∀ k, targetOf s n = some k → slotState s k ≠ 7 → answers (.cancel slot) (slotResult s n 5))))

/-! ## Links -/

/-- The links. A flit that fails FEC or CRC, or skips one, is answered with RETRY and changes nothing else; a good one in order advances the
SEQ that is expected next, returns its credits and gives its packet slots; a RETRY replays every flit from its SEQ (R427, R466). A lane goes
to a spare of its optical die while there is one (R430, R432); a port without spares narrows (R431); loss of signal takes it DOWN (R435);
PORT_TRAIN, which sends the device's own IDENT, and IDENT, where the optical scribe core runs, bring one up (R434, R467, R521, R656). -/
def Obligations.LinksRun : Prop :=
  ∀ (s : State) (link : Fin 24), s.power.on = true →
    let l := link.val
    let x := linkOf s l
    (linkState s l ≠ 0 → linkState s l ≠ 4 →
      (∀ (ok : Bool) (b : Bytes), (ok = false ∨ b.length ≠ 256 ∨ leAt b 248 4 ≠ crc32c (b.take 248)) →
        exec (.flit link ok b) s = .next { s with out := s.out ++ [.flit l (flitBytes (flitHead 2 0 0) x.txSeq (lastAck x) (natLe 2 x.rxSeq))] }) ∧
      (∀ b : Bytes, b.length = 256 → leAt b 248 4 = crc32c (b.take 248) →
        let hdr := leAt b 0 8
        let seq := field hdr 8 16
        let cls := field hdr 40 4
        let y := { x with
          rxSeq := (seq + 1) % 65536,
          credits := if cls < 5 then listSet x.credits cls (x.credits.getD cls 0 + field hdr 44 12) else x.credits,
          inbox := if hdr % 16 = 1 ∧ linkState s l = 2 then x.inbox ++ (b.drop 8).take 240 else x.inbox }
        (seq ≠ x.rxSeq → (seq + 65536 - x.rxSeq) % 65536 < 2 ^ 15 → exec (.flit link true b) s = .next (keepQueue s (sendRetryFlit s l))) ∧
        (seq ≠ x.rxSeq → 2 ^ 15 ≤ (seq + 65536 - x.rxSeq) % 65536 → exec (.flit link true b) s = .next s) ∧
        (seq = x.rxSeq → exec (.flit link true b) s =
          .next (keepQueue s (sendWaiting x.waiting.length (takePackets 32 (setLink s l y) l) l cls)))) ∧
      (∀ q : BitVec 16, exec (.linkRetry link q) s = .next (keepQueue s (replayFrom s l q.toNat))) ∧
      exec (.lossOfSignal link) s = .next (keepQueue s (portDown s l)) ∧
      (∀ lane : Fin 8, lane.val < fullWidth l → x.lanes ≠ 0 →
        (0 < sparesLeft s (linkDie l) → ∃ t, exec (.laneSpare link lane) s = .next t ∧
          t.fab.sparesUsed = tblSet s.fab.sparesUsed (linkDie l) (tblGet 0 s.fab.sparesUsed (linkDie l) + 1) ∧ t.fab.links = s.fab.links ∧
          linkState t l = linkState s l ∧ ∃ e ∈ t.log, e.name = "PORT_SPARED" ∧ e.args = [portCode l, lane.val]) ∧
        (sparesLeft s (linkDie l) = 0 → exec (.laneSpare link lane) s = .next (keepQueue s (narrowPort s l (x.lanes - 1))))) ∧
      (∀ good : Fin 9, linkState s l ≤ 3 → good.val < x.lanes →
        exec (.portNarrowed link good) s = .next (keepQueue s (narrowPort s l good.val))) ∧
      (∀ info : IdentInfo, opticalUp s l = false → exec (.ident link info) s = .next s) ∧
      (∀ info : IdentInfo, identTime s = true → opticalUp s l = true →
        let u := odSet s (linkOd l 3) (field info.identity.toNat 0 60)
        let v := if l < 16 then u else odSet u (odKey 0x7104 (l - 16)) info.cacheKib.toNat
        let credits := if l < 16 then x.credits else [info.reqCr.toNat, 0, info.snpCr.toNat, 0, info.ctlCr.toNat]
        exec (.ident link info) s = .next (keepQueue s (judgePort (setLink v l { x with
          ident := some (info.group.toNat, info.cacheKib.toNat, decide (1024 ≤ info.reqCr.toNat ∧ 512 ≤ info.snpCr.toNat ∧ 64 ≤ info.ctlCr.toNat)),
          credits := if x.ident = none then credits else x.credits }) l)))) ∧
    (∀ good : Fin 9, identTime s = true → odGet s (linkOd l 0) ≠ 0 → (linkState s l = 0 ∨ linkState s l = 4) →
      (widthFor l good.val = 0 → exec (.portTrain link good) s = .next (keepQueue s (portDown s l))) ∧
      (widthFor l good.val ≠ 0 → exec (.portTrain link good) s =
        .next (keepQueue s (linkFlit (setLinkState (odSet (setLink s l { idleLink with lanes := good.val }) (linkOd l 2)
          (widthFor l good.val)) l 1) l (flitHead 3 0 0) (ownIdent s l)))))

/-! ## The fabric's packets -/

/-- Peer requests and their answers, messages, and the answers of hosts. A peer request that the export window admits goes to its home as a
noncoherent request of its context (R443, R444); one that it does not admit is refused with the status of R444. The answer to an
outstanding request, of its own kind, reaches who asked (R443, R445, R453), as POISON does after a timeout (R448). The first packet of a
message is refused where no mailbox is open, and else goes to the ring (R452, R453). A peer request's page is looked up in its die's
range cache; one that misses, or follows one of its source to its line that waits, waits for a walk (R247, R248, R446), and one that hits carries the context's range epoch (R245). A T3 answer reaches who asked (R484, R485). -/
def Obligations.PacketsAreTaken : Prop :=
  ∀ (s : State) (p : FabIn), s.power.on = true →
    let h := p.hdr.toNat
    let port := p.port.val
    (fabOpen s p = true → cutOver s = false → devState s ≠ 3 → fDnode h = nodeNo s →
      let txn (k : ReqKind) (n : Nat) : Txn :=
        ⟨k, 368 + (linkDie port - 32), 0, genNow s, fOff h, n, [], 0, 0, false, false, 0, 0, [], none, false, false, .fabric port h, none⟩
      let aop := field h 192 8
      let w := field h 200 4
      let off := fOff h % 128
      let wr : Txn → Txn := fun t => { t with mask := (2 ^ fLen h - 1) * 2 ^ off, data := List.replicate off 0#8 ++ p.data.take (fLen h) }
      let at_ : Txn → Txn := fun t =>
        { t with aop := aop, wide := decide (w = 8), fetch := bitOf h 204, op1 := leAt p.data 0 8, op2 := leAt p.data 8 8 }
      let served (i : Instr) (k : ReqKind) (r : Right) (n : Nat) (build : Txn → Txn) : Prop :=
        off + n ≤ 128 →
          (∀ w e, exportCheck s h n r = .inl w → saEntry s w.ctx (fOff h) = some e →
            let vpn := e.vpn + (fOff h / 4096 - e.base)
            let before := s.xlat.walks.any (fun y => decide (y.die = linkDie port) && sameLine y.waiter (build (txn k n)))
            (before = false → rangeHit s (linkDie port) w.ctx vpn = true → hasRight e r = true → admitting s = true →
              exec i s = .next (keepQueue s (peerToHome (touchCva s w.ctx (vpn * 4096 + fOff h % 4096))
                { build (txn k n) with ctx := w.ctx, epoch := some (epochOf s w.ctx) }))) ∧
            ((before = true ∨ rangeHit s (linkDie port) w.ctx vpn = false) →
              exec i s = .next (keepQueue s (rangeMiss s (linkDie port) w.ctx vpn (.request { build (txn k n) with ctx := w.ctx } none))))) ∧
          (∀ st, exportCheck s h n r = .inr st → exec i s = .next (keepQueue s (refusePeer s port h st)))
      (fType h = 1 → served (.prd p) .rdNc .read (fLen h) id) ∧
      (fType h = 2 → fLen h ≤ p.data.length → served (.pwr p) .wrNc .write (fLen h) wr) ∧
      (fType h = 3 → 1 ≤ aop → aop ≤ 10 → (w = 4 ∨ w = 8) → fOff h % w = 0 → 16 ≤ p.data.length → served (.patom p) .atom .atomic w at_)) ∧
    (∀ r, tblFind s.fab.peers (fTag h) = some r → fabOpen s p = true →
      (r.ptype = 1 → fType h = 0x11 → fDnode h = nodeNo s →
        exec (.prdData p) s = .next (keepQueue s (peerAnswered s (fTag h) r (fStatus h) (padTo r.len p.data) 0))) ∧
      (r.ptype = 2 → fType h = 0x12 → fDnode h = nodeNo s →
        exec (.pwrDone p) s = .next (keepQueue s (peerAnswered s (fTag h) r (fStatus h) [] 0))) ∧
      (r.ptype = 3 → fType h = 0x13 → fDnode h = nodeNo s →
        exec (.patomDone p) s =
          .next (keepQueue s (peerAnswered s (fTag h) r (fStatus h) [] (if p.data = [] then 0 else leAt p.data 0 8)))) ∧
      (r.ptype = 0x20 → fType h = 0x21 →
        exec (.msgDone p) s = .next (keepQueue s (peerAnswered s (fTag h) r (fStatus h) [] r.len)))) ∧
    (∀ (tag : BitVec 16) (r : PeerReq), tblFind s.fab.peers tag.toNat = some r → r.ptype ≠ 0x45 →
      exec (.peerTimeout tag) s = .next (keepQueue s (peerAnswered s tag.toNat r .poison [] 0))) ∧
    (fabOpen s p = true → fType h = 0x20 → cutOver s = false → fDnode h = nodeNo s → ctxState s (fWid h) ≠ 2 →
      let c := fWid h
      (tblFind s.fab.mailboxes (mboxKey c (fMbx h)) = none → fOff h = 0 → exec (.msg p) s = .next (keepQueue s (msgDone s port h .range))) ∧
      (∀ m, tblFind s.fab.mailboxes (mboxKey c (fMbx h)) = some m → odGet s (odCtx 0x6200 c) = field h 224 32 → fLen h ≤ 4096 → fOff h < fLen h →
        cvaFree s c m.ring 4 = true → exec (.msg p) s = .next (keepQueue s (msgArrives s port h c p.data m)))) ∧
    (∀ (port : Fin 8) (tag : BitVec 16) (a : Asker), tblFind s.fab.t3 (t3Key port.val tag.toNat) = some a →
      (urzenState s port.val = 2 → ∀ poison data,
        exec (.t3Data port tag poison data) s =
          .next (keepQueue s (t3Answered s port.val tag.toNat (if poison then .poison else .ok) data)) ∧
        exec (.t3Done port tag poison) s =
          .next (keepQueue s (t3Answered s port.val tag.toNat (if poison then .poison else .ok) []))) ∧
      exec (.t3Timeout port tag) s = .next (keepQueue s (t3Answered s port.val tag.toNat .poison [])))

/-- The fabric manager's packets, on an AGREED port (R457). ASSIGN gives the node number (R437, R438); WINDOW_SET puts a window in place, and one
that takes something away first drains the old epoch; WINDOW_CLEAR takes one away (R439-R441); OWN_GRANT completes an acquire, or is
answered with OWN_REL (R455, R617), which OWN_TIMEOUT gives up; TEARDOWN tears the contexts of a job (R460); MGT_ACK ends a release or a
cancel (R456). -/
def Obligations.FabricManagerIsObeyed : Prop :=
  ∀ (s : State) (p : FabIn), s.power.on = true →
    (mgtOk s p 0x40 = true →
      let n := leAt p.data 0 2
      (4096 ≤ n ∨ n / 64 ≠ odGet s (odKey 0x6000 5) → exec (.assign p) s = .next (keepQueue s (mgtAnswer s p .range))) ∧
      (n < 4096 → n / 64 = odGet s (odKey 0x6000 5) → odGet s (odKey 0x6000 2) = 0 →
        exec (.assign p) s = .next (keepQueue s (odSet (odSet (mgtAnswer s p .ok) (odKey 0x6000 1) n) (odKey 0x6000 2) 1)))) ∧
    (mgtOk s p 0x41 = true →
      let r := windowBytes (fabWin (padTo 48 p.data))
      let w := fabWin r
      let u := blobSet s (odCtx 0x6300 w.wid) r
      (windowOk s w = false → exec (.windowSet p) s = .next (keepQueue s (mgtAnswer s p .range))) ∧
      (windowOk s w = true → fabWinAt s w.wid = none → exec (.windowSet p) s = .next (keepQueue s (mgtAnswer u p .ok))) ∧
      (∀ old, windowOk s w = true → fabWinAt s w.wid = some old →
        (reduces old w = false → old.epoch ≤ w.epoch → exec (.windowSet p) s = .next (keepQueue s (mgtAnswer u p .ok))) ∧
        (reduces old w = true → old.epoch < w.epoch → exec (.windowSet p) s =
          .next (keepQueue s (windowDrains { u with step.targets := tblErase s.step.targets w.wid } p old false))) ∧
        (w.epoch < old.epoch → exec (.windowSet p) s = .next (keepQueue s (mgtAnswer s p .range))))) ∧
    (mgtOk s p 0x42 = true →
      let wid := leAt p.data 0 2
      (∀ w, wid < 4096 → fabWinAt s wid = some w → exec (.windowClear p) s =
        .next (keepQueue s (windowDrains { blobSet s (odCtx 0x6300 wid) [] with step.targets := tblErase s.step.targets wid } p w true))) ∧
      (4096 ≤ wid ∨ fabWinAt s wid = none → exec (.windowClear p) s = .next (keepQueue s (mgtAnswer s p .range)))) ∧
    (mgtOk s p 0x44 = true →
      let region := leAt p.data 0 4
      let c := leAt p.data 4 2 % 4096
      let epoch := leAt p.data 6 4
      (c, region) ∉ s.fab.cancels →
        (∀ j asked, grantee s c region = some (j, asked) →
          (fStatus p.hdr.toNat = .orphaned →
            exec (.ownGrant p) s = .next (keepQueue s (jobEnd s j.ctx j.queue j.idx (recFabric .orphaned j.op j.tag 0)))) ∧
          (fStatus p.hdr.toNat ≠ .orphaned → ∃ t, exec (.ownGrant p) s = .next t ∧ (c, region, epoch) ∈ t.fab.owned ∧ t.mem = s.mem ∧
            t.q.jobs = (jobEnd s j.ctx j.queue j.idx (recFabric .ok j.op j.tag (grantResult epoch region asked))).q.jobs)) ∧
        (grantee s c region = none → fStatus p.hdr.toNat ≠ .orphaned →
          exec (.ownGrant p) s = .next (keepQueue s (sendOwnRel s p.port.val 0 c region epoch 0)))) ∧
    (mgtOk s p 0x48 = true → ∀ job, job = leAt p.data 0 4 →
      exec (.teardown p) s = .next (keepQueue s (mgtAnswer (odBump ((List.range 4096).foldl
        (fun s c => if decide (job ≠ 0) && decide (odGet s (odCtx 0x6200 c) = job) then tornCtx s c else s) s) (odKey 0x6010 5) 1) p .ok))) ∧
    (mgtOk s p 0x4F = true →
      (leAt p.data 0 1 = 0x46 → exec (.mgtAck p) s = .next { s with fab.cancels := s.fab.cancels.drop 1 }) ∧
      (∀ r k i j, leAt p.data 0 1 = 0x45 → tblFind s.fab.peers (leAt p.data 2 2) = some r → r.ptype = 0x45 → r.asker = .job k i →
        jobFind s (k / 16) (k % 16) i = some j →
        exec (.mgtAck p) s = .next (keepQueue s (jobEnd { s with fab.peers := tblErase s.fab.peers (leAt p.data 2 2) } (k / 16) (k % 16) i
          (recFabric (statusFromCode (leAt p.data 1 1)) j.op j.tag r.len))))) ∧
    (∀ (c : Ctx) (q : QNum) (i : BitVec 32) (j : Job) (region : Nat), jobFind s c.toNat q.val i.toNat = some j → j.body = .own region →
      j.result = none → exec (.ownTimeout c q i) s = .next (keepQueue s
        (let t := sendOwn s 0x46 j.ctx region []
         jobEnd { t with fab.cancels := t.fab.cancels ++ [(j.ctx, region)] } j.ctx j.queue j.idx (recFabric .throttled j.op j.tag 0))))

/-! ## Contexts, keys and SPDM -/

/-- The life of a context (R491, R495, R506-R508). A free core takes a context command at once: CREATE of a FREE context is IN_PROGRESS with a new
key generation, epoch 0 and no flags until its record is durable, and CREATE_DONE makes it ACTIVE; TEAR of an ACTIVE one makes it TORN;
RELEASE of an ACTIVE or TORN one goes on with its record marked, and after the erasure the context is FREE. A command that the context's
state does not allow gives BAD_STATE. STANDBY_RESYNC makes the mirror SYNCED. BEGIN makes an ACTIVE context a shadow, and TAKEOVER ends
that after the commits of OD 0xC000.02 (R601). -/
def Obligations.ContextsLiveAndEnd : Prop :=
  ∀ (s : State) (ctx : Ctx), s.power.on = true →
    let c := ctx.toNat
    (dictUp s = true → c ≠ 0 → commandFree s = true → s.iso.commands = [] →
      (ctxState s c = 0 → ∃ t, exec (.create ctx) s = .next t ∧ t.iso.creating = some c ∧ odGet t (odCtx 0x9120 c) = 1 ∧ epochOf t c = 0 ∧
        odGet t (odCtx 0x9130 c) = (odGet s (odCtx 0x9130 c) + 1) % 2 ^ 32 ∧ (∀ e ∈ t.q.flags, e.1 / 16 ≠ c) ∧ ctxState t c = 0 ∧ t.mem = s.mem) ∧
      (ctxState s c ≠ 0 → exec (.create ctx) s = .next (keepQueue s (odSet s (odCtx 0x9120 c) 3))) ∧
      (ctxState s c = 1 → exec (.tear ctx) s = .next (keepQueue s (odSet (tornCtx s c) (odCtx 0x9120 c) 2))) ∧
      (ctxState s c ≠ 1 → exec (.tear ctx) s = .next (keepQueue s (odSet s (odCtx 0x9120 c) 3))) ∧
      (ctxState s c = 1 ∨ ctxState s c = 2 → ∃ t, exec (.release ctx) s = .next t ∧ t.iso.releasing = [⟨c, 1⟩] ∧ odGet t (odCtx 0x9120 c) = 1 ∧
        t.mem = s.mem ∧ t.q = s.q) ∧
      (ctxState s c = 0 ∨ ctxState s c = 3 → exec (.release ctx) s = .next (keepQueue s (odSet s (odCtx 0x9120 c) 3)))) ∧
    (s.iso.creating = some c →
      (∃ t, exec (.keyRecordDurable ctx) s = .next t ∧ createDurable t c = true ∧ t.od = s.od ∧ t.mem = s.mem) ∧
      (createDurable s c = true → s.iso.commands = [] → c ≠ 0 → ∃ t, exec (.createDone ctx) s = .next t ∧ t.iso.creating = none ∧ ctxState t c = 1 ∧
        odGet t (odCtx 0x9120 c) = 2 ∧ tblFind t.iso.active c ≠ none ∧ t.mem = s.mem)) ∧
    (s.iso.creating = none →
      (∀ r, s.iso.releasing.find? (fun r => decide (r.ctx = c)) = some r →
        (r.step = 1 → exec (.keyRecordDurable ctx) s =
          .next (keepQueue s (releaseWithdraw (releaseStep (releaseWindows (releaseStop (keyRecord s c .releasing) c) c) c 3) c))) ∧
        (r.step = 5 → s.iso.commands = [] → c ≠ 0 → ∃ t, exec (.keyRecordDurable ctx) s = .next t ∧ ctxState t c = 0 ∧
          odGet t (odCtx 0x9120 c) = 2 ∧ tblFind t.iso.keys0 c = none ∧ tblFind t.iso.keys1 c = none ∧ tblFind t.iso.active c = none ∧ t.mem = s.mem))) ∧
    (odGet s (odKey 0x9003 1) = 1 → ∃ t, exec .standbyResync s = .next t ∧ odGet t (odKey 0x9003 1) = 0 ∧ t.iso.standby = s.iso.active ∧
      t.iso.backlog = []) ∧
    (dictUp s = true → c ≠ 0 →
      (ctxActive s c = true → isShadow s c = false → ∃ t, exec (.begin ctx) s = .next t ∧ isShadow t c = true ∧ odGet t (odCtx 0xC130 c) = 0 ∧
        odGet t (odCtx 0xC120 c) = 1 ∧ t.mem = s.mem) ∧
      (isShadow s c = true → odGet s (odKey 0xC000 2) ≤ odGet s (odCtx 0xC130 c) → ∃ t, exec (.takeover ctx) s = .next t ∧
        isShadow t c = false ∧ odGet t (odCtx 0xC120 c) = 1) ∧
      (isShadow s c = true → odGet s (odCtx 0xC130 c) < odGet s (odKey 0xC000 2) →
        exec (.takeover ctx) s = .next (keepQueue s (odSet s (odCtx 0xC120 c) 2))))

/-- SPDM (R515-R517). GET_VERSION begins a source anew and offers version 1.2. A source in step goes on: GET_CAPABILITIES after the version,
NEGOTIATE_ALGORITHMS after the capabilities; then GET_DIGESTS; GET_CERTIFICATE of slot 0 within the chain; CHALLENGE of slot 0 and
GET_MEASUREMENTS, each with its signature counted where it is signed. Each answer is within 1,024 bytes and stands in the source's response
entry, with its transcripts, and the request is counted. Out of step a request is answered with UnexpectedRequest. Memory, contexts and keys
stay. The layouts are the model's (log entry 71). -/
def Obligations.SpdmIsAnswered : Prop :=
  ∀ (s : State) (src : Src) (m : Bytes), dictUp s = true → 4 ≤ m.length →
    let bump (k n : Nat) (t : State) : Prop :=
      odGet t (odKey 0x9301 k) = if n = 0 then odGet s (odKey 0x9301 k) else (odGet s (odKey 0x9301 k) + n) % 2 ^ 64
    let kept (t : State) : Prop := t.mem = s.mem ∧ t.iso.keys0 = s.iso.keys0 ∧ t.iso.keys1 = s.iso.keys1 ∧ t.iso.active = s.iso.active ∧
      t.q = s.q ∧ t.out = s.out
    (leAt m 1 1 = 0x84 → leAt m 0 1 = 0x10 → ∃ t x, exec (.getVersion src m) s = .next t ∧ spdmOf t src = some x ∧ x.stage = 1 ∧
      x.response = [0x10#8, 0x04#8, 0#8, 0#8, 0#8, 1#8, 0#8, 0x12#8] ∧ x.resynch = false ∧ x.transA = m ++ x.response ∧ x.transB = [] ∧
      x.transM = [] ∧ bump 1 1 t ∧ kept t ∧ t.free = s.free) ∧
    (∀ x, spdmOf s src = some x → x.resynch = false → leAt m 0 1 = 0x12 →
      let answered (i : Instr) (signatures : Nat) (r : Bytes × SpdmSrc × State) : Prop :=
        ∃ t y, exec i s = .next t ∧ spdmOf t src = some y ∧ y.response = spdmLimit r.1 ∧ y.stage = r.2.1.stage ∧
          y.transA = r.2.1.transA ∧ y.transB = r.2.1.transB ∧ y.transM = r.2.1.transM ∧ bump 1 1 t ∧ bump 2 signatures t ∧ kept t
      let chain := Config.certChain
      (leAt m 1 1 = 0xE1 → x.stage = 1 → answered (.getCapabilities src m) 0 (spdmCapabilities s x m) ∧
        leAt (spdmLimit (spdmCapabilities s x m).1) 1 1 = 0x61 ∧ (spdmCapabilities s x m).2.1.stage = 2) ∧
      (leAt m 1 1 = 0xE3 → x.stage = 2 → answered (.negotiateAlgorithms src m) 0 (spdmAlgorithms s x m) ∧
        leAt (spdmLimit (spdmAlgorithms s x m).1) 1 1 = 0x63 ∧ (spdmAlgorithms s x m).2.1.stage = 3) ∧
      (leAt m 1 1 = 0x81 → x.stage = 3 → answered (.getDigests src m) 0
        ([0x12#8, 0x01#8, 0#8, 1#8] ++ sha256 chain, { x with transB := x.transB ++ m ++ ([0x12#8, 0x01#8, 0#8, 1#8] ++ sha256 chain) }, s)) ∧
      (leAt m 1 1 = 0x82 → x.stage = 3 → leAt m 2 1 = 0 → leAt m 4 2 < chain.length →
        let part := (chain.drop (leAt m 4 2)).take (min (leAt m 6 2) 1016)
        let r := [0x12#8, 0x02#8, 0#8, 0#8] ++ natLe 2 part.length ++ natLe 2 (chain.length - leAt m 4 2 - part.length) ++ part
        answered (.getCertificate src m) 0 (r, { x with transB := x.transB ++ m ++ r }, s)) ∧
      (leAt m 1 1 = 0x83 → x.stage = 3 → leAt m 2 1 = 0 → 36 ≤ m.length → leAt m 3 1 ∈ [0, 1, 0xFF] →
        answered (.challenge src m) 1 (spdmChallenge s x m) ∧ leAt (spdmChallenge s x m).1 1 1 = 0x03 ∧
        (spdmChallenge s x m).2.1 = { x with transB := [], transM := [] }) ∧
      (leAt m 1 1 = 0xE0 → x.stage = 3 → (leAt m 3 1 ≤ 8 ∨ leAt m 3 1 = 0xFF) →
        (leAt m 2 1 % 2 = 0 → answered (.getMeasurements src m) 0 (spdmMeasurements s x m) ∧ leAt (spdmMeasurements s x m).1 1 1 = 0x60) ∧
        (leAt m 2 1 % 2 = 1 → 37 ≤ m.length → leAt m 36 1 = 0 →
          answered (.getMeasurements src m) 1 (spdmMeasurements s x m) ∧ leAt (spdmMeasurements s x m).1 1 1 = 0x60)) ∧
      (∀ p ∈ [(Instr.getCapabilities src m, 0xE1, 1), (.negotiateAlgorithms src m, 0xE3, 2), (.getDigests src m, 0x81, 3),
          (.getCertificate src m, 0x82, 3), (.challenge src m, 0x83, 3), (.getMeasurements src m, 0xE0, 3)],
        leAt m 1 1 = p.2.1 → x.stage ≠ p.2.2 → answered p.1 0 ([0x12#8, 0x7F#8, 4#8, 0#8], x, s)))

/-! ## Firmware -/

/-- Images. Neither the running slot is made the target nor is it erased: RUNNING_SLOT; another one is taken, and ERASE leaves it reading 0xFF and not
verified; a chunk that passes the slot's end is refused, and one that the program buffer takes is stored (R534, R535). VERIFY gives the
outcome of the first check of R528 that fails, or VALID and the version. COMMIT_SECURITY_STATE raises the fused version, and revokes the key
slots that the running bundle names but its own (R533). -/
def Obligations.ImagesAreStored : Prop :=
  ∀ s : State, dictUp s = true →
    let k := imageTarget s
    (∀ n : Fin 3, (slotBooted s = n.val → exec (.imageTargetSlot n) s = .next (keepQueue s (imageOutcome s 3))) ∧
      (slotBooted s ≠ n.val → ∃ t, exec (.imageTargetSlot n) s = .next t ∧ imageTarget t = n.val ∧ odGet t (odKey 0xA200 4) = 0 ∧ t.fw = s.fw)) ∧
    (slotBooted s = k → exec .erase s = .next (keepQueue s (imageOutcome s 3))) ∧
    (slotBooted s ≠ k → ∃ t, exec .erase s = .next t ∧ slotMem t k = [] ∧ odGet t (odKey 0xA201 (k + 1)) = 0 ∧ odGet t (odKey 0xA200 4) = 0 ∧
      t.mem = s.mem) ∧
    (∀ (src : Src) (b : Bytes), b.length ≤ 1024 →
      ((b.length < 4 ∨ slotSize k < leAt b 0 4 + (b.length - 4)) → ∃ t, exec (.imageChunk src b) s = .next t ∧ odGet t (odKey 0xA200 4) = 4 ∧
        slotMem t k = slotMem s k) ∧
      (4 ≤ b.length → leAt b 0 4 + (b.length - 4) ≤ slotSize k → s.fw.buffered + (b.length - 4) ≤ Config.programBuffer →
        ∃ t, exec (.imageChunk src b) s = .next t ∧ slotMem t k = memWrite (slotMem s k) (leAt b 0 4) ((b.drop 4).map (fun x => ~~~x)) ∧
          odGet t (odKey 0xA201 (k + 1)) = 0 ∧ t.mem = s.mem)) ∧
    (∃ t, exec .verify s = .next t ∧ t.mem = s.mem ∧
      odGet t (odKey 0xA200 4) = (if verifyStep s k = none then (if allComponentsOk s k = true then 2 else 9)
        else if verifyStep s k = some 1 then 5
        else if verifyStep s k = some 2 then (if keyMatches (manifestOf s k) = true ∧ keySlotState s (manifestOf s k).keySlot = 1 then 7 else 6)
        else if verifyStep s k = some 3 then 6 else if verifyStep s k = some 4 then 8 else 9) ∧
      odGet t (odKey 0xA201 (k + 1)) = (if verifyStep s k = none ∧ allComponentsOk s k = true then (manifestOf s k).version
        else odGet s (odKey 0xA201 (k + 1)))) ∧
    (slotBooted s = 2 → exec .commitSecurityState s = .next (keepQueue s (odSet s (odKey 0xA000 5) 3))) ∧
    (slotBooted s ≠ 2 → (devState s = 1 ∨ devState s = 2) → ∃ t, exec .commitSecurityState s = .next t ∧ odGet t (odKey 0xA000 5) = 1 ∧
      t.fw.svn = some (max (fusedSvn s) s.fw.bundleSvn) ∧ (∀ n ∈ s.fw.revoked, n ∈ t.fw.revoked) ∧
      ∀ n, 1 ≤ n → n ≤ 4 → (n ∈ t.fw.revoked ↔ n ∈ s.fw.revoked ∨ (s.fw.revoke.testBit (n - 1) = true ∧ n ≠ s.fw.keySlot)))

/-- Processors. A fault or a watchdog of a processor that has run for ten seconds restarts it, as an operator's RESTART does; a failure before
that is one more in a row, of which the third retires it; RESTART_STABLE clears the count (R543, R546). The management core that fails
passes to the standby (R34). A restart that passes its bound fails, and an update that waited for it stops (R546, R552). LIVE_UPDATE is taken
or refused by the checks of R550, and FW_UPDATE takes one processor further (R551). SLICE_END turns a scribe core to the next of its queues
that has work (R538). -/
def Obligations.ProcessorsAreKept : Prop :=
  ∀ s : State, s.power.on = true →
    (∀ (p : Fin 64) (r : Bool), procUp s p.val = true → ¬(p.val = activeCore s ∧ s.boot.standby = true) →
      (procState s p.val ≠ 1 → exec (.restart p r) s = .next (keepQueue s (beginRestart s p.val r))) ∧
      (procState s p.val ≠ 2 →
        let soon := ∃ t, tblFind s.fw.ranSince p.val = some t ∧ s.now < t + 10000000000
        (¬soon → procState s p.val ≠ 1 → exec (.watchdog p r) s = .next (keepQueue s (beginRestart s p.val r)) ∧
          exec (.processorFault p r) s = .next (keepQueue s (beginRestart s p.val r))) ∧
        (soon ∨ procState s p.val = 1 → exec (.watchdog p r) s = .next (keepQueue s (restartFailed s p.val r)) ∧
          exec (.processorFault p r) s = .next (keepQueue s (restartFailed s p.val r))))) ∧
    (∀ (p n : Nat) (r : Bool), n = odGet s (odKey 0xA103 p) →
      (2 ≤ n → restartFailed s p r = retireProc (odSet s (odKey 0xA103 p) 3) p) ∧
      (n < 2 → restartFailed s p r = beginRestart (odSet s (odKey 0xA103 p) (n + 1)) p r)) ∧
    (∀ p : Fin 64, (procState s p.val = 0 ∨ procState s p.val = 3) → ∃ t, exec (.restartStable p) s = .next t ∧ odGet t (odKey 0xA103 p.val) = 0 ∧
      tblFind t.fw.ranSince p.val = none ∧ t.mem = s.mem ∧ t.q = s.q) ∧
    (∀ d, s.boot.activeDie = some d → s.boot.next = some 7 → s.boot.standby = true →
      exec .managementTakeover s = .next (keepQueue s (takeover { s with boot.dead := addOnce s.boot.dead d })) ) ∧
    (∀ p : Fin 64, procState s p.val = 1 →
      exec (.restartTimeout p) s = .next (keepQueue s
        (let t := if s.fw.update.map (fun u => u.todo.head?) = some (some p.val) then
           odSet (updateOutcome { s with fw.update := none } 3) (odKey 0xA210 3) p.val else s
         restartFailed { t with free := t.free + 1 } p.val (decide (Config.freeNat t.free % 2 = 1))))) ∧
    (dictUp s = true →
      (∀ w : BitVec 8, (w.toNat < 64 ∨ w.toNat = 255) →
        let k := if slotBooted s = 0 then 1 else 0
        let same := (manifestOf s k).interface = s.fw.interface ∧ engineDigests s k = engineDigests s (slotBooted s)
        (odGet s (odKey 0xA201 (k + 1)) = 0 → exec (.liveUpdate w) s = .next (keepQueue s (updateOutcome s 4))) ∧
        (odGet s (odKey 0xA201 (k + 1)) ≠ 0 → same → s.fw.update = none → ∃ t, exec (.liveUpdate w) s = .next t ∧ odGet t (odKey 0xA210 2) = 1 ∧
          t.fw.update = some ⟨if w.toNat = 255 then updateOrder s else [w.toNat], decide (w.toNat = 255), k⟩)) ∧
      (∀ u p rest, s.fw.update = some u → u.todo = p :: rest → p ≠ 64 → procState s p ≠ 1 → procState s p ≠ 2 → p ≠ activeCore s →
        let v := logEv s "FW_UPDATE" [p, (manifestOf s u.slot).version]
        exec (.fwUpdate true) s = .next (keepQueue s (updateRest (procLoaded (beginRestart v p true) p u.slot 3) u rest)) ∧
        exec (.fwUpdate false) s = .next (keepQueue s (beginRestart v p false)))) ∧
    (∀ (p : Fin 48) (k : Nat), procRunning s p.val = true →
      let keys := (s.q.queues.filter (fun e => e.2.enabled && decide (e.2.scribe = p.val) && decide (e.2.disp ≠ e.2.tail) &&
        ctxActive s (e.1 / 16))).map (·.1)
      (keys.filter (fun k => decide (tblGet 0 s.fw.serving p.val < k)) ++ keys).head? = some k →
      exec (.sliceEnd p) s = .next (keepQueue s (queuePoll { s with fw.serving := tblSet s.fw.serving p.val k } (k / 16) (k % 16))))

/-! ## Bring-up, power and heat -/

/-- Bring-up (R555-R567, R574-R577). POWER_GOOD makes stage 0 the next one. A stage runs where it is next, and the one after it is then next; stage 6
opens admission unless the device is FAILED or has been stopped as planned (R233, R567). A failed engine is marked, its work goes to the cluster's spare or elsewhere. -/
def Obligations.BringUpRuns : Prop :=
  ∀ s : State,
    (s.power.on = false → s.power.locked = false → s.power.resetLow = false →
      ∃ t, exec .powerGood s = .next t ∧ t.power.on = true ∧ t.boot.next = some 0 ∧ t.mem = s.mem ∧ t.od = s.od) ∧
    (s.power.on = true →
      (∀ a b, s.boot.halted = false → s.boot.next = some 0 →
        exec (.stage0 a b) s = .next (keepQueue s (runStage0 s a b)) ∧
        (a = false → b = false → ∃ t, exec (.stage0 a b) s = .next t ∧ t.boot.halted = true ∧ t.power.faultLow = true ∧
          odGet t (odKey 0xD008 1) = 4 ∧ t.boot.next = none)) ∧
      (∀ f, stageRuns s 1 = true → exec (.stage1 f) s = .next (keepQueue s (runStage1 s f))) ∧
      (∀ f, stageRuns s 2 = true → exec (.stage2 f) s = .next (keepQueue s (runStage2 s f))) ∧
      (∀ f, stageRuns s 3 = true → exec (.stage3 f) s = .next (keepQueue s (runStage3 s f))) ∧
      (∀ f, stageRuns s 4 = true → exec (.stage4 f) s = .next (keepQueue s (runStage4 s f)) ∧ (runStage4 s f).boot.next = some 5) ∧
      (∀ f, stageRuns s 5 = true → s.boot.held5 = none → exec (.stage5 f) s = .next (keepQueue s (runStage5 s f))) ∧
      (stageRuns s 6 = true → exec .stage6 s = .next (keepQueue s (runStage6 s)) ∧
        (s.iso.commands = [] → (runStage6 s).boot.next = some 7 ∧
          (devState s = 3 → (runStage6 s).tier.admitting = s.tier.admitting) ∧ (devState s ≠ 3 → (runStage6 s).tier.admitting = decide (odGet s (odKey 0x3006 6) = 0)))) ∧
      (∀ f, ∀ p ∈ [(1, Instr.stage1 f), (2, .stage2 f), (3, .stage3 f), (4, .stage4 f), (5, .stage5 f), (6, .stage6)],
        stageRuns s p.1 = false → exec p.2 s = .next s) ∧
      ((s.boot.next = some 5 ∧ s.boot.held5.isSome = true) ∨ (s.boot.next = some 7 ∧ devState s = 0) →
        exec .topologyShort s = .next (keepQueue s (logNotify s "TOPOLOGY_SHORT" [agreedPorts s false, agreedPorts s true]))) ∧
      (let learned := { s.fw.learned with spares := s.fab.sparesUsed }
       s.boot.next = some 7 → ∃ t, exec .trainingSave s = .next t ∧
        (newerHalf s = 0 → t.fw.train1 = ⟨true, s.fw.train0.gen + 1, s.fw.interface, learned, mapEntries s⟩ ∧ t.fw.train0 = s.fw.train0) ∧
        (newerHalf s ≠ 0 → t.fw.train0 = ⟨true, (if newerHalf s = 2 then 0 else s.fw.train1.gen) + 1, s.fw.interface, learned, mapEntries s⟩ ∧
          t.fw.train1 = s.fw.train1) ∧ t.mem = s.mem) ∧
      (∀ (d : Fin 24) (c : Fin 18) (p : Nat) (e dest : Nat) (u : State), s.boot.next = some 7 → p < physCount c.val →
        markPhys s d.val c.val p = (some (e, dest), u) → dest ≠ 15 →
        let t := redoWork (odBump (logEv (mapCauses u) "ENGINE_SPARED" [locPhys s d.val c.val p, e, dest]) (odKey 0xB200 1) 1) d.val c.val e
        (∀ h : p < 10, exec (.engineFail d c ⟨p, h⟩) s = .next (keepQueue s t)) ∧ (∀ h : p < 9, exec (.engineHang d c ⟨p, h⟩) s = .next (keepQueue s t)) ∧
        ∀ code : BitVec 64, physNamed code.toNat = some (d.val, c.val, p) → exec (.failPhysicalEngine code) s = .next (keepQueue s t)) ∧
      (s.boot.next = some 7 → odGet s (odKey 0xB001 4) ≠ 0 → ∀ l, exec (.katInterval l) s = .next (keepQueue s
        (l.foldl (fun s f => failEngine s f.1.val f.2.1.val f.2.2.val)
          (odBump (odBump s (odKey 0xB200 3) (enginesTested s)) (odKey 0xB200 4) l.length)))) ∧
      (dictUp s = true → ∃ t, exec .clearRepairMarks s = .next t ∧ t.boot.clearMarks = true ∧ t.od = s.od ∧ t.mem = s.mem))

/-- Power, heat and reset (R541, R542, R620-R637). The supply, the pins, the clamp and the ceiling, the governors and their loops, trips and
shutdowns, and the failure of a die. -/
def Obligations.PowerAndHeat : Prop :=
  ∀ s : State,
    exec .undervoltage s = .next (keepQueue s { powerDown s with power.locked := false }) ∧
    exec .overvoltage s = .next (keepQueue s { powerDown s with power.locked := true }) ∧
    (s.power.on = false → exec .reset s = .next { s with power.resetLow := true }) ∧
    (s.power.on = true → s.tier.pfail = .idle →
      let u := { s with power.resetLow := true }
      (s.tier.admitting = false → exec .reset s = .next (keepQueue s (resetModule u))) ∧
      (s.tier.admitting = true → exec .reset s = .next (keepQueue s (flushThen u 2)))) ∧
    (exec .fspiEnable s = .next { s with power.fspiLow := s.power.fspiLow || s.power.resetLow }) ∧
    (s.power.resetLow = true → ∃ t, exec .resetRelease s = .next t ∧ t.power.resetLow = false ∧ t.power.fspiLow = false ∧ t.mem = s.mem ∧
      (s.power.on = true → s.boot.next = none → s.boot.halted = false → s.tier.pfail = .idle → t.boot.next = some 0)) ∧
    (s.power.on = true →
      (s.power.pfailLow = false → s.tier.pfail = .idle →
        let u := logEv (odBump s (odKey 0xD007 5) 1) "PFAIL_UNSIGNALLED" []
        exec .pfailUnsignalled s = .next (keepQueue s (if s.boot.next = some 7 then startFlush u s.now else stopBringUp u))) ∧
      (∀ n d, s.boot.activeDie = some d →
        let c := stepCeiling s.power.ceiling n (odGet s (odKey 0xD000 1))
        exec (.ceilingStep n) s = .next (keepQueue s (showEngines
          { odSet (odSet s (odKey 0xD000 2) (min n 65535)) (odKey 0xD000 4) (c / 2) with
            power.ceiling := c, power.clamped := s.power.clamped && decide (odGet s (odKey 0xD000 1) ≤ n) }))) ∧
      (s.power.clamped = false → exec .fastClamp s =
        .next (keepQueue s (showEngines { logEv (odBump s (odKey 0xD007 2) 1) "POWER_CLAMP" [] with power.clamped := true }))) ∧
      (∀ (d : Fin 40) (n : Fin 8), tblFind s.power.tripped d.val = none → ∃ t, exec (.thermalTrip d n) s = .next t ∧
        tblFind t.power.tripped d.val = some n.val ∧ odGet t (odKey 0xD005 d.val) = 600 ∧ (∃ e ∈ t.log, e.name = "THERMAL_TRIP" ∧ e.args = [locDie s d.val, n.val]) ∧
        t.mem = s.mem) ∧
      (∀ d : Fin 40, tblFind s.power.tripped d.val ≠ none → ∃ t, exec (.thermalRelease d) s = .next t ∧ tblFind t.power.tripped d.val = none ∧
        odGet t (odKey 0xD005 d.val) = coreVolt t d.val ∧ t.mem = s.mem) ∧
      (∀ k, let go (code : Nat) := flushThen (odSet (odBump s (odKey 0xD007 4) 1) (odKey 0xD008 1) code) 1
        (k = .leak → exec (.thermalShutdown k) s = .next (keepQueue s (go 3))) ∧
        (∀ d, k = .hot d → exec (.thermalShutdown k) s = .next (keepQueue s (go 2))) ∧
        (∀ d, k = .tripOneSecond d → tblFind s.power.tripped d.val ≠ none → exec (.thermalShutdown k) s = .next (keepQueue s (go 2)))) ∧
      (∀ i o : Int, ∃ t, exec (.coolantWarm i o) s = .next t ∧ odGet t (odKey 0xD006 1) = ofSigned 32 i ∧ odGet t (odKey 0xD006 2) = ofSigned 32 o ∧
        (5500 < o → ∃ e ∈ t.log, e.name = "COOLANT_WARM") ∧ (o ≤ 5500 → t.log = s.log) ∧ t.mem = s.mem) ∧
      (∀ (d : Fin 40) (l : List (Fin 8)), ∃ t, exec (.governorFallback d .sensorFault l) s = .next t ∧ odGet t (odKey 0xA301 d.val) = 1 ∧
        tblFind t.fw.flagged d.val = some (l.map (·.val)) ∧ t.power = s.power) ∧
      (∀ (d : Fin 40) (l : List (Fin 8)), odGet s (odKey 0xD001 1) = 1 → ∃ t, exec (.governorFallback d .manual l) s = .next t ∧
        odGet t (odKey 0xA301 d.val) = 2 ∧ t.power = s.power) ∧
      (∀ d : Fin 40, odGet s (odKey 0xA301 d.val) ≠ 0 →
        (∃ t, exec (.loopLost d) s = .next t ∧ d.val ∈ t.fw.loopLost ∧ odGet t (odKey 0xD005 d.val) = 600) ∧
        (∀ h l, loopHost s d.val = some h → exec (.fallbackLoop d l) s = .next (keepQueue s (loopTurn s d.val l)))) ∧
      (∀ d : Fin 40, s.boot.next = some 7 → odGet s (odKey 0xA301 d.val) = 0 →
        (600 < requestOf s d.val → ∃ t, exec (.thermalVoltageReduction d) s = .next t ∧ requestOf t d.val < requestOf s d.val ∧ t.mem = s.mem) ∧
        (requestOf s d.val ≤ 600 → exec (.thermalVoltageReduction d) s = .next s)) ∧
      (∀ d : Fin 40,
        (d.val < 32 → exec (.dieFailure d) s = .next (keepQueue s (deviceFailed s)) ∧ devState (deviceFailed s) = 3 ∧
          (deviceFailed s).tier.admitting = false ∧ (deviceFailed s).power.faultLow = true) ∧
        (32 ≤ d.val → d.val < 38 → exec (.dieFailure d) s =
          .next (keepQueue s (((List.range 24).filter (fun l => decide (linkDie l = d.val))).foldl portDown s))) ∧
        (38 ≤ d.val → s.boot.activeDie = some (d.val - 38) → exec (.dieFailure d) s = .next (keepQueue s (mgmtFails s))) ∧
        (38 ≤ d.val → s.boot.activeDie ≠ some (d.val - 38) → ∃ t, exec (.dieFailure d) s = .next t ∧ (d.val - 38) ∈ t.boot.dead ∧ t.mem = s.mem)))
end

