-- ==== Sys2Proof/Laws/Bytes.lean ====
section
/-! SUPPORT. Laws of byte strings: lengths, little-endian fields, and the codec of the items of R65. -/

namespace Sys2Proof.Laws

open Sys2Proof Sys2Proof.Machine

/-- A number written as `k` bytes takes `k` bytes. -/
theorem natLe_length (k n : Nat) : (natLe k n).length = k := by
  induction k generalizing n with
  | zero => rfl
  | succ k ih => simp [natLe, ih]

/-- Reading `k` written bytes gives the number modulo 256 to the power `k`. -/
theorem leNat_natLe (k n : Nat) : leNat (natLe k n) = n % 256 ^ k := by
  induction k generalizing n with
  | zero => simp [natLe, leNat, Nat.mod_one]
  | succ k ih =>
    simp only [natLe, leNat, ih, BitVec.toNat_ofNat]
    rw [show (256 : Nat) ^ (k + 1) = 256 * 256 ^ k by ring, Nat.mod_mul]

/-- A field between two parts of a byte string. -/
theorem leAt_append (a b c : Bytes) (lo k : Nat) (h : a.length = lo) (hb : b.length = k) : leAt (a ++ b ++ c) lo k = leNat b := by
  subst h hb; simp [leAt, List.append_assoc]

/-- Padding gives the length asked for. -/
theorem padTo_length (k : Nat) (b : Bytes) : (padTo k b).length = k := by simp [padTo]; omega

/-- Rounding up does not go below. -/
theorem roundUp_ge (n k : Nat) (hk : 0 < k) : n ≤ roundUp n k := by
  unfold roundUp
  have h1 := Nat.div_add_mod (n + k - 1) k
  have h2 := Nat.mod_lt (n + k - 1) hk
  rw [Nat.mul_comm] at h1
  generalize (n + k - 1) / k * k = a at h1 ⊢
  omega

/-- An item's bytes at the front of a message are read back as the item. -/
theorem parseItems_cons (i : VItem) (t : Bytes) (h : i.idx < 2 ^ 16 ∧ i.sub < 2 ^ 8 ∧ i.ty < 2 ^ 8 ∧ i.val.length < 2 ^ 16 ∧ i.st = .ok ∧ i.rsn = .none) (n : Nat) (l : List VItem)
  (hl : parseItems n t = some l) : parseItems (n+1) (vItemBytes i ++ t) = some (i :: l) := by
  obtain ⟨idx, sub, ty, val, st, rsn⟩ := i
  simp only at h
  obtain ⟨h1, h2, h3, h4, rfl, rfl⟩ := h
  have e4 : leAt (vItemBytes ⟨idx, sub, ty, val, .ok, .none⟩ ++ t) 4 2 = val.length := by
    have := leNat_natLe 2 val.length
    simp only [vItemBytes]
    rw [show ∀ a b c d e f g t : Bytes, a ++ b ++ c ++ d ++ e ++ f ++ g ++ t = (a ++ b ++ c) ++ d ++ (e ++ f ++ g ++ t) by simp]
    rw [leAt_append _ _ _ _ _ (by simp [natLe_length]) (natLe_length _ _), this]; omega
  have e0 : leAt (vItemBytes ⟨idx, sub, ty, val, .ok, .none⟩ ++ t) 0 2 = idx := by
    have := leNat_natLe 2 idx
    simp only [vItemBytes]
    rw [show ∀ a b c d e f g t : Bytes, a ++ b ++ c ++ d ++ e ++ f ++ g ++ t = [] ++ a ++ (b ++ c ++ d ++ e ++ f ++ g ++ t) by simp]
    rw [leAt_append [] _ _ 0 2 rfl (natLe_length _ _), this]; omega
  have e2 : leAt (vItemBytes ⟨idx, sub, ty, val, .ok, .none⟩ ++ t) 2 1 = sub := by
    have := leNat_natLe 1 sub
    simp only [vItemBytes]
    rw [show ∀ a b c d e f g t : Bytes, a ++ b ++ c ++ d ++ e ++ f ++ g ++ t = a ++ b ++ (c ++ d ++ e ++ f ++ g ++ t) by simp]
    rw [leAt_append _ _ _ _ _ (natLe_length _ _) (natLe_length _ _), this]; omega
  have e3 : leAt (vItemBytes ⟨idx, sub, ty, val, .ok, .none⟩ ++ t) 3 1 = ty := by
    have := leNat_natLe 1 ty
    simp only [vItemBytes]
    rw [show ∀ a b c d e f g t : Bytes, a ++ b ++ c ++ d ++ e ++ f ++ g ++ t = (a ++ b) ++ c ++ (d ++ e ++ f ++ g ++ t) by simp]
    rw [leAt_append _ _ _ _ _ (by simp [natLe_length]) (natLe_length _ _), this]; omega
  have hge := roundUp_ge val.length 4 (by decide)
  have elen : (vItemBytes ⟨idx, sub, ty, val, .ok, .none⟩).length = 8 + roundUp val.length 4 := by
    simp [vItemBytes, natLe_length, padTo_length]
    omega
  simp only [parseItems, e4, e0, e2, e3]
  rw [if_neg (by simp [elen])]
  rw [← elen, List.drop_left, hl]
  simp only
  congr 2
  simp only [VItem.mk.injEq, true_and, and_true]
  simp only [vItemBytes]
  rw [show ∀ a b c d e f g t : Bytes, a ++ b ++ c ++ d ++ e ++ f ++ g ++ t = (a ++ b ++ c ++ d ++ e ++ f) ++ (g ++ t) by simp]
  rw [List.drop_left' (by simp [natLe_length])]
  simp only [padTo]
  rw [List.append_assoc, List.take_append_of_le_length (by simp; omega), List.take_take]
  simp [hge]

end Sys2Proof.Laws
end

