-- ==== Sys2Proof/Laws/Memory.lean ====
section
/-! SUPPORT. The byte memory and the tables: what a read gives after a write, and that every operation keeps the canonical form. -/

namespace Sys2Proof.Machine

/-! ## The canonical form -/

theorem memWf_iff (m : Memory) : memWf m = true ↔ m.Pairwise (fun a b => a.1 < b.1) ∧ ∀ c ∈ m, c.2 ≠ 0#8 := by
  induction m with
  | nil => simp [memWf]
  | cons c t ih =>
    obtain ⟨a, v⟩ := c
    cases t with
    | nil => simp [memWf]
    | cons d t =>
      obtain ⟨b, w⟩ := d
      simp only [memWf, Bool.and_eq_true, decide_eq_true_eq, ih, List.pairwise_cons, List.mem_cons, forall_eq_or_imp]
      constructor
      · rintro ⟨⟨hv, hab⟩, ⟨hb, hp⟩, hw, hz⟩
        exact ⟨⟨⟨hab, fun x hx => Nat.lt_trans hab (hb x hx)⟩, hb, hp⟩, hv, hw, hz⟩
      · rintro ⟨⟨⟨hab, _⟩, hb, hp⟩, hv, hw, hz⟩
        exact ⟨⟨hv, hab⟩, ⟨hb, hp⟩, hw, hz⟩

theorem memPut_mem (m : Memory) (a : Nat) (b : Byte) (c : Nat × Byte) (h : c ∈ memPut m a b) :
    c ∈ m ∨ (c = (a, b) ∧ b ≠ 0#8) := by
  induction m with
  | nil =>
    simp only [memPut] at h
    split at h <;> simp_all
  | cons d t ih =>
    obtain ⟨k, v⟩ := d
    simp only [memPut] at h
    split at h
    · split at h
      · simp_all
      · rcases List.mem_cons.1 h with h | h
        · exact .inr ⟨h, by assumption⟩
        · exact .inl h
    · split at h
      · split at h
        · simp_all
        · simp only [List.mem_cons] at h ⊢
          rcases h with h | h
          · exact .inr ⟨h, by assumption⟩
          · exact .inl (.inr h)
      · simp only [List.mem_cons] at h ⊢
        rcases h with h | h
        · exact .inl (.inl h)
        · rcases ih h with h | h
          · exact .inl (.inr h)
          · exact .inr h

theorem memPut_wf (m : Memory) (a : Nat) (b : Byte) (h : memWf m = true) : memWf (memPut m a b) = true := by
  rw [memWf_iff] at h ⊢
  refine ⟨?_, fun c hc => ?_⟩
  · obtain ⟨hp, -⟩ := h
    induction m with
    | nil => simp only [memPut]; split <;> simp
    | cons d t ih =>
      obtain ⟨k, v⟩ := d
      rw [List.pairwise_cons] at hp
      simp only [memPut]
      split
      · split
        · exact List.pairwise_cons.2 hp
        · refine List.pairwise_cons.2 ⟨fun x hx => ?_, List.pairwise_cons.2 hp⟩
          rcases List.mem_cons.1 hx with rfl | hx
          · assumption
          · exact Nat.lt_trans (by assumption) (hp.1 x hx)
      · split
        · split
          · exact hp.2
          · exact List.pairwise_cons.2 ⟨fun x hx => by have := hp.1 x hx; simp at this; omega, hp.2⟩
        · refine List.pairwise_cons.2 ⟨fun x hx => ?_, ih hp.2⟩
          rcases memPut_mem t a b x hx with hx | ⟨rfl, -⟩
          · exact hp.1 x hx
          · simp; omega
  · rcases memPut_mem m a b c hc with hc | ⟨rfl, hb⟩
    · exact h.2 c hc
    · exact hb

theorem memWrite_wf (m : Memory) (a : Nat) (bs : Bytes) (h : memWf m = true) : memWf (memWrite m a bs) = true := by
  induction bs generalizing m a with
  | nil => exact h
  | cons b bs ih => exact ih _ _ (memPut_wf m a b h)

theorem memWriteMask_wf (m : Memory) (a mask : Nat) (bs : Bytes) (h : memWf m = true) : memWf (memWriteMask m a mask bs) = true := by
  induction bs generalizing m a mask with
  | nil => exact h
  | cons b bs ih =>
    simp only [memWriteMask]
    split
    · exact ih _ _ _ (memPut_wf m a b h)
    · exact ih _ _ _ h

theorem memFilter_wf (m : Memory) (p : Nat × Byte → Bool) (h : memWf m = true) : memWf (m.filter p) = true := by
  rw [memWf_iff] at h ⊢
  exact ⟨h.1.filter p, fun c hc => h.2 c (List.mem_of_mem_filter hc)⟩

theorem memZero_wf (m : Memory) (a n : Nat) (h : memWf m = true) : memWf (memZero m a n) = true := memFilter_wf m _ h

theorem memMoved_wf (m : Memory) (a n b : Nat) (h : memWf m = true) : memWf (memMoved m a n b) = true := by
  have hf := memFilter_wf m (fun c => decide (a ≤ c.1) && decide (c.1 < a + n)) h
  rw [memWf_iff] at hf ⊢
  obtain ⟨hp, hz⟩ := hf
  refine ⟨?_, fun c hc => ?_⟩
  · rw [memMoved, List.pairwise_map]
    refine hp.imp_of_mem (fun {x y} hx hy hxy => ?_)
    simp only [List.mem_filter, Bool.and_eq_true, decide_eq_true_eq] at hx hy
    simp only
    omega
  · obtain ⟨x, hx, rfl⟩ := List.mem_map.1 hc
    exact hz x hx

theorem memCopy_wf (src : Memory) (a n : Nat) (dst : Memory) (b : Nat) (hs : memWf src = true) (hd : memWf dst = true) :
    memWf (memCopy src a n dst b) = true := by
  have h1 := (memWf_iff _).1 (memFilter_wf dst (fun c => decide (c.1 < b)) hd)
  have h2 := (memWf_iff _).1 (memMoved_wf src a n b hs)
  have h3 := (memWf_iff _).1 (memFilter_wf dst (fun c => decide (b + n ≤ c.1)) hd)
  have hm : ∀ x ∈ memMoved src a n b, b ≤ x.1 ∧ x.1 < b + n := by
    intro x hx
    obtain ⟨y, hy, rfl⟩ := List.mem_map.1 hx
    simp only [List.mem_filter, Bool.and_eq_true, decide_eq_true_eq] at hy
    simp only
    omega
  rw [memWf_iff, memCopy]
  refine ⟨List.pairwise_append.2 ⟨List.pairwise_append.2 ⟨h1.1, h2.1, ?_⟩, h3.1, ?_⟩, ?_⟩
  · intro x hx y hy
    simp only [List.mem_filter, decide_eq_true_eq] at hx
    have := hm y hy
    omega
  · intro x hx y hy
    simp only [List.mem_filter, decide_eq_true_eq] at hy
    rcases List.mem_append.1 hx with hx | hx
    · simp only [List.mem_filter, decide_eq_true_eq] at hx
      omega
    · have := hm x hx
      omega
  · intro c hc
    rcases List.mem_append.1 hc with hc | hc
    · rcases List.mem_append.1 hc with hc | hc
      · exact h1.2 c hc
      · exact h2.2 c hc
    · exact h3.2 c hc

/-! ## A read after a write -/

theorem memGet_below (m : Memory) (a : Nat) (h : ∀ c ∈ m, a < c.1) : memGet m a = 0#8 := by
  cases m with
  | nil => rfl
  | cons c t =>
    obtain ⟨k, v⟩ := c
    have : a < k := h (k, v) (by simp)
    simp only [memGet]
    rw [if_neg (by omega), if_pos this]

theorem memGet_memPut (m : Memory) (a x : Nat) (b : Byte) (h : memWf m = true) :
    memGet (memPut m a b) x = if x = a then b else memGet m x := by
  obtain ⟨hp, -⟩ := (memWf_iff m).1 h
  clear h
  induction m with
  | nil =>
    simp only [memPut]
    split
    · subst_vars; simp [memGet]
    · simp only [memGet]; split <;> simp_all
  | cons d t ih =>
    obtain ⟨k, v⟩ := d
    rw [List.pairwise_cons] at hp
    have ih := ih hp.2
    simp only [memPut]
    split
    · split
      · subst_vars
        by_cases hx : x = a
        · subst hx
          simp only [if_true]
          exact memGet_below _ _ (fun c hc => by
            rcases List.mem_cons.1 hc with rfl | hc
            · assumption
            · exact Nat.lt_trans (by assumption) (hp.1 c hc))
        · simp [hx]
      · by_cases hx : x = a
        · subst hx; simp [memGet]
        · simp only [memGet, if_neg hx]
          by_cases hlt : x < a
          · rw [if_pos hlt, if_neg (by omega), if_pos (by omega)]
          · rw [if_neg hlt]
    · split
      · subst_vars
        split
        · subst_vars
          by_cases hx : x = k
          · subst hx
            simp only [if_true]
            exact memGet_below _ _ hp.1
          · simp only [if_neg hx, memGet]
            by_cases hlt : x < k
            · rw [if_pos hlt]
              exact memGet_below _ _ (fun c hc => Nat.lt_trans hlt (hp.1 c hc))
            · rw [if_neg hlt]
        · by_cases hx : x = k
          · subst hx; simp [memGet]
          · simp [memGet, hx]
      · simp only [memGet]
        by_cases hx : x = k
        · subst hx
          rw [if_pos rfl, if_neg (by omega)]
          simp
        · rw [if_neg hx]
          by_cases hlt : x < k
          · rw [if_pos hlt, if_neg (by omega)]
            simp [hx, hlt]
          · rw [if_neg hlt, ih]
            simp [hx, hlt]

/-- A byte that a write does not reach reads as before; one that it reaches reads as written. -/
theorem memGet_memWrite (m : Memory) (a x : Nat) (bs : Bytes) (h : memWf m = true) :
    memGet (memWrite m a bs) x = if a ≤ x ∧ x < a + bs.length then bs.getD (x - a) 0#8 else memGet m x := by
  induction bs generalizing m a with
  | nil => simp [memWrite]
  | cons b bs ih =>
    rw [memWrite, ih _ _ (memPut_wf m a b h), memGet_memPut m a x b h]
    by_cases hx : x = a
    · subst hx; simp
    · by_cases hc : a + 1 ≤ x ∧ x < a + 1 + bs.length
      · rw [if_pos hc, if_pos (by simp; omega)]
        obtain ⟨n, rfl⟩ : ∃ n, x = a + 1 + n := ⟨x - (a + 1), by omega⟩
        simp [show a + 1 + n - a = n + 1 by omega]
      · rw [if_neg hc, if_neg hx, if_neg (by simp; omega)]

/-! ## Tables -/

theorem tblFind_tblSet {α : Type} (t : Tbl α) (k x : Nat) (v : α) :
    tblFind (tblSet t k v) x = if x = k then some v else tblFind t x := by
  induction t with
  | nil => simp [tblSet, tblFind, eq_comm]
  | cons e t ih =>
    obtain ⟨j, w⟩ := e
    simp only [tblSet]
    split
    · simp only [tblFind]
      by_cases hx : x = k
      · simp [hx]
      · rw [if_neg (by omega)]; simp [hx]
    · split
      · subst_vars
        simp only [tblFind]
        by_cases hx : x = j
        · simp [hx]
        · rw [if_neg (by omega), if_neg hx, if_neg (by omega)]
      · simp only [tblFind, ih]
        by_cases hx : x = k
        · subst hx
          rw [if_neg (by omega)]
          simp
        · simp [hx]

theorem tblWf_iff {α : Type} (t : Tbl α) : tblWf t = true ↔ t.Pairwise (fun a b => a.1 < b.1) := by
  induction t with
  | nil => simp [tblWf]
  | cons e t ih =>
    obtain ⟨a, v⟩ := e
    cases t with
    | nil => simp [tblWf]
    | cons d t =>
      obtain ⟨b, w⟩ := d
      simp only [tblWf, Bool.and_eq_true, decide_eq_true_eq, ih, List.pairwise_cons, List.mem_cons, forall_eq_or_imp]
      constructor
      · rintro ⟨hab, hb, hp⟩
        exact ⟨⟨hab, fun x hx => Nat.lt_trans hab (hb x hx)⟩, hb, hp⟩
      · rintro ⟨⟨hab, _⟩, hb, hp⟩
        exact ⟨hab, hb, hp⟩

theorem tblSet_mem {α : Type} (t : Tbl α) (k : Nat) (v : α) (e : Nat × α) (h : e ∈ tblSet t k v) : e = (k, v) ∨ e ∈ t := by
  induction t with
  | nil => simp_all [tblSet]
  | cons d t ih =>
    obtain ⟨j, w⟩ := d
    simp only [tblSet] at h
    split at h
    · exact List.mem_cons.1 h
    · split at h
      · rcases List.mem_cons.1 h with h | h
        · exact .inl h
        · exact .inr (List.mem_cons_of_mem _ h)
      · rcases List.mem_cons.1 h with h | h
        · exact .inr (h ▸ List.mem_cons_self)
        · rcases ih h with h | h
          · exact .inl h
          · exact .inr (List.mem_cons_of_mem _ h)

theorem tblSet_wf {α : Type} (t : Tbl α) (k : Nat) (v : α) (h : tblWf t = true) : tblWf (tblSet t k v) = true := by
  rw [tblWf_iff] at h ⊢
  induction t with
  | nil => simp [tblSet]
  | cons e t ih =>
    obtain ⟨j, w⟩ := e
    rw [List.pairwise_cons] at h
    simp only [tblSet]
    split
    · refine List.pairwise_cons.2 ⟨fun x hx => ?_, List.pairwise_cons.2 h⟩
      rcases List.mem_cons.1 hx with rfl | hx
      · assumption
      · exact Nat.lt_trans (by assumption) (h.1 x hx)
    · split
      · exact List.pairwise_cons.2 ⟨fun x hx => by have := h.1 x hx; simp at this; omega, h.2⟩
      · refine List.pairwise_cons.2 ⟨fun x hx => ?_, ih h.2⟩
        rcases tblSet_mem t k v x hx with rfl | hx
        · simp; omega
        · exact h.1 x hx

theorem tblErase_wf {α : Type} (t : Tbl α) (k : Nat) (h : tblWf t = true) : tblWf (tblErase t k) = true := by
  rw [tblWf_iff] at h ⊢
  exact h.filter _

end Sys2Proof.Machine
end

