-- ==== Sys2Proof/Laws/Queues.lean ====
section
/-! SUPPORT. Laws of the queues: what taking a queue up does, what a dispatch runs, and what adding a job leaves; and what
the readiness checks of the other families say of the rails. -/

namespace Sys2Proof.Laws

open Sys2Proof Sys2Proof.Machine

/-- A queue whose next descriptor is ready is left as it is when it is looked at. -/
theorem pollOne_ready {s : State} {c q : Nat} {y : Queue} {d : Nat} (h : readyDesc s c q = some (y, d)) : pollOne s c q = (s, false) := by
  unfold readyDesc at h
  unfold pollOne
  cases hx : queueOf s c q with
  | none => rfl
  | some x =>
    simp only [hx] at h ⊢
    by_cases hm : mayDispatch s c q x = true
    · by_cases hf : cvaFree s c (slotCva x x.disp) 64 = true
      · simp only [hm, hf, Bool.not_true, Bool.false_eq_true, if_false, Bool.and_false] at h ⊢
        cases hr : readSlot s c x x.disp with
        | unreadable => simp [hr] at h
        | poison => simp [hr] at h
        | desc e =>
          simp only [hr] at h ⊢
          generalize (fenced x.kind e && decide (x.head ≠ x.disp)) = b1 at h ⊢
          generalize fenceHeld s c e = b5 at h ⊢
          generalize headerOk s c x.kind e = b2 at h ⊢
          generalize (dWaitEn e && decide (x.wait ≠ WaitSt.satisfied)) = b3 at h ⊢
          generalize opDefined x.kind e = b4 at h ⊢
          cases b1 <;> cases b5 <;> cases b2 <;> cases b3 <;> cases b4 <;> simp_all
      · simp [hm, hf] at h
    · simp [hm]

/-- Taking up a queue whose next descriptor is ready changes nothing. -/
theorem queuePoll_ready {s : State} {c q : Nat} {y : Queue} {d : Nat} (h : readyDesc s c q = some (y, d)) : queuePoll s c q = s := by
  unfold queuePoll
  cases pollFuel s c q with
  | zero => rfl
  | succ n => simp [pollLoop, pollOne_ready h]

/-- A queue that dispatches a descriptor of one of the kinds and opcodes that a command takes runs exactly that command's work, under the
generation stamped on the descriptor. -/
theorem dispatchAs_runs {s : State} {c q k : Nat} {x : Queue} {d : Nat} (h : due s c q k x d) {l : List Nat} (hl : k ∈ l)
    {is : Nat → Bool} (hi : is d = true) (f : State → Queue → Nat → State) :
    effectOn s (dispatchAs s c q l is f) = .next (ended s c q x (f (begun s c q x) x d)) := by
  obtain ⟨hp, ⟨y, hr, hk⟩, hq⟩ := h
  subst hk
  have hw : workState s c q = beginWork (queuePoll s c q) c q y d := by simp [workState, hr]
  rw [hw] at hq
  have hc : l.contains y.kind = true := by simpa using hl
  simp only [effectOn, effect, hp, if_true, dispatchAs, hr, hc, hi, Bool.and_self, hq, ended, begun, hw, underGen]

/-- A queue whose next descriptor is ready is taken up as it stands. -/
theorem workState_ready {s : State} {c q : Nat} {y : Queue} {d : Nat} (h : readyDesc s c q = some (y, d)) :
    workState s c q = beginWork s c q y d := by
  simp [workState, queuePoll_ready h, h]

/-- Without power a command that needs it answers the state it was given. -/
theorem effectOn_off {s t : State} (h : s.power.on = false) : effectOn s t = .next s := by simp [effectOn, effect, keepQueue, h]

/-- With power it answers its effect, with the queue and the oscillator as they were. -/
theorem effectOn_on {s t : State} (h : s.power.on = true) : effectOn s t = .next (keepQueue s t) := by simp [effectOn, effect, h]

/-- A device that serves the dictionary has power. -/
theorem dictUp_on {s : State} (h : dictUp s = true) : s.power.on = true := by
  simp only [dictUp, Bool.and_eq_true] at h
  exact h.1.1.1

/-- A fabric port that is open has power. -/
theorem fabOpen_on {s : State} {p : FabIn} (h : fabOpen s p = true) : s.power.on = true := by
  simp only [fabOpen, Bool.and_eq_true] at h
  exact h.1.1

/-- A port that takes an IDENT has power. -/
theorem identTime_on {s : State} (h : identTime s = true) : s.power.on = true := by
  simp only [identTime, Bool.and_eq_true] at h
  exact h.1

/-- A descriptor that is added as a job stands last among the jobs. -/
theorem addJob_jobs (s : State) (c q : Nat) (x : Queue) (d : Nat) (b : JobBody) (r : Option Nat) :
    (addJob s c q x d b r).q.jobs =
      s.q.jobs ++ [⟨c, q, x.disp, x.kind, dOp d, dTag d, stampOf s x x.disp, dScope d, dSigEn d && mordOwned s c (dSigId d), dSigId d, b, r⟩] := rfl

/-- Adding a job leaves memory, the dictionary, the caches, the tables of ranges and the mordants as they are. -/
theorem addJob_frame (s : State) (c q : Nat) (x : Queue) (d : Nat) (b : JobBody) (r : Option Nat) :
    (addJob s c q x d b r).mem = s.mem ∧ (addJob s c q x d b r).od = s.od ∧ (addJob s c q x d b r).coh = s.coh ∧
      (addJob s c q x d b r).xlat = s.xlat ∧ (addJob s c q x d b r).q.mordants = s.q.mordants ∧ (addJob s c q x d b r).q.flags = s.q.flags :=
  ⟨rfl, rfl, rfl, rfl, rfl, rfl⟩

end Sys2Proof.Laws
end

