-- ==== Sys2Proof/Laws/State.lean ====
section
/-! SUPPORT. Field by field, what the shared updates of the state leave: each lemma is true by unfolding a record update, so that no later
proof unfolds one. -/

namespace Sys2Proof.Machine

/-! ## The queue and the oscillator's count -/

@[simp] theorem keepQueue_self (s : State) : keepQueue s s = s := rfl

@[simp] theorem keepQueue_pending (s t : State) : (keepQueue s t).pending = s.pending := rfl

@[simp] theorem keepQueue_now (s t : State) : (keepQueue s t).now = s.now := rfl

@[simp] theorem keepQueue_free (s t : State) : (keepQueue s t).free = t.free := rfl

@[simp] theorem keepQueue_od (s t : State) : (keepQueue s t).od = t.od := rfl

@[simp] theorem keepQueue_blobs (s t : State) : (keepQueue s t).blobs = t.blobs := rfl

@[simp] theorem keepQueue_dict (s t : State) : (keepQueue s t).dict = t.dict := rfl

@[simp] theorem keepQueue_mem (s t : State) : (keepQueue s t).mem = t.mem := rfl

@[simp] theorem keepQueue_tier (s t : State) : (keepQueue s t).tier = t.tier := rfl

@[simp] theorem keepQueue_xlat (s t : State) : (keepQueue s t).xlat = t.xlat := rfl

@[simp] theorem keepQueue_feed (s t : State) : (keepQueue s t).feed = t.feed := rfl

@[simp] theorem keepQueue_coh (s t : State) : (keepQueue s t).coh = t.coh := rfl

@[simp] theorem keepQueue_q (s t : State) : (keepQueue s t).q = t.q := rfl

@[simp] theorem keepQueue_cart (s t : State) : (keepQueue s t).cart = t.cart := rfl

@[simp] theorem keepQueue_fab (s t : State) : (keepQueue s t).fab = t.fab := rfl

@[simp] theorem keepQueue_iso (s t : State) : (keepQueue s t).iso = t.iso := rfl

@[simp] theorem keepQueue_fw (s t : State) : (keepQueue s t).fw = t.fw := rfl

@[simp] theorem keepQueue_boot (s t : State) : (keepQueue s t).boot = t.boot := rfl

@[simp] theorem keepQueue_step (s t : State) : (keepQueue s t).step = t.step := rfl

@[simp] theorem keepQueue_power (s t : State) : (keepQueue s t).power = t.power := rfl

@[simp] theorem keepQueue_log (s t : State) : (keepQueue s t).log = t.log := rfl

@[simp] theorem keepQueue_out (s t : State) : (keepQueue s t).out = t.out := rfl

theorem effectOn_on (s t : State) (h : s.power.on = true) : effectOn s t = .next (keepQueue s t) := by simp [effectOn, effect, h]

theorem effectOn_off (s t : State) (h : s.power.on = false) : effectOn s t = .next s := by simp [effectOn, effect, h]

/-! ## odSet -/

@[simp] theorem odSet_pending (s : State) (key v : Nat) : (odSet s key v).pending = s.pending := rfl

@[simp] theorem odSet_now (s : State) (key v : Nat) : (odSet s key v).now = s.now := rfl

@[simp] theorem odSet_free (s : State) (key v : Nat) : (odSet s key v).free = s.free := rfl

@[simp] theorem odSet_od (s : State) (key v : Nat) : (odSet s key v).od = tblSet s.od key v := rfl

@[simp] theorem odSet_blobs (s : State) (key v : Nat) : (odSet s key v).blobs = s.blobs := rfl

@[simp] theorem odSet_dict (s : State) (key v : Nat) : (odSet s key v).dict = s.dict := rfl

@[simp] theorem odSet_mem (s : State) (key v : Nat) : (odSet s key v).mem = s.mem := rfl

@[simp] theorem odSet_tier (s : State) (key v : Nat) : (odSet s key v).tier = s.tier := rfl

@[simp] theorem odSet_xlat (s : State) (key v : Nat) : (odSet s key v).xlat = s.xlat := rfl

@[simp] theorem odSet_feed (s : State) (key v : Nat) : (odSet s key v).feed = s.feed := rfl

@[simp] theorem odSet_coh (s : State) (key v : Nat) : (odSet s key v).coh = s.coh := rfl

@[simp] theorem odSet_q (s : State) (key v : Nat) : (odSet s key v).q = s.q := rfl

@[simp] theorem odSet_cart (s : State) (key v : Nat) : (odSet s key v).cart = s.cart := rfl

@[simp] theorem odSet_fab (s : State) (key v : Nat) : (odSet s key v).fab = s.fab := rfl

@[simp] theorem odSet_iso (s : State) (key v : Nat) : (odSet s key v).iso = s.iso := rfl

@[simp] theorem odSet_fw (s : State) (key v : Nat) : (odSet s key v).fw = s.fw := rfl

@[simp] theorem odSet_boot (s : State) (key v : Nat) : (odSet s key v).boot = s.boot := rfl

@[simp] theorem odSet_step (s : State) (key v : Nat) : (odSet s key v).step = s.step := rfl

@[simp] theorem odSet_power (s : State) (key v : Nat) : (odSet s key v).power = s.power := rfl

@[simp] theorem odSet_log (s : State) (key v : Nat) : (odSet s key v).log = s.log := rfl

@[simp] theorem odSet_out (s : State) (key v : Nat) : (odSet s key v).out = s.out := rfl

/-! ## blobSet -/

@[simp] theorem blobSet_pending (s : State) (key : Nat) (b : Bytes) : (blobSet s key b).pending = s.pending := rfl

@[simp] theorem blobSet_now (s : State) (key : Nat) (b : Bytes) : (blobSet s key b).now = s.now := rfl

@[simp] theorem blobSet_free (s : State) (key : Nat) (b : Bytes) : (blobSet s key b).free = s.free := rfl

@[simp] theorem blobSet_od (s : State) (key : Nat) (b : Bytes) : (blobSet s key b).od = s.od := rfl

@[simp] theorem blobSet_blobs (s : State) (key : Nat) (b : Bytes) : (blobSet s key b).blobs = tblSet s.blobs key b := rfl

@[simp] theorem blobSet_dict (s : State) (key : Nat) (b : Bytes) : (blobSet s key b).dict = s.dict := rfl

@[simp] theorem blobSet_mem (s : State) (key : Nat) (b : Bytes) : (blobSet s key b).mem = s.mem := rfl

@[simp] theorem blobSet_tier (s : State) (key : Nat) (b : Bytes) : (blobSet s key b).tier = s.tier := rfl

@[simp] theorem blobSet_xlat (s : State) (key : Nat) (b : Bytes) : (blobSet s key b).xlat = s.xlat := rfl

@[simp] theorem blobSet_feed (s : State) (key : Nat) (b : Bytes) : (blobSet s key b).feed = s.feed := rfl

@[simp] theorem blobSet_coh (s : State) (key : Nat) (b : Bytes) : (blobSet s key b).coh = s.coh := rfl

@[simp] theorem blobSet_q (s : State) (key : Nat) (b : Bytes) : (blobSet s key b).q = s.q := rfl

@[simp] theorem blobSet_cart (s : State) (key : Nat) (b : Bytes) : (blobSet s key b).cart = s.cart := rfl

@[simp] theorem blobSet_fab (s : State) (key : Nat) (b : Bytes) : (blobSet s key b).fab = s.fab := rfl

@[simp] theorem blobSet_iso (s : State) (key : Nat) (b : Bytes) : (blobSet s key b).iso = s.iso := rfl

@[simp] theorem blobSet_fw (s : State) (key : Nat) (b : Bytes) : (blobSet s key b).fw = s.fw := rfl

@[simp] theorem blobSet_boot (s : State) (key : Nat) (b : Bytes) : (blobSet s key b).boot = s.boot := rfl

@[simp] theorem blobSet_step (s : State) (key : Nat) (b : Bytes) : (blobSet s key b).step = s.step := rfl

@[simp] theorem blobSet_power (s : State) (key : Nat) (b : Bytes) : (blobSet s key b).power = s.power := rfl

@[simp] theorem blobSet_log (s : State) (key : Nat) (b : Bytes) : (blobSet s key b).log = s.log := rfl

@[simp] theorem blobSet_out (s : State) (key : Nat) (b : Bytes) : (blobSet s key b).out = s.out := rfl

/-! ## logEv -/

@[simp] theorem logEv_pending (s : State) (name : String) (args : List Nat) : (logEv s name args).pending = s.pending := rfl

@[simp] theorem logEv_now (s : State) (name : String) (args : List Nat) : (logEv s name args).now = s.now := rfl

@[simp] theorem logEv_free (s : State) (name : String) (args : List Nat) : (logEv s name args).free = s.free := rfl

@[simp] theorem logEv_od (s : State) (name : String) (args : List Nat) : (logEv s name args).od = s.od := rfl

@[simp] theorem logEv_blobs (s : State) (name : String) (args : List Nat) : (logEv s name args).blobs = s.blobs := rfl

@[simp] theorem logEv_dict (s : State) (name : String) (args : List Nat) : (logEv s name args).dict = s.dict := rfl

@[simp] theorem logEv_mem (s : State) (name : String) (args : List Nat) : (logEv s name args).mem = s.mem := rfl

@[simp] theorem logEv_tier (s : State) (name : String) (args : List Nat) : (logEv s name args).tier = s.tier := rfl

@[simp] theorem logEv_xlat (s : State) (name : String) (args : List Nat) : (logEv s name args).xlat = s.xlat := rfl

@[simp] theorem logEv_feed (s : State) (name : String) (args : List Nat) : (logEv s name args).feed = s.feed := rfl

@[simp] theorem logEv_coh (s : State) (name : String) (args : List Nat) : (logEv s name args).coh = s.coh := rfl

@[simp] theorem logEv_q (s : State) (name : String) (args : List Nat) : (logEv s name args).q = s.q := rfl

@[simp] theorem logEv_cart (s : State) (name : String) (args : List Nat) : (logEv s name args).cart = s.cart := rfl

@[simp] theorem logEv_fab (s : State) (name : String) (args : List Nat) : (logEv s name args).fab = s.fab := rfl

@[simp] theorem logEv_iso (s : State) (name : String) (args : List Nat) : (logEv s name args).iso = s.iso := rfl

@[simp] theorem logEv_fw (s : State) (name : String) (args : List Nat) : (logEv s name args).fw = s.fw := rfl

@[simp] theorem logEv_boot (s : State) (name : String) (args : List Nat) : (logEv s name args).boot = s.boot := rfl

@[simp] theorem logEv_step (s : State) (name : String) (args : List Nat) : (logEv s name args).step = s.step := rfl

@[simp] theorem logEv_power (s : State) (name : String) (args : List Nat) : (logEv s name args).power = s.power := rfl

@[simp] theorem logEv_log (s : State) (name : String) (args : List Nat) : (logEv s name args).log = ⟨name, stampNow s, args⟩ :: s.log := rfl

@[simp] theorem logEv_out (s : State) (name : String) (args : List Nat) : (logEv s name args).out = s.out := rfl

/-! ## emit -/

@[simp] theorem emit_pending (s : State) (m : Msg) : (emit s m).pending = s.pending := rfl

@[simp] theorem emit_now (s : State) (m : Msg) : (emit s m).now = s.now := rfl

@[simp] theorem emit_free (s : State) (m : Msg) : (emit s m).free = s.free := rfl

@[simp] theorem emit_od (s : State) (m : Msg) : (emit s m).od = s.od := rfl

@[simp] theorem emit_blobs (s : State) (m : Msg) : (emit s m).blobs = s.blobs := rfl

@[simp] theorem emit_dict (s : State) (m : Msg) : (emit s m).dict = s.dict := rfl

@[simp] theorem emit_mem (s : State) (m : Msg) : (emit s m).mem = s.mem := rfl

@[simp] theorem emit_tier (s : State) (m : Msg) : (emit s m).tier = s.tier := rfl

@[simp] theorem emit_xlat (s : State) (m : Msg) : (emit s m).xlat = s.xlat := rfl

@[simp] theorem emit_feed (s : State) (m : Msg) : (emit s m).feed = s.feed := rfl

@[simp] theorem emit_coh (s : State) (m : Msg) : (emit s m).coh = s.coh := rfl

@[simp] theorem emit_q (s : State) (m : Msg) : (emit s m).q = s.q := rfl

@[simp] theorem emit_cart (s : State) (m : Msg) : (emit s m).cart = s.cart := rfl

@[simp] theorem emit_fab (s : State) (m : Msg) : (emit s m).fab = s.fab := rfl

@[simp] theorem emit_iso (s : State) (m : Msg) : (emit s m).iso = s.iso := rfl

@[simp] theorem emit_fw (s : State) (m : Msg) : (emit s m).fw = s.fw := rfl

@[simp] theorem emit_boot (s : State) (m : Msg) : (emit s m).boot = s.boot := rfl

@[simp] theorem emit_step (s : State) (m : Msg) : (emit s m).step = s.step := rfl

@[simp] theorem emit_power (s : State) (m : Msg) : (emit s m).power = s.power := rfl

@[simp] theorem emit_log (s : State) (m : Msg) : (emit s m).log = s.log := rfl

@[simp] theorem emit_out (s : State) (m : Msg) : (emit s m).out = s.out ++ [m] := rfl

/-! ## odBump -/

@[simp] theorem odBump_pending (s : State) (key n : Nat) : (odBump s key n).pending = s.pending := rfl

@[simp] theorem odBump_now (s : State) (key n : Nat) : (odBump s key n).now = s.now := rfl

@[simp] theorem odBump_free (s : State) (key n : Nat) : (odBump s key n).free = s.free := rfl

@[simp] theorem odBump_od (s : State) (key n : Nat) : (odBump s key n).od = tblSet s.od key ((odGet s key + n) % 2 ^ 64) := rfl

@[simp] theorem odBump_blobs (s : State) (key n : Nat) : (odBump s key n).blobs = s.blobs := rfl

@[simp] theorem odBump_dict (s : State) (key n : Nat) : (odBump s key n).dict = s.dict := rfl

@[simp] theorem odBump_mem (s : State) (key n : Nat) : (odBump s key n).mem = s.mem := rfl

@[simp] theorem odBump_tier (s : State) (key n : Nat) : (odBump s key n).tier = s.tier := rfl

@[simp] theorem odBump_xlat (s : State) (key n : Nat) : (odBump s key n).xlat = s.xlat := rfl

@[simp] theorem odBump_feed (s : State) (key n : Nat) : (odBump s key n).feed = s.feed := rfl

@[simp] theorem odBump_coh (s : State) (key n : Nat) : (odBump s key n).coh = s.coh := rfl

@[simp] theorem odBump_q (s : State) (key n : Nat) : (odBump s key n).q = s.q := rfl

@[simp] theorem odBump_cart (s : State) (key n : Nat) : (odBump s key n).cart = s.cart := rfl

@[simp] theorem odBump_fab (s : State) (key n : Nat) : (odBump s key n).fab = s.fab := rfl

@[simp] theorem odBump_iso (s : State) (key n : Nat) : (odBump s key n).iso = s.iso := rfl

@[simp] theorem odBump_fw (s : State) (key n : Nat) : (odBump s key n).fw = s.fw := rfl

@[simp] theorem odBump_boot (s : State) (key n : Nat) : (odBump s key n).boot = s.boot := rfl

@[simp] theorem odBump_step (s : State) (key n : Nat) : (odBump s key n).step = s.step := rfl

@[simp] theorem odBump_power (s : State) (key n : Nat) : (odBump s key n).power = s.power := rfl

@[simp] theorem odBump_log (s : State) (key n : Nat) : (odBump s key n).log = s.log := rfl

@[simp] theorem odBump_out (s : State) (key n : Nat) : (odBump s key n).out = s.out := rfl

/-! ## setQueue -/

@[simp] theorem setQueue_pending (s : State) (c n : Nat) (x : Queue) : (setQueue s c n x).pending = s.pending := rfl

@[simp] theorem setQueue_now (s : State) (c n : Nat) (x : Queue) : (setQueue s c n x).now = s.now := rfl

@[simp] theorem setQueue_free (s : State) (c n : Nat) (x : Queue) : (setQueue s c n x).free = s.free := rfl

@[simp] theorem setQueue_od (s : State) (c n : Nat) (x : Queue) : (setQueue s c n x).od = s.od := rfl

@[simp] theorem setQueue_blobs (s : State) (c n : Nat) (x : Queue) : (setQueue s c n x).blobs = s.blobs := rfl

@[simp] theorem setQueue_dict (s : State) (c n : Nat) (x : Queue) : (setQueue s c n x).dict = s.dict := rfl

@[simp] theorem setQueue_mem (s : State) (c n : Nat) (x : Queue) : (setQueue s c n x).mem = s.mem := rfl

@[simp] theorem setQueue_tier (s : State) (c n : Nat) (x : Queue) : (setQueue s c n x).tier = s.tier := rfl

@[simp] theorem setQueue_xlat (s : State) (c n : Nat) (x : Queue) : (setQueue s c n x).xlat = s.xlat := rfl

@[simp] theorem setQueue_feed (s : State) (c n : Nat) (x : Queue) : (setQueue s c n x).feed = s.feed := rfl

@[simp] theorem setQueue_coh (s : State) (c n : Nat) (x : Queue) : (setQueue s c n x).coh = s.coh := rfl

@[simp] theorem setQueue_q (s : State) (c n : Nat) (x : Queue) : (setQueue s c n x).q = { s.q with queues := tblSet s.q.queues (qKey c n) x } := rfl

@[simp] theorem setQueue_cart (s : State) (c n : Nat) (x : Queue) : (setQueue s c n x).cart = s.cart := rfl

@[simp] theorem setQueue_fab (s : State) (c n : Nat) (x : Queue) : (setQueue s c n x).fab = s.fab := rfl

@[simp] theorem setQueue_iso (s : State) (c n : Nat) (x : Queue) : (setQueue s c n x).iso = s.iso := rfl

@[simp] theorem setQueue_fw (s : State) (c n : Nat) (x : Queue) : (setQueue s c n x).fw = s.fw := rfl

@[simp] theorem setQueue_boot (s : State) (c n : Nat) (x : Queue) : (setQueue s c n x).boot = s.boot := rfl

@[simp] theorem setQueue_step (s : State) (c n : Nat) (x : Queue) : (setQueue s c n x).step = s.step := rfl

@[simp] theorem setQueue_power (s : State) (c n : Nat) (x : Queue) : (setQueue s c n x).power = s.power := rfl

@[simp] theorem setQueue_log (s : State) (c n : Nat) (x : Queue) : (setQueue s c n x).log = s.log := rfl

@[simp] theorem setQueue_out (s : State) (c n : Nat) (x : Queue) : (setQueue s c n x).out = s.out := rfl

/-! ## mordSet -/

@[simp] theorem mordSet_pending (s : State) (m : Nat) (r : Mordant) : (mordSet s m r).pending = s.pending := rfl

@[simp] theorem mordSet_now (s : State) (m : Nat) (r : Mordant) : (mordSet s m r).now = s.now := rfl

@[simp] theorem mordSet_free (s : State) (m : Nat) (r : Mordant) : (mordSet s m r).free = s.free := rfl

@[simp] theorem mordSet_od (s : State) (m : Nat) (r : Mordant) : (mordSet s m r).od = s.od := rfl

@[simp] theorem mordSet_blobs (s : State) (m : Nat) (r : Mordant) : (mordSet s m r).blobs = s.blobs := rfl

@[simp] theorem mordSet_dict (s : State) (m : Nat) (r : Mordant) : (mordSet s m r).dict = s.dict := rfl

@[simp] theorem mordSet_mem (s : State) (m : Nat) (r : Mordant) : (mordSet s m r).mem = s.mem := rfl

@[simp] theorem mordSet_tier (s : State) (m : Nat) (r : Mordant) : (mordSet s m r).tier = s.tier := rfl

@[simp] theorem mordSet_xlat (s : State) (m : Nat) (r : Mordant) : (mordSet s m r).xlat = s.xlat := rfl

@[simp] theorem mordSet_feed (s : State) (m : Nat) (r : Mordant) : (mordSet s m r).feed = s.feed := rfl

@[simp] theorem mordSet_coh (s : State) (m : Nat) (r : Mordant) : (mordSet s m r).coh = s.coh := rfl

@[simp] theorem mordSet_q (s : State) (m : Nat) (r : Mordant) : (mordSet s m r).q = { s.q with mordants := tblSet s.q.mordants m r } := rfl

@[simp] theorem mordSet_cart (s : State) (m : Nat) (r : Mordant) : (mordSet s m r).cart = s.cart := rfl

@[simp] theorem mordSet_fab (s : State) (m : Nat) (r : Mordant) : (mordSet s m r).fab = s.fab := rfl

@[simp] theorem mordSet_iso (s : State) (m : Nat) (r : Mordant) : (mordSet s m r).iso = s.iso := rfl

@[simp] theorem mordSet_fw (s : State) (m : Nat) (r : Mordant) : (mordSet s m r).fw = s.fw := rfl

@[simp] theorem mordSet_boot (s : State) (m : Nat) (r : Mordant) : (mordSet s m r).boot = s.boot := rfl

@[simp] theorem mordSet_step (s : State) (m : Nat) (r : Mordant) : (mordSet s m r).step = s.step := rfl

@[simp] theorem mordSet_power (s : State) (m : Nat) (r : Mordant) : (mordSet s m r).power = s.power := rfl

@[simp] theorem mordSet_log (s : State) (m : Nat) (r : Mordant) : (mordSet s m r).log = s.log := rfl

@[simp] theorem mordSet_out (s : State) (m : Nat) (r : Mordant) : (mordSet s m r).out = s.out := rfl

/-! ## setTable -/

@[simp] theorem setTable_pending (s : State) (c : Nat) (t : List RangeEntry) : (setTable s c t).pending = s.pending := rfl

@[simp] theorem setTable_now (s : State) (c : Nat) (t : List RangeEntry) : (setTable s c t).now = s.now := rfl

@[simp] theorem setTable_free (s : State) (c : Nat) (t : List RangeEntry) : (setTable s c t).free = s.free := rfl

@[simp] theorem setTable_od (s : State) (c : Nat) (t : List RangeEntry) : (setTable s c t).od = s.od := rfl

@[simp] theorem setTable_blobs (s : State) (c : Nat) (t : List RangeEntry) : (setTable s c t).blobs = s.blobs := rfl

@[simp] theorem setTable_dict (s : State) (c : Nat) (t : List RangeEntry) : (setTable s c t).dict = s.dict := rfl

@[simp] theorem setTable_mem (s : State) (c : Nat) (t : List RangeEntry) : (setTable s c t).mem = s.mem := rfl

@[simp] theorem setTable_tier (s : State) (c : Nat) (t : List RangeEntry) : (setTable s c t).tier = s.tier := rfl

@[simp] theorem setTable_xlat (s : State) (c : Nat) (t : List RangeEntry) : (setTable s c t).xlat = { s.xlat with tables := tblSet s.xlat.tables c t } := rfl

@[simp] theorem setTable_feed (s : State) (c : Nat) (t : List RangeEntry) : (setTable s c t).feed = s.feed := rfl

@[simp] theorem setTable_coh (s : State) (c : Nat) (t : List RangeEntry) : (setTable s c t).coh = s.coh := rfl

@[simp] theorem setTable_q (s : State) (c : Nat) (t : List RangeEntry) : (setTable s c t).q = s.q := rfl

@[simp] theorem setTable_cart (s : State) (c : Nat) (t : List RangeEntry) : (setTable s c t).cart = s.cart := rfl

@[simp] theorem setTable_fab (s : State) (c : Nat) (t : List RangeEntry) : (setTable s c t).fab = s.fab := rfl

@[simp] theorem setTable_iso (s : State) (c : Nat) (t : List RangeEntry) : (setTable s c t).iso = s.iso := rfl

@[simp] theorem setTable_fw (s : State) (c : Nat) (t : List RangeEntry) : (setTable s c t).fw = s.fw := rfl

@[simp] theorem setTable_boot (s : State) (c : Nat) (t : List RangeEntry) : (setTable s c t).boot = s.boot := rfl

@[simp] theorem setTable_step (s : State) (c : Nat) (t : List RangeEntry) : (setTable s c t).step = s.step := rfl

@[simp] theorem setTable_power (s : State) (c : Nat) (t : List RangeEntry) : (setTable s c t).power = s.power := rfl

@[simp] theorem setTable_log (s : State) (c : Nat) (t : List RangeEntry) : (setTable s c t).log = s.log := rfl

@[simp] theorem setTable_out (s : State) (c : Nat) (t : List RangeEntry) : (setTable s c t).out = s.out := rfl

/-! ## setEpoch -/

@[simp] theorem setEpoch_pending (s : State) (c e : Nat) : (setEpoch s c e).pending = s.pending := rfl

@[simp] theorem setEpoch_now (s : State) (c e : Nat) : (setEpoch s c e).now = s.now := rfl

@[simp] theorem setEpoch_free (s : State) (c e : Nat) : (setEpoch s c e).free = s.free := rfl

@[simp] theorem setEpoch_od (s : State) (c e : Nat) : (setEpoch s c e).od = s.od := rfl

@[simp] theorem setEpoch_blobs (s : State) (c e : Nat) : (setEpoch s c e).blobs = s.blobs := rfl

@[simp] theorem setEpoch_dict (s : State) (c e : Nat) : (setEpoch s c e).dict = s.dict := rfl

@[simp] theorem setEpoch_mem (s : State) (c e : Nat) : (setEpoch s c e).mem = s.mem := rfl

@[simp] theorem setEpoch_tier (s : State) (c e : Nat) : (setEpoch s c e).tier = s.tier := rfl

@[simp] theorem setEpoch_xlat (s : State) (c e : Nat) : (setEpoch s c e).xlat = { s.xlat with epochs := tblSet s.xlat.epochs c e } := rfl

@[simp] theorem setEpoch_feed (s : State) (c e : Nat) : (setEpoch s c e).feed = s.feed := rfl

@[simp] theorem setEpoch_coh (s : State) (c e : Nat) : (setEpoch s c e).coh = s.coh := rfl

@[simp] theorem setEpoch_q (s : State) (c e : Nat) : (setEpoch s c e).q = s.q := rfl

@[simp] theorem setEpoch_cart (s : State) (c e : Nat) : (setEpoch s c e).cart = s.cart := rfl

@[simp] theorem setEpoch_fab (s : State) (c e : Nat) : (setEpoch s c e).fab = s.fab := rfl

@[simp] theorem setEpoch_iso (s : State) (c e : Nat) : (setEpoch s c e).iso = s.iso := rfl

@[simp] theorem setEpoch_fw (s : State) (c e : Nat) : (setEpoch s c e).fw = s.fw := rfl

@[simp] theorem setEpoch_boot (s : State) (c e : Nat) : (setEpoch s c e).boot = s.boot := rfl

@[simp] theorem setEpoch_step (s : State) (c e : Nat) : (setEpoch s c e).step = s.step := rfl

@[simp] theorem setEpoch_power (s : State) (c e : Nat) : (setEpoch s c e).power = s.power := rfl

@[simp] theorem setEpoch_log (s : State) (c e : Nat) : (setEpoch s c e).log = s.log := rfl

@[simp] theorem setEpoch_out (s : State) (c e : Nat) : (setEpoch s c e).out = s.out := rfl

/-! ## setStream -/

@[simp] theorem setStream_pending (s : State) (id : Nat) (x : Stream) : (setStream s id x).pending = s.pending := rfl

@[simp] theorem setStream_now (s : State) (id : Nat) (x : Stream) : (setStream s id x).now = s.now := rfl

@[simp] theorem setStream_free (s : State) (id : Nat) (x : Stream) : (setStream s id x).free = s.free := rfl

@[simp] theorem setStream_od (s : State) (id : Nat) (x : Stream) : (setStream s id x).od = s.od := rfl

@[simp] theorem setStream_blobs (s : State) (id : Nat) (x : Stream) : (setStream s id x).blobs = s.blobs := rfl

@[simp] theorem setStream_dict (s : State) (id : Nat) (x : Stream) : (setStream s id x).dict = s.dict := rfl

@[simp] theorem setStream_mem (s : State) (id : Nat) (x : Stream) : (setStream s id x).mem = s.mem := rfl

@[simp] theorem setStream_tier (s : State) (id : Nat) (x : Stream) : (setStream s id x).tier = s.tier := rfl

@[simp] theorem setStream_xlat (s : State) (id : Nat) (x : Stream) : (setStream s id x).xlat = s.xlat := rfl

@[simp] theorem setStream_feed (s : State) (id : Nat) (x : Stream) : (setStream s id x).feed = { s.feed with streams := tblSet s.feed.streams id x } := rfl

@[simp] theorem setStream_coh (s : State) (id : Nat) (x : Stream) : (setStream s id x).coh = s.coh := rfl

@[simp] theorem setStream_q (s : State) (id : Nat) (x : Stream) : (setStream s id x).q = s.q := rfl

@[simp] theorem setStream_cart (s : State) (id : Nat) (x : Stream) : (setStream s id x).cart = s.cart := rfl

@[simp] theorem setStream_fab (s : State) (id : Nat) (x : Stream) : (setStream s id x).fab = s.fab := rfl

@[simp] theorem setStream_iso (s : State) (id : Nat) (x : Stream) : (setStream s id x).iso = s.iso := rfl

@[simp] theorem setStream_fw (s : State) (id : Nat) (x : Stream) : (setStream s id x).fw = s.fw := rfl

@[simp] theorem setStream_boot (s : State) (id : Nat) (x : Stream) : (setStream s id x).boot = s.boot := rfl

@[simp] theorem setStream_step (s : State) (id : Nat) (x : Stream) : (setStream s id x).step = s.step := rfl

@[simp] theorem setStream_power (s : State) (id : Nat) (x : Stream) : (setStream s id x).power = s.power := rfl

@[simp] theorem setStream_log (s : State) (id : Nat) (x : Stream) : (setStream s id x).log = s.log := rfl

@[simp] theorem setStream_out (s : State) (id : Nat) (x : Stream) : (setStream s id x).out = s.out := rfl

/-! ## setGroup -/

@[simp] theorem setGroup_pending (s : State) (g : Nat) (x : FaultGroup) : (setGroup s g x).pending = s.pending := rfl

@[simp] theorem setGroup_now (s : State) (g : Nat) (x : FaultGroup) : (setGroup s g x).now = s.now := rfl

@[simp] theorem setGroup_free (s : State) (g : Nat) (x : FaultGroup) : (setGroup s g x).free = s.free := rfl

@[simp] theorem setGroup_od (s : State) (g : Nat) (x : FaultGroup) : (setGroup s g x).od = s.od := rfl

@[simp] theorem setGroup_blobs (s : State) (g : Nat) (x : FaultGroup) : (setGroup s g x).blobs = s.blobs := rfl

@[simp] theorem setGroup_dict (s : State) (g : Nat) (x : FaultGroup) : (setGroup s g x).dict = s.dict := rfl

@[simp] theorem setGroup_mem (s : State) (g : Nat) (x : FaultGroup) : (setGroup s g x).mem = s.mem := rfl

@[simp] theorem setGroup_tier (s : State) (g : Nat) (x : FaultGroup) : (setGroup s g x).tier = s.tier := rfl

@[simp] theorem setGroup_xlat (s : State) (g : Nat) (x : FaultGroup) : (setGroup s g x).xlat = s.xlat := rfl

@[simp] theorem setGroup_feed (s : State) (g : Nat) (x : FaultGroup) : (setGroup s g x).feed = { s.feed with groups := tblSet s.feed.groups g x } := rfl

@[simp] theorem setGroup_coh (s : State) (g : Nat) (x : FaultGroup) : (setGroup s g x).coh = s.coh := rfl

@[simp] theorem setGroup_q (s : State) (g : Nat) (x : FaultGroup) : (setGroup s g x).q = s.q := rfl

@[simp] theorem setGroup_cart (s : State) (g : Nat) (x : FaultGroup) : (setGroup s g x).cart = s.cart := rfl

@[simp] theorem setGroup_fab (s : State) (g : Nat) (x : FaultGroup) : (setGroup s g x).fab = s.fab := rfl

@[simp] theorem setGroup_iso (s : State) (g : Nat) (x : FaultGroup) : (setGroup s g x).iso = s.iso := rfl

@[simp] theorem setGroup_fw (s : State) (g : Nat) (x : FaultGroup) : (setGroup s g x).fw = s.fw := rfl

@[simp] theorem setGroup_boot (s : State) (g : Nat) (x : FaultGroup) : (setGroup s g x).boot = s.boot := rfl

@[simp] theorem setGroup_step (s : State) (g : Nat) (x : FaultGroup) : (setGroup s g x).step = s.step := rfl

@[simp] theorem setGroup_power (s : State) (g : Nat) (x : FaultGroup) : (setGroup s g x).power = s.power := rfl

@[simp] theorem setGroup_log (s : State) (g : Nat) (x : FaultGroup) : (setGroup s g x).log = s.log := rfl

@[simp] theorem setGroup_out (s : State) (g : Nat) (x : FaultGroup) : (setGroup s g x).out = s.out := rfl

/-! ## netSend -/

@[simp] theorem netSend_pending (s : State) (m : NetMsg) : (netSend s m).pending = s.pending := rfl

@[simp] theorem netSend_now (s : State) (m : NetMsg) : (netSend s m).now = s.now := rfl

@[simp] theorem netSend_free (s : State) (m : NetMsg) : (netSend s m).free = s.free := rfl

@[simp] theorem netSend_od (s : State) (m : NetMsg) : (netSend s m).od = s.od := rfl

@[simp] theorem netSend_blobs (s : State) (m : NetMsg) : (netSend s m).blobs = s.blobs := rfl

@[simp] theorem netSend_dict (s : State) (m : NetMsg) : (netSend s m).dict = s.dict := rfl

@[simp] theorem netSend_mem (s : State) (m : NetMsg) : (netSend s m).mem = s.mem := rfl

@[simp] theorem netSend_tier (s : State) (m : NetMsg) : (netSend s m).tier = s.tier := rfl

@[simp] theorem netSend_xlat (s : State) (m : NetMsg) : (netSend s m).xlat = s.xlat := rfl

@[simp] theorem netSend_feed (s : State) (m : NetMsg) : (netSend s m).feed = s.feed := rfl

@[simp] theorem netSend_coh (s : State) (m : NetMsg) : (netSend s m).coh = { s.coh with net := s.coh.net ++ [m] } := rfl

@[simp] theorem netSend_q (s : State) (m : NetMsg) : (netSend s m).q = s.q := rfl

@[simp] theorem netSend_cart (s : State) (m : NetMsg) : (netSend s m).cart = s.cart := rfl

@[simp] theorem netSend_fab (s : State) (m : NetMsg) : (netSend s m).fab = s.fab := rfl

@[simp] theorem netSend_iso (s : State) (m : NetMsg) : (netSend s m).iso = s.iso := rfl

@[simp] theorem netSend_fw (s : State) (m : NetMsg) : (netSend s m).fw = s.fw := rfl

@[simp] theorem netSend_boot (s : State) (m : NetMsg) : (netSend s m).boot = s.boot := rfl

@[simp] theorem netSend_step (s : State) (m : NetMsg) : (netSend s m).step = s.step := rfl

@[simp] theorem netSend_power (s : State) (m : NetMsg) : (netSend s m).power = s.power := rfl

@[simp] theorem netSend_log (s : State) (m : NetMsg) : (netSend s m).log = s.log := rfl

@[simp] theorem netSend_out (s : State) (m : NetMsg) : (netSend s m).out = s.out := rfl

/-! ## netDrop -/

@[simp] theorem netDrop_pending (s : State) (m : NetMsg) : (netDrop s m).pending = s.pending := rfl

@[simp] theorem netDrop_now (s : State) (m : NetMsg) : (netDrop s m).now = s.now := rfl

@[simp] theorem netDrop_free (s : State) (m : NetMsg) : (netDrop s m).free = s.free := rfl

@[simp] theorem netDrop_od (s : State) (m : NetMsg) : (netDrop s m).od = s.od := rfl

@[simp] theorem netDrop_blobs (s : State) (m : NetMsg) : (netDrop s m).blobs = s.blobs := rfl

@[simp] theorem netDrop_dict (s : State) (m : NetMsg) : (netDrop s m).dict = s.dict := rfl

@[simp] theorem netDrop_mem (s : State) (m : NetMsg) : (netDrop s m).mem = s.mem := rfl

@[simp] theorem netDrop_tier (s : State) (m : NetMsg) : (netDrop s m).tier = s.tier := rfl

@[simp] theorem netDrop_xlat (s : State) (m : NetMsg) : (netDrop s m).xlat = s.xlat := rfl

@[simp] theorem netDrop_feed (s : State) (m : NetMsg) : (netDrop s m).feed = s.feed := rfl

@[simp] theorem netDrop_coh (s : State) (m : NetMsg) : (netDrop s m).coh = { s.coh with net := s.coh.net.erase m } := rfl

@[simp] theorem netDrop_q (s : State) (m : NetMsg) : (netDrop s m).q = s.q := rfl

@[simp] theorem netDrop_cart (s : State) (m : NetMsg) : (netDrop s m).cart = s.cart := rfl

@[simp] theorem netDrop_fab (s : State) (m : NetMsg) : (netDrop s m).fab = s.fab := rfl

@[simp] theorem netDrop_iso (s : State) (m : NetMsg) : (netDrop s m).iso = s.iso := rfl

@[simp] theorem netDrop_fw (s : State) (m : NetMsg) : (netDrop s m).fw = s.fw := rfl

@[simp] theorem netDrop_boot (s : State) (m : NetMsg) : (netDrop s m).boot = s.boot := rfl

@[simp] theorem netDrop_step (s : State) (m : NetMsg) : (netDrop s m).step = s.step := rfl

@[simp] theorem netDrop_power (s : State) (m : NetMsg) : (netDrop s m).power = s.power := rfl

@[simp] theorem netDrop_log (s : State) (m : NetMsg) : (netDrop s m).log = s.log := rfl

@[simp] theorem netDrop_out (s : State) (m : NetMsg) : (netDrop s m).out = s.out := rfl

/-! ## setCacheLine -/

@[simp] theorem setCacheLine_pending (s : State) (a l : Nat) (c : CLine) : (setCacheLine s a l c).pending = s.pending := rfl

@[simp] theorem setCacheLine_now (s : State) (a l : Nat) (c : CLine) : (setCacheLine s a l c).now = s.now := rfl

@[simp] theorem setCacheLine_free (s : State) (a l : Nat) (c : CLine) : (setCacheLine s a l c).free = s.free := rfl

@[simp] theorem setCacheLine_od (s : State) (a l : Nat) (c : CLine) : (setCacheLine s a l c).od = s.od := rfl

@[simp] theorem setCacheLine_blobs (s : State) (a l : Nat) (c : CLine) : (setCacheLine s a l c).blobs = s.blobs := rfl

@[simp] theorem setCacheLine_dict (s : State) (a l : Nat) (c : CLine) : (setCacheLine s a l c).dict = s.dict := rfl

@[simp] theorem setCacheLine_mem (s : State) (a l : Nat) (c : CLine) : (setCacheLine s a l c).mem = s.mem := rfl

@[simp] theorem setCacheLine_tier (s : State) (a l : Nat) (c : CLine) : (setCacheLine s a l c).tier = s.tier := rfl

@[simp] theorem setCacheLine_xlat (s : State) (a l : Nat) (c : CLine) : (setCacheLine s a l c).xlat = s.xlat := rfl

@[simp] theorem setCacheLine_feed (s : State) (a l : Nat) (c : CLine) : (setCacheLine s a l c).feed = s.feed := rfl

@[simp] theorem setCacheLine_coh (s : State) (a l : Nat) (c : CLine) : (setCacheLine s a l c).coh = { s.coh with caches := tblSet s.coh.caches (cacheKey a l) c } := rfl

@[simp] theorem setCacheLine_q (s : State) (a l : Nat) (c : CLine) : (setCacheLine s a l c).q = s.q := rfl

@[simp] theorem setCacheLine_cart (s : State) (a l : Nat) (c : CLine) : (setCacheLine s a l c).cart = s.cart := rfl

@[simp] theorem setCacheLine_fab (s : State) (a l : Nat) (c : CLine) : (setCacheLine s a l c).fab = s.fab := rfl

@[simp] theorem setCacheLine_iso (s : State) (a l : Nat) (c : CLine) : (setCacheLine s a l c).iso = s.iso := rfl

@[simp] theorem setCacheLine_fw (s : State) (a l : Nat) (c : CLine) : (setCacheLine s a l c).fw = s.fw := rfl

@[simp] theorem setCacheLine_boot (s : State) (a l : Nat) (c : CLine) : (setCacheLine s a l c).boot = s.boot := rfl

@[simp] theorem setCacheLine_step (s : State) (a l : Nat) (c : CLine) : (setCacheLine s a l c).step = s.step := rfl

@[simp] theorem setCacheLine_power (s : State) (a l : Nat) (c : CLine) : (setCacheLine s a l c).power = s.power := rfl

@[simp] theorem setCacheLine_log (s : State) (a l : Nat) (c : CLine) : (setCacheLine s a l c).log = s.log := rfl

@[simp] theorem setCacheLine_out (s : State) (a l : Nat) (c : CLine) : (setCacheLine s a l c).out = s.out := rfl

/-! ## dropCacheLine -/

@[simp] theorem dropCacheLine_pending (s : State) (a l : Nat) : (dropCacheLine s a l).pending = s.pending := rfl

@[simp] theorem dropCacheLine_now (s : State) (a l : Nat) : (dropCacheLine s a l).now = s.now := rfl

@[simp] theorem dropCacheLine_free (s : State) (a l : Nat) : (dropCacheLine s a l).free = s.free := rfl

@[simp] theorem dropCacheLine_od (s : State) (a l : Nat) : (dropCacheLine s a l).od = s.od := rfl

@[simp] theorem dropCacheLine_blobs (s : State) (a l : Nat) : (dropCacheLine s a l).blobs = s.blobs := rfl

@[simp] theorem dropCacheLine_dict (s : State) (a l : Nat) : (dropCacheLine s a l).dict = s.dict := rfl

@[simp] theorem dropCacheLine_mem (s : State) (a l : Nat) : (dropCacheLine s a l).mem = s.mem := rfl

@[simp] theorem dropCacheLine_tier (s : State) (a l : Nat) : (dropCacheLine s a l).tier = s.tier := rfl

@[simp] theorem dropCacheLine_xlat (s : State) (a l : Nat) : (dropCacheLine s a l).xlat = s.xlat := rfl

@[simp] theorem dropCacheLine_feed (s : State) (a l : Nat) : (dropCacheLine s a l).feed = s.feed := rfl

@[simp] theorem dropCacheLine_coh (s : State) (a l : Nat) : (dropCacheLine s a l).coh = { s.coh with caches := tblErase s.coh.caches (cacheKey a l) } := rfl

@[simp] theorem dropCacheLine_q (s : State) (a l : Nat) : (dropCacheLine s a l).q = s.q := rfl

@[simp] theorem dropCacheLine_cart (s : State) (a l : Nat) : (dropCacheLine s a l).cart = s.cart := rfl

@[simp] theorem dropCacheLine_fab (s : State) (a l : Nat) : (dropCacheLine s a l).fab = s.fab := rfl

@[simp] theorem dropCacheLine_iso (s : State) (a l : Nat) : (dropCacheLine s a l).iso = s.iso := rfl

@[simp] theorem dropCacheLine_fw (s : State) (a l : Nat) : (dropCacheLine s a l).fw = s.fw := rfl

@[simp] theorem dropCacheLine_boot (s : State) (a l : Nat) : (dropCacheLine s a l).boot = s.boot := rfl

@[simp] theorem dropCacheLine_step (s : State) (a l : Nat) : (dropCacheLine s a l).step = s.step := rfl

@[simp] theorem dropCacheLine_power (s : State) (a l : Nat) : (dropCacheLine s a l).power = s.power := rfl

@[simp] theorem dropCacheLine_log (s : State) (a l : Nat) : (dropCacheLine s a l).log = s.log := rfl

@[simp] theorem dropCacheLine_out (s : State) (a l : Nat) : (dropCacheLine s a l).out = s.out := rfl

/-! ## setBusy -/

@[simp] theorem setBusy_pending (s : State) (l : Nat) (t : Txn) : (setBusy s l t).pending = s.pending := rfl

@[simp] theorem setBusy_now (s : State) (l : Nat) (t : Txn) : (setBusy s l t).now = s.now := rfl

@[simp] theorem setBusy_free (s : State) (l : Nat) (t : Txn) : (setBusy s l t).free = s.free := rfl

@[simp] theorem setBusy_od (s : State) (l : Nat) (t : Txn) : (setBusy s l t).od = s.od := rfl

@[simp] theorem setBusy_blobs (s : State) (l : Nat) (t : Txn) : (setBusy s l t).blobs = s.blobs := rfl

@[simp] theorem setBusy_dict (s : State) (l : Nat) (t : Txn) : (setBusy s l t).dict = s.dict := rfl

@[simp] theorem setBusy_mem (s : State) (l : Nat) (t : Txn) : (setBusy s l t).mem = s.mem := rfl

@[simp] theorem setBusy_tier (s : State) (l : Nat) (t : Txn) : (setBusy s l t).tier = s.tier := rfl

@[simp] theorem setBusy_xlat (s : State) (l : Nat) (t : Txn) : (setBusy s l t).xlat = s.xlat := rfl

@[simp] theorem setBusy_feed (s : State) (l : Nat) (t : Txn) : (setBusy s l t).feed = s.feed := rfl

@[simp] theorem setBusy_coh (s : State) (l : Nat) (t : Txn) : (setBusy s l t).coh = { s.coh with busy := tblSet s.coh.busy l t } := rfl

@[simp] theorem setBusy_q (s : State) (l : Nat) (t : Txn) : (setBusy s l t).q = s.q := rfl

@[simp] theorem setBusy_cart (s : State) (l : Nat) (t : Txn) : (setBusy s l t).cart = s.cart := rfl

@[simp] theorem setBusy_fab (s : State) (l : Nat) (t : Txn) : (setBusy s l t).fab = s.fab := rfl

@[simp] theorem setBusy_iso (s : State) (l : Nat) (t : Txn) : (setBusy s l t).iso = s.iso := rfl

@[simp] theorem setBusy_fw (s : State) (l : Nat) (t : Txn) : (setBusy s l t).fw = s.fw := rfl

@[simp] theorem setBusy_boot (s : State) (l : Nat) (t : Txn) : (setBusy s l t).boot = s.boot := rfl

@[simp] theorem setBusy_step (s : State) (l : Nat) (t : Txn) : (setBusy s l t).step = s.step := rfl

@[simp] theorem setBusy_power (s : State) (l : Nat) (t : Txn) : (setBusy s l t).power = s.power := rfl

@[simp] theorem setBusy_log (s : State) (l : Nat) (t : Txn) : (setBusy s l t).log = s.log := rfl

@[simp] theorem setBusy_out (s : State) (l : Nat) (t : Txn) : (setBusy s l t).out = s.out := rfl

/-! ## clearBusy -/

@[simp] theorem clearBusy_pending (s : State) (l : Nat) : (clearBusy s l).pending = s.pending := rfl

@[simp] theorem clearBusy_now (s : State) (l : Nat) : (clearBusy s l).now = s.now := rfl

@[simp] theorem clearBusy_free (s : State) (l : Nat) : (clearBusy s l).free = s.free := rfl

@[simp] theorem clearBusy_od (s : State) (l : Nat) : (clearBusy s l).od = s.od := rfl

@[simp] theorem clearBusy_blobs (s : State) (l : Nat) : (clearBusy s l).blobs = s.blobs := rfl

@[simp] theorem clearBusy_dict (s : State) (l : Nat) : (clearBusy s l).dict = s.dict := rfl

@[simp] theorem clearBusy_mem (s : State) (l : Nat) : (clearBusy s l).mem = s.mem := rfl

@[simp] theorem clearBusy_tier (s : State) (l : Nat) : (clearBusy s l).tier = s.tier := rfl

@[simp] theorem clearBusy_xlat (s : State) (l : Nat) : (clearBusy s l).xlat = s.xlat := rfl

@[simp] theorem clearBusy_feed (s : State) (l : Nat) : (clearBusy s l).feed = s.feed := rfl

@[simp] theorem clearBusy_coh (s : State) (l : Nat) : (clearBusy s l).coh = { s.coh with busy := tblErase s.coh.busy l } := rfl

@[simp] theorem clearBusy_q (s : State) (l : Nat) : (clearBusy s l).q = s.q := rfl

@[simp] theorem clearBusy_cart (s : State) (l : Nat) : (clearBusy s l).cart = s.cart := rfl

@[simp] theorem clearBusy_fab (s : State) (l : Nat) : (clearBusy s l).fab = s.fab := rfl

@[simp] theorem clearBusy_iso (s : State) (l : Nat) : (clearBusy s l).iso = s.iso := rfl

@[simp] theorem clearBusy_fw (s : State) (l : Nat) : (clearBusy s l).fw = s.fw := rfl

@[simp] theorem clearBusy_boot (s : State) (l : Nat) : (clearBusy s l).boot = s.boot := rfl

@[simp] theorem clearBusy_step (s : State) (l : Nat) : (clearBusy s l).step = s.step := rfl

@[simp] theorem clearBusy_power (s : State) (l : Nat) : (clearBusy s l).power = s.power := rfl

@[simp] theorem clearBusy_log (s : State) (l : Nat) : (clearBusy s l).log = s.log := rfl

@[simp] theorem clearBusy_out (s : State) (l : Nat) : (clearBusy s l).out = s.out := rfl

/-! ## setCart -/

@[simp] theorem setCart_pending (s : State) (n : Nat) (x : Slot) : (setCart s n x).pending = s.pending := rfl

@[simp] theorem setCart_now (s : State) (n : Nat) (x : Slot) : (setCart s n x).now = s.now := rfl

@[simp] theorem setCart_free (s : State) (n : Nat) (x : Slot) : (setCart s n x).free = s.free := rfl

@[simp] theorem setCart_od (s : State) (n : Nat) (x : Slot) : (setCart s n x).od = s.od := rfl

@[simp] theorem setCart_blobs (s : State) (n : Nat) (x : Slot) : (setCart s n x).blobs = s.blobs := rfl

@[simp] theorem setCart_dict (s : State) (n : Nat) (x : Slot) : (setCart s n x).dict = s.dict := rfl

@[simp] theorem setCart_mem (s : State) (n : Nat) (x : Slot) : (setCart s n x).mem = s.mem := rfl

@[simp] theorem setCart_tier (s : State) (n : Nat) (x : Slot) : (setCart s n x).tier = s.tier := rfl

@[simp] theorem setCart_xlat (s : State) (n : Nat) (x : Slot) : (setCart s n x).xlat = s.xlat := rfl

@[simp] theorem setCart_feed (s : State) (n : Nat) (x : Slot) : (setCart s n x).feed = s.feed := rfl

@[simp] theorem setCart_coh (s : State) (n : Nat) (x : Slot) : (setCart s n x).coh = s.coh := rfl

@[simp] theorem setCart_q (s : State) (n : Nat) (x : Slot) : (setCart s n x).q = s.q := rfl

@[simp] theorem setCart_cart (s : State) (n : Nat) (x : Slot) : (setCart s n x).cart = { s.cart with slots := tblSet s.cart.slots n x } := rfl

@[simp] theorem setCart_fab (s : State) (n : Nat) (x : Slot) : (setCart s n x).fab = s.fab := rfl

@[simp] theorem setCart_iso (s : State) (n : Nat) (x : Slot) : (setCart s n x).iso = s.iso := rfl

@[simp] theorem setCart_fw (s : State) (n : Nat) (x : Slot) : (setCart s n x).fw = s.fw := rfl

@[simp] theorem setCart_boot (s : State) (n : Nat) (x : Slot) : (setCart s n x).boot = s.boot := rfl

@[simp] theorem setCart_step (s : State) (n : Nat) (x : Slot) : (setCart s n x).step = s.step := rfl

@[simp] theorem setCart_power (s : State) (n : Nat) (x : Slot) : (setCart s n x).power = s.power := rfl

@[simp] theorem setCart_log (s : State) (n : Nat) (x : Slot) : (setCart s n x).log = s.log := rfl

@[simp] theorem setCart_out (s : State) (n : Nat) (x : Slot) : (setCart s n x).out = s.out := rfl

/-! ## setLink -/

@[simp] theorem setLink_pending (s : State) (l : Nat) (x : LinkSt) : (setLink s l x).pending = s.pending := rfl

@[simp] theorem setLink_now (s : State) (l : Nat) (x : LinkSt) : (setLink s l x).now = s.now := rfl

@[simp] theorem setLink_free (s : State) (l : Nat) (x : LinkSt) : (setLink s l x).free = s.free := rfl

@[simp] theorem setLink_od (s : State) (l : Nat) (x : LinkSt) : (setLink s l x).od = s.od := rfl

@[simp] theorem setLink_blobs (s : State) (l : Nat) (x : LinkSt) : (setLink s l x).blobs = s.blobs := rfl

@[simp] theorem setLink_dict (s : State) (l : Nat) (x : LinkSt) : (setLink s l x).dict = s.dict := rfl

@[simp] theorem setLink_mem (s : State) (l : Nat) (x : LinkSt) : (setLink s l x).mem = s.mem := rfl

@[simp] theorem setLink_tier (s : State) (l : Nat) (x : LinkSt) : (setLink s l x).tier = s.tier := rfl

@[simp] theorem setLink_xlat (s : State) (l : Nat) (x : LinkSt) : (setLink s l x).xlat = s.xlat := rfl

@[simp] theorem setLink_feed (s : State) (l : Nat) (x : LinkSt) : (setLink s l x).feed = s.feed := rfl

@[simp] theorem setLink_coh (s : State) (l : Nat) (x : LinkSt) : (setLink s l x).coh = s.coh := rfl

@[simp] theorem setLink_q (s : State) (l : Nat) (x : LinkSt) : (setLink s l x).q = s.q := rfl

@[simp] theorem setLink_cart (s : State) (l : Nat) (x : LinkSt) : (setLink s l x).cart = s.cart := rfl

@[simp] theorem setLink_fab (s : State) (l : Nat) (x : LinkSt) : (setLink s l x).fab = { s.fab with links := tblSet s.fab.links l x } := rfl

@[simp] theorem setLink_iso (s : State) (l : Nat) (x : LinkSt) : (setLink s l x).iso = s.iso := rfl

@[simp] theorem setLink_fw (s : State) (l : Nat) (x : LinkSt) : (setLink s l x).fw = s.fw := rfl

@[simp] theorem setLink_boot (s : State) (l : Nat) (x : LinkSt) : (setLink s l x).boot = s.boot := rfl

@[simp] theorem setLink_step (s : State) (l : Nat) (x : LinkSt) : (setLink s l x).step = s.step := rfl

@[simp] theorem setLink_power (s : State) (l : Nat) (x : LinkSt) : (setLink s l x).power = s.power := rfl

@[simp] theorem setLink_log (s : State) (l : Nat) (x : LinkSt) : (setLink s l x).log = s.log := rfl

@[simp] theorem setLink_out (s : State) (l : Nat) (x : LinkSt) : (setLink s l x).out = s.out := rfl

/-! ## setWindow -/

@[simp] theorem setWindow_pending (s : State) (k : Nat) (w : Window) : (setWindow s k w).pending = s.pending := rfl

@[simp] theorem setWindow_now (s : State) (k : Nat) (w : Window) : (setWindow s k w).now = s.now := rfl

@[simp] theorem setWindow_free (s : State) (k : Nat) (w : Window) : (setWindow s k w).free = s.free := rfl

@[simp] theorem setWindow_od (s : State) (k : Nat) (w : Window) : (setWindow s k w).od = s.od := rfl

@[simp] theorem setWindow_blobs (s : State) (k : Nat) (w : Window) : (setWindow s k w).blobs = s.blobs := rfl

@[simp] theorem setWindow_dict (s : State) (k : Nat) (w : Window) : (setWindow s k w).dict = s.dict := rfl

@[simp] theorem setWindow_mem (s : State) (k : Nat) (w : Window) : (setWindow s k w).mem = s.mem := rfl

@[simp] theorem setWindow_tier (s : State) (k : Nat) (w : Window) : (setWindow s k w).tier = s.tier := rfl

@[simp] theorem setWindow_xlat (s : State) (k : Nat) (w : Window) : (setWindow s k w).xlat = s.xlat := rfl

@[simp] theorem setWindow_feed (s : State) (k : Nat) (w : Window) : (setWindow s k w).feed = s.feed := rfl

@[simp] theorem setWindow_coh (s : State) (k : Nat) (w : Window) : (setWindow s k w).coh = s.coh := rfl

@[simp] theorem setWindow_q (s : State) (k : Nat) (w : Window) : (setWindow s k w).q = { s.q with windows := tblSet s.q.windows k w } := rfl

@[simp] theorem setWindow_cart (s : State) (k : Nat) (w : Window) : (setWindow s k w).cart = s.cart := rfl

@[simp] theorem setWindow_fab (s : State) (k : Nat) (w : Window) : (setWindow s k w).fab = s.fab := rfl

@[simp] theorem setWindow_iso (s : State) (k : Nat) (w : Window) : (setWindow s k w).iso = s.iso := rfl

@[simp] theorem setWindow_fw (s : State) (k : Nat) (w : Window) : (setWindow s k w).fw = s.fw := rfl

@[simp] theorem setWindow_boot (s : State) (k : Nat) (w : Window) : (setWindow s k w).boot = s.boot := rfl

@[simp] theorem setWindow_step (s : State) (k : Nat) (w : Window) : (setWindow s k w).step = s.step := rfl

@[simp] theorem setWindow_power (s : State) (k : Nat) (w : Window) : (setWindow s k w).power = s.power := rfl

@[simp] theorem setWindow_log (s : State) (k : Nat) (w : Window) : (setWindow s k w).log = s.log := rfl

@[simp] theorem setWindow_out (s : State) (k : Nat) (w : Window) : (setWindow s k w).out = s.out := rfl

/-! ## setHw -/

@[simp] theorem setHw_pending (s : State) (k : Nat) (x : QuillCtx) : (setHw s k x).pending = s.pending := rfl

@[simp] theorem setHw_now (s : State) (k : Nat) (x : QuillCtx) : (setHw s k x).now = s.now := rfl

@[simp] theorem setHw_free (s : State) (k : Nat) (x : QuillCtx) : (setHw s k x).free = s.free := rfl

@[simp] theorem setHw_od (s : State) (k : Nat) (x : QuillCtx) : (setHw s k x).od = s.od := rfl

@[simp] theorem setHw_blobs (s : State) (k : Nat) (x : QuillCtx) : (setHw s k x).blobs = s.blobs := rfl

@[simp] theorem setHw_dict (s : State) (k : Nat) (x : QuillCtx) : (setHw s k x).dict = s.dict := rfl

@[simp] theorem setHw_mem (s : State) (k : Nat) (x : QuillCtx) : (setHw s k x).mem = s.mem := rfl

@[simp] theorem setHw_tier (s : State) (k : Nat) (x : QuillCtx) : (setHw s k x).tier = s.tier := rfl

@[simp] theorem setHw_xlat (s : State) (k : Nat) (x : QuillCtx) : (setHw s k x).xlat = s.xlat := rfl

@[simp] theorem setHw_feed (s : State) (k : Nat) (x : QuillCtx) : (setHw s k x).feed = s.feed := rfl

@[simp] theorem setHw_coh (s : State) (k : Nat) (x : QuillCtx) : (setHw s k x).coh = s.coh := rfl

@[simp] theorem setHw_q (s : State) (k : Nat) (x : QuillCtx) : (setHw s k x).q = { s.q with quills := tblSet s.q.quills k x } := rfl

@[simp] theorem setHw_cart (s : State) (k : Nat) (x : QuillCtx) : (setHw s k x).cart = s.cart := rfl

@[simp] theorem setHw_fab (s : State) (k : Nat) (x : QuillCtx) : (setHw s k x).fab = s.fab := rfl

@[simp] theorem setHw_iso (s : State) (k : Nat) (x : QuillCtx) : (setHw s k x).iso = s.iso := rfl

@[simp] theorem setHw_fw (s : State) (k : Nat) (x : QuillCtx) : (setHw s k x).fw = s.fw := rfl

@[simp] theorem setHw_boot (s : State) (k : Nat) (x : QuillCtx) : (setHw s k x).boot = s.boot := rfl

@[simp] theorem setHw_step (s : State) (k : Nat) (x : QuillCtx) : (setHw s k x).step = s.step := rfl

@[simp] theorem setHw_power (s : State) (k : Nat) (x : QuillCtx) : (setHw s k x).power = s.power := rfl

@[simp] theorem setHw_log (s : State) (k : Nat) (x : QuillCtx) : (setHw s k x).log = s.log := rfl

@[simp] theorem setHw_out (s : State) (k : Nat) (x : QuillCtx) : (setHw s k x).out = s.out := rfl

/-! ## setDictWindow -/

@[simp] theorem setDictWindow_pending (s : State) (p : Nat) (w : DictWindow) : (setDictWindow s p w).pending = s.pending := rfl

@[simp] theorem setDictWindow_now (s : State) (p : Nat) (w : DictWindow) : (setDictWindow s p w).now = s.now := rfl

@[simp] theorem setDictWindow_free (s : State) (p : Nat) (w : DictWindow) : (setDictWindow s p w).free = s.free := rfl

@[simp] theorem setDictWindow_od (s : State) (p : Nat) (w : DictWindow) : (setDictWindow s p w).od = s.od := rfl

@[simp] theorem setDictWindow_blobs (s : State) (p : Nat) (w : DictWindow) : (setDictWindow s p w).blobs = s.blobs := rfl

@[simp] theorem setDictWindow_dict (s : State) (p : Nat) (w : DictWindow) : (setDictWindow s p w).dict = { s.dict with windows := tblSet s.dict.windows p w } := rfl

@[simp] theorem setDictWindow_mem (s : State) (p : Nat) (w : DictWindow) : (setDictWindow s p w).mem = s.mem := rfl

@[simp] theorem setDictWindow_tier (s : State) (p : Nat) (w : DictWindow) : (setDictWindow s p w).tier = s.tier := rfl

@[simp] theorem setDictWindow_xlat (s : State) (p : Nat) (w : DictWindow) : (setDictWindow s p w).xlat = s.xlat := rfl

@[simp] theorem setDictWindow_feed (s : State) (p : Nat) (w : DictWindow) : (setDictWindow s p w).feed = s.feed := rfl

@[simp] theorem setDictWindow_coh (s : State) (p : Nat) (w : DictWindow) : (setDictWindow s p w).coh = s.coh := rfl

@[simp] theorem setDictWindow_q (s : State) (p : Nat) (w : DictWindow) : (setDictWindow s p w).q = s.q := rfl

@[simp] theorem setDictWindow_cart (s : State) (p : Nat) (w : DictWindow) : (setDictWindow s p w).cart = s.cart := rfl

@[simp] theorem setDictWindow_fab (s : State) (p : Nat) (w : DictWindow) : (setDictWindow s p w).fab = s.fab := rfl

@[simp] theorem setDictWindow_iso (s : State) (p : Nat) (w : DictWindow) : (setDictWindow s p w).iso = s.iso := rfl

@[simp] theorem setDictWindow_fw (s : State) (p : Nat) (w : DictWindow) : (setDictWindow s p w).fw = s.fw := rfl

@[simp] theorem setDictWindow_boot (s : State) (p : Nat) (w : DictWindow) : (setDictWindow s p w).boot = s.boot := rfl

@[simp] theorem setDictWindow_step (s : State) (p : Nat) (w : DictWindow) : (setDictWindow s p w).step = s.step := rfl

@[simp] theorem setDictWindow_power (s : State) (p : Nat) (w : DictWindow) : (setDictWindow s p w).power = s.power := rfl

@[simp] theorem setDictWindow_log (s : State) (p : Nat) (w : DictWindow) : (setDictWindow s p w).log = s.log := rfl

@[simp] theorem setDictWindow_out (s : State) (p : Nat) (w : DictWindow) : (setDictWindow s p w).out = s.out := rfl

/-! ## poisonLine -/

@[simp] theorem poisonLine_pending (s : State) (l : Nat) : (poisonLine s l).pending = s.pending := rfl

@[simp] theorem poisonLine_now (s : State) (l : Nat) : (poisonLine s l).now = s.now := rfl

@[simp] theorem poisonLine_free (s : State) (l : Nat) : (poisonLine s l).free = s.free := rfl

@[simp] theorem poisonLine_od (s : State) (l : Nat) : (poisonLine s l).od = s.od := rfl

@[simp] theorem poisonLine_blobs (s : State) (l : Nat) : (poisonLine s l).blobs = s.blobs := rfl

@[simp] theorem poisonLine_dict (s : State) (l : Nat) : (poisonLine s l).dict = s.dict := rfl

@[simp] theorem poisonLine_mem (s : State) (l : Nat) : (poisonLine s l).mem = { s.mem with poison := addOnce s.mem.poison l } := rfl

@[simp] theorem poisonLine_tier (s : State) (l : Nat) : (poisonLine s l).tier = s.tier := rfl

@[simp] theorem poisonLine_xlat (s : State) (l : Nat) : (poisonLine s l).xlat = s.xlat := rfl

@[simp] theorem poisonLine_feed (s : State) (l : Nat) : (poisonLine s l).feed = s.feed := rfl

@[simp] theorem poisonLine_coh (s : State) (l : Nat) : (poisonLine s l).coh = s.coh := rfl

@[simp] theorem poisonLine_q (s : State) (l : Nat) : (poisonLine s l).q = s.q := rfl

@[simp] theorem poisonLine_cart (s : State) (l : Nat) : (poisonLine s l).cart = s.cart := rfl

@[simp] theorem poisonLine_fab (s : State) (l : Nat) : (poisonLine s l).fab = s.fab := rfl

@[simp] theorem poisonLine_iso (s : State) (l : Nat) : (poisonLine s l).iso = s.iso := rfl

@[simp] theorem poisonLine_fw (s : State) (l : Nat) : (poisonLine s l).fw = s.fw := rfl

@[simp] theorem poisonLine_boot (s : State) (l : Nat) : (poisonLine s l).boot = s.boot := rfl

@[simp] theorem poisonLine_step (s : State) (l : Nat) : (poisonLine s l).step = s.step := rfl

@[simp] theorem poisonLine_power (s : State) (l : Nat) : (poisonLine s l).power = s.power := rfl

@[simp] theorem poisonLine_log (s : State) (l : Nat) : (poisonLine s l).log = s.log := rfl

@[simp] theorem poisonLine_out (s : State) (l : Nat) : (poisonLine s l).out = s.out := rfl

/-! ## Free values -/

@[simp] theorem draw_pending (s : State) : (draw s).2.pending = s.pending := rfl

@[simp] theorem draw_now (s : State) : (draw s).2.now = s.now := rfl

@[simp] theorem draw_free (s : State) : (draw s).2.free = s.free + 1 := rfl

@[simp] theorem draw_od (s : State) : (draw s).2.od = s.od := rfl

@[simp] theorem draw_blobs (s : State) : (draw s).2.blobs = s.blobs := rfl

@[simp] theorem draw_dict (s : State) : (draw s).2.dict = s.dict := rfl

@[simp] theorem draw_mem (s : State) : (draw s).2.mem = s.mem := rfl

@[simp] theorem draw_tier (s : State) : (draw s).2.tier = s.tier := rfl

@[simp] theorem draw_xlat (s : State) : (draw s).2.xlat = s.xlat := rfl

@[simp] theorem draw_feed (s : State) : (draw s).2.feed = s.feed := rfl

@[simp] theorem draw_coh (s : State) : (draw s).2.coh = s.coh := rfl

@[simp] theorem draw_q (s : State) : (draw s).2.q = s.q := rfl

@[simp] theorem draw_cart (s : State) : (draw s).2.cart = s.cart := rfl

@[simp] theorem draw_fab (s : State) : (draw s).2.fab = s.fab := rfl

@[simp] theorem draw_iso (s : State) : (draw s).2.iso = s.iso := rfl

@[simp] theorem draw_fw (s : State) : (draw s).2.fw = s.fw := rfl

@[simp] theorem draw_boot (s : State) : (draw s).2.boot = s.boot := rfl

@[simp] theorem draw_step (s : State) : (draw s).2.step = s.step := rfl

@[simp] theorem draw_power (s : State) : (draw s).2.power = s.power := rfl

@[simp] theorem draw_log (s : State) : (draw s).2.log = s.log := rfl

@[simp] theorem draw_out (s : State) : (draw s).2.out = s.out := rfl

/-! ## Reads after these writes -/

@[simp] theorem odGet_odSet (s : State) (k x v : Nat) : odGet (odSet s k v) x = if x = k then v else odGet s x := by
  simp only [odGet, odSet, tblFind_tblSet]
  split <;> simp

@[simp] theorem odGet_odBump (s : State) (k x n : Nat) : odGet (odBump s k n) x = if x = k then (odGet s k + n) % 2 ^ 64 else odGet s x := by
  simp only [odBump, odGet_odSet]

@[simp] theorem blobGet_blobSet (s : State) (k x : Nat) (b : Bytes) : blobGet (blobSet s k b) x = if x = k then b else blobGet s x := by
  simp only [blobGet, blobSet, tblFind_tblSet]
  split <;> simp

@[simp] theorem mordGet_mordSet (s : State) (m x : Nat) (r : Mordant) : mordGet (mordSet s m r) x = if x = m then r else mordGet s x := by
  simp only [mordGet, mordSet, tblGet, tblFind_tblSet]
  split <;> simp

theorem odGet_congr (s t : State) (h : t.od = s.od) (k : Nat) : odGet t k = odGet s k := by simp [odGet, h]

theorem blobGet_congr (s t : State) (h : t.blobs = s.blobs) (k : Nat) : blobGet t k = blobGet s k := by simp [blobGet, h]

end Sys2Proof.Machine
end

