-- ==== Sys2Proof/Tests/Slice0.lean ====
section
/-! SUPPORT. Tests of the model: terms that are not well formed and are refused as such, worked examples of the spec, and for every
statement with hypotheses a named witness that meets them. -/

namespace Sys2Proof.Tests

set_option maxRecDepth 100000
set_option Elab.async false

open Sys2Proof Sys2Proof.Machine

/-! ## Commands that are not well formed -/

/-- A station on the link. -/
def st0 : Station := ⟨0xFE800000000000000000000000000007, 255, 48816, true⟩

/-- A request header without items. -/
def req0 : VReq := ⟨1, 0, 5, 0, 0, []⟩

theorem test_wf_request : (Instr.read st0 { req0 with body := List.replicate 1425 0 }).wf = false := by decide +kernel

theorem test_wf_request_full : (Instr.write st0 { req0 with body := List.replicate 1424 0 }).wf = true := by decide +kernel

/-- A store of eight bytes to a window's page. -/
def access8 : CwAccess := ⟨0, false, 1, 0x1000, 7, 3⟩

theorem test_wf_register_write : (Instr.registerWrite access8 [1]).wf = false := by decide
theorem test_wf_doorbell : (Instr.doorbell { access8 with lenm1 := 3 } 0).wf = false := by decide
theorem test_wf_flag_clear : (Instr.flagClear access8 0).wf = false := by decide

theorem test_wf_engine_nib : (⟨.nib, 24, 0, 0⟩ : Eng).wf = false := by decide
theorem test_wf_engine_quill : (⟨.quill, 0, 2, 0⟩ : Eng).wf = false := by decide
theorem test_wf_engine_feed : (⟨.feed, 0, 4, 0⟩ : Eng).wf = false := by decide
theorem test_wf_engine_inkwell : (⟨.inkwell, 0, 1, 0⟩ : Eng).wf = false := by decide
theorem test_wf_engine_scribe : (⟨.scribe, 30, 0, 1⟩ : Eng).wf = false ∧ (⟨.scribe, 23, 0, 1⟩ : Eng).wf = true := by decide
theorem test_wf_engine_mgmt : (⟨.mgmt, 37, 0, 0⟩ : Eng).wf = false ∧ (⟨.mgmt, 38, 0, 0⟩ : Eng).wf = true := by decide

theorem test_wf_load : (Instr.load ⟨.nib, 30, 0, 0⟩ 1 0 127 true).wf = false := by decide
theorem test_wf_store : (Instr.store ⟨.nib, 0, 0, 0⟩ 1 0 [] true).wf = false := by decide
theorem test_wf_read_nc : (Instr.rdNc ⟨336, 1, .sa 127, 0, none⟩ 1).wf = false := by decide
theorem test_wf_write_nc : (Instr.wrNc ⟨336, 1, .sa 0, 0, none⟩ (List.replicate 129 0) 0).wf = false := by decide
theorem test_wf_writeback : (Instr.wb 0 0 false (List.replicate 129 0) true).wf = false := by decide
theorem test_wf_forward_ack : (Instr.fwdAck 0 0 true (List.replicate 129 0)).wf = false := by decide
theorem test_wf_recall_ack : (Instr.recallAck 0 0 (some [0])).wf = false := by decide
theorem test_wf_t3_data : (Instr.t3Data 0 0 false (List.replicate 129 0)).wf = false := by decide
theorem test_wf_release : (Instr.releaseAtScope ⟨.mgmt, 0, 0, 0⟩ .die).wf = false := by decide

/-- What a certificate says, with a serial of 33 bytes. -/
def longSerial : CertInfo := ⟨true, 0, true, 1, 0, 0, List.replicate 33 0⟩

theorem test_wf_identify : (Instr.identify 0 longSerial).wf = false := by decide
theorem test_wf_cart_challenge : (Instr.cartChallenge 0 0 [0]).wf = false := by decide
theorem test_wf_membership : (Instr.cartMread 0 (some ⟨[], 32, 0, 0, 0, 0⟩)).wf = false ∧ (Instr.cartMread 0 (some ⟨[], 31, 0, 10, 0, 0⟩)).wf = false := by
  decide
theorem test_wf_reads : (Instr.reads 0 [3, 3]).wf = false := by decide
theorem test_wf_readu : (Instr.readu 0 0 [0] 0).wf = false := by decide
theorem test_wf_scrub : (Instr.scrub 0 0 [1, 1] false).wf = false := by decide
theorem test_wf_flit : (Instr.flit 0 true [0]).wf = false := by decide
theorem test_wf_packet : (Instr.prd ⟨0, false, 0, List.replicate 129 0⟩).wf = false := by decide
theorem test_wf_spdm : (Instr.getVersion (.window 0) (List.replicate 1025 0)).wf = false := by decide +kernel
theorem test_wf_image_chunk : (Instr.imageChunk (.window 0) (List.replicate 1025 0)).wf = false := by decide +kernel
theorem test_wf_finding : (Instr.stage3 [.laneSpared 0 8]).wf = false ∧ (Instr.stage3 [.portLanes 0 9]).wf = false := by decide
theorem test_wf_loop : (Instr.fallbackLoop 0 [0]).wf = false := by decide

/-- A region that answers POISON. -/
def noRegion : RegionIo := ⟨none⟩

theorem test_wf_commit : (Instr.stepCommit 1 0 ⟨⟨some [0]⟩, noRegion, noRegion, noRegion, noRegion, [], []⟩).wf = false ∧
    (Instr.stepCommit 1 0 ⟨noRegion, noRegion, noRegion, noRegion, noRegion, [(0, some [0])], []⟩).wf = false := by decide

/-! ## States to test on -/

/-- Numbers of the dictionary put into a state. -/
def withNums (s : State) (l : List (Nat × Nat)) : State := l.foldl (fun s e => odSet s e.1 e.2) s

/-- A device that is READY: powered, bring-up ended on management die S0, admission open. -/
def ready : State :=
  withNums { State.reset with
    power.on := true, boot.next := some 7, boot.activeDie := some 0, tier.admitting := true, now := 1000 } [(odKey 0xB000 1, 1)]

/-- It has context 1 ACTIVE, with 16 mordants from 32, a host mask with Urzen port 0, and both its ports AGREED. -/
def live : State :=
  withNums ready [(odCtx 0x9100 1, 1), (odCtx 0x5010 1, 32), (odCtx 0x5020 1, 16), (odCtx 0x7200 1, 1), (odKey 0x7101 0, 2), (odKey 0x6101 0, 2),
    (odKey 0x7000 1, 1), (odKey 0x6000 2, 1)]

theorem test_reset_is_dark : dictUp State.reset = false ∧ admitting State.reset = false := by decide
theorem test_live_serves : dictUp live = true ∧ admitting live = true ∧ ctxActive live 1 = true := by decide +kernel

/-! ## Worked examples of the spec -/

/-- R56: OD 0x2100.01 takes 1 to 4,096; 5,000 is stored as 4,096 with CLAMPED. -/
theorem test_clamped : judge live false ⟨0x2100, 1, 2, natLe 2 5000, .ok, .none⟩ = .stored (.num 4096) .clamped := by decide +kernel

/-- R646: OD 0xA210.01 takes 0 to 63 and 255; 100 lies in the gap. -/
theorem test_gap : judge live false ⟨0xA210, 1, 1, [100], .ok, .none⟩ = .refused .range .gap := by decide +kernel

/-- R52, R647: OD 0x3000.01 is RW-D: a WRITE item is refused, a staged write is judged. -/
theorem test_draft_only : judge live false ⟨0x3000, 1, 3, natLe 4 384, .ok, .none⟩ = .refused .range .draftOnly ∧
    judge live true ⟨0x3000, 1, 3, natLe 4 384, .ok, .none⟩ = .stored (.num 384) .ok := by decide +kernel

/-- R49: the entry of context 0 of a per-context table refuses writes. -/
theorem test_context_zero : judge live false ⟨0x2220, 0, 1, [1], .ok, .none⟩ = .refused .range .access := by decide +kernel

/-- R20: TORN stands before POISON, and POISON before RANGE. -/
theorem test_precedence : statusOf [.range, .poison, .ok] = .poison ∧ statusOf [.poison, .torn] = .torn := by decide

/-- CRC-32C of the nine digits has the check value of its standard (R399). -/
theorem test_crc32c : crc32c [0x31, 0x32, 0x33, 0x34, 0x35, 0x36, 0x37, 0x38, 0x39] = 0xE3069283 := by decide +kernel

/-- R307: SMIN takes the lesser in two's complement, UMIN the lesser without sign. -/
theorem test_atomic_min : atomicNew 0x08 4 0xFFFFFFFF 1 0 = 0xFFFFFFFF ∧ atomicNew 0x06 4 0xFFFFFFFF 1 0 = 1 := by decide

/-- R65: an item of five bytes takes sixteen. -/
theorem test_item_padding : (vItemBytes ⟨0x1000, 1, 8, [1, 2, 3, 4, 5], .ok, .none⟩).length = 16 := by decide

/-! ## Witnesses: the block and the dictionary -/

theorem witness_EmptyQueueTicks : State.reset.pending = [] := rfl

theorem witness_QueueDrainsInOrder : 2 ≤ ({ live with pending := [.verify, .erase] } : State).pending.length := by decide

theorem witness_UnpoweredDeviceSleeps : let s := { State.reset with pending := [.verify] }
    asleep s s ∧ step s = .next State.reset := by
  refine ⟨⟨rfl, ?_, rfl⟩, rfl⟩
  decide

/-- The row of an entry. -/
def rowAt (k : Nat) : OdRow := (odRow k).getD ⟨0, 0, 0, 0, .u8, .ro, false, false, 0, [], .ivs []⟩

theorem witness_NumbersAreClamped :
    ((rowAt (odKey 0x2100 1)).check = .ivs [(1, 4096)] ∧ (rowAt (odKey 0x2100 1)).ty ≠ .bool ∧ 1 ≤ 4096) ∧
    ((rowAt (odKey 0x1010 1)).check = .ivs [(0, 1)] ∧ (rowAt (odKey 0x1010 1)).ty = .bool) ∧
    (rowAt (odKey 0x2100 3)).check = .codes [0, 1] ∧ (rowAt (odKey 0x7200 1)).check = .mask 0x7FF := by decide +kernel

/-- An item. -/
def item (i s t : Nat) (v : Bytes) : VItem := ⟨i, s, t, v, .ok, .none⟩

theorem witness_GapsAreRefused :
    let r := rowAt (odKey 0xA210 1)
    let l := [(0, 63), (255, 255)]
    (r.check = .ivs l ∧ r.ty ≠ .bool ∧ l.head? = some (0, 63) ∧ l.getLast? = some (255, 255) ∧ (0, 63).1 ≤ (255, 255).2) ∧
    (∀ n ∈ [0, 63, 255], ∃ i ∈ l, i.1 ≤ n ∧ n ≤ i.2) ∧ (∀ n ∈ [64, 254, 256], ∀ i ∈ l, n < i.1 ∨ i.2 < n) ∧
    (∃ r : OdRow, r.check = .ivs [(1, 4096)] ∧ (∀ i ∈ [(1, 4096)], 0 < i.1) ∧ 0 < 1) ∧
    (servedRow live (itemKey (item 0xA210 1 1 [64])) = some r ∧ ctxZero r (odKey 0xA210 1) = false ∧ r.acc ≠ .ro ∧ r.acc ≠ .rwd ∧ 1 = tyCode r.ty ∧ r.ty ≠ .blob ∧
      r.ty ≠ .str ∧ ([64] : Bytes).length = tySize r.ty ∧ leNat [64] = 64) := by
  refine ⟨by decide +kernel, by decide, by decide, ⟨{ rowAt 0 with check := .ivs [(1, 4096)] }, rfl, by decide, by decide⟩, by decide +kernel⟩

theorem witness_BlobLengthsAreJudged :
    (rowAt (odKey 0xA200 3)).ty = .blob ∧ maxLen (rowAt (odKey 0xA200 3)) < (List.replicate 1025 (0 : Byte)).length ∧
    (rowAt (odKey 0xA200 3)).check = .upTo 1024 ∧
    (rowAt (odKey 0x9200 1)).check = .exact 512 true ∧ ([] : Bytes).length ≤ maxLen (rowAt (odKey 0x9200 1)) ∧
    (rowAt (odKey 0x8200 1)).check = .records 32 1024 ∧ (rowAt (odKey 0x8200 1)).ty = .blob ∧
    ({ rowAt (odKey 0x9200 1) with check := .exact 512 false } : OdRow).ty = .blob ∧
    ((rowAt (odKey 0x1000 2)).ty = .str ∧ (rowAt (odKey 0x1000 2)).check = .upTo (maxLen (rowAt (odKey 0x1000 2))) ∧ utf8Lengths 1 [0x41] ≠ none ∧
      1 ≤ maxLen (rowAt (odKey 0x1000 2))) ∧
    (recordMask (rowAt (odKey 0x9200 1)) = some (32, 0x1F01FF + (2 ^ 128 - 1) * 2 ^ 64) ∧ (List.replicate 512 (0xFF : Byte)).length % 32 = 0 ∧
      recordMask (rowAt (odKey 0xA200 3)) = none) := by decide +kernel

theorem witness_WritesAreJudgedInOrder :
    servedRow live (itemKey (item 0x1FFF 1 1 [])) = none ∧
    (∃ r, servedRow live (odKey 0x2101 1) = some r ∧ r.acc = .ro) ∧
    (∃ r, servedRow live (odKey 0x2220 0) = some r ∧ ctxZero r (odKey 0x2220 0) = true) ∧
    (∃ r, servedRow live (odKey 0x3000 1) = some r ∧ ctxZero r (odKey 0x3000 1) = false ∧ r.acc = .rwd) ∧
    (∃ r, servedRow live (odKey 0x2100 1) = some r ∧ ctxZero r (odKey 0x2100 1) = false ∧ r.acc ≠ .ro ∧ (r.acc = .rwd → false = true) ∧
      (item 0x2100 1 1 []).ty ≠ tyCode r.ty ∧ (item 0x2100 1 2 []).ty = tyCode r.ty ∧ r.ty ≠ .blob) ∧
    (∃ r, servedRow live (odKey 0xA200 3) = some r ∧ ctxZero r (odKey 0xA200 3) = false ∧ r.acc ≠ .ro ∧ r.acc ≠ .rwd ∧ 9 = tyCode r.ty ∧ r.ty = .blob) ∧
    (∃ r, servedRow live (odKey 0x1000 2) = some r ∧ r.ty = .str) :=
  ⟨by decide +kernel, ⟨rowAt (odKey 0x2101 1), by decide +kernel⟩, ⟨rowAt (odKey 0x2220 0), by decide +kernel⟩,
    ⟨rowAt (odKey 0x3000 1), by decide +kernel⟩, ⟨rowAt (odKey 0x2100 1), by decide +kernel⟩, ⟨rowAt (odKey 0xA200 3), by decide +kernel⟩,
    ⟨rowAt (odKey 0x1000 2), by decide +kernel⟩⟩

/-- An empty draft. -/
def draft0 : Draft := ⟨9, 1, .station st0.addr, [], 0⟩

theorem witness_RefusedWriteChangesNothing :
    judge live false (item 0x1FFF 1 1 []) = .refused .range .noEntry ∧ judge live true (item 0x1FFF 1 1 []) = .refused .range .noEntry ∧
    (∀ e ∈ [(8, Status.ok), (5000, Status.clamped)], let i := item 0x2100 1 2 (natLe 2 e.1)
     judge live false i = .stored (.num (min e.1 4096)) e.2 ∧ judge live true i = .stored (.num (min e.1 4096)) e.2 ∧
       itemKey i ≠ odKey 0xA200 3 ∧ asksRestore [(itemKey i, .num (min e.1 4096))] = false) ∧ draft0.staged.length < 256 := by
  decide +kernel

theorem witness_VervoItemsRoundTrip : ∀ i ∈ [item 0xFFFF 0xFF 0xFF [1, 2, 3], item 0 0 0 []],
    i.idx < 2 ^ 16 ∧ i.sub < 2 ^ 8 ∧ i.ty < 2 ^ 8 ∧ i.val.length < 2 ^ 16 ∧ i.st = .ok ∧ i.rsn = .none := by decide

/-- A device with one draft, of station 0, that stages one number. -/
def drafted : State := { live with dict.drafts := [⟨9, 1, .station st0.addr, [(odKey 0x2200 3, .num 4)], 0⟩] }

/-- A request on that draft. -/
def req9 : VReq := { req0 with draft := 9 }

theorem witness_StationRequestsAreAnswered :
    (freshRequest live st0 req0 ∧ idleDict live) ∧
    (∀ op ∈ [1, 2, 3, 5, 6, 7, 8, 0x20], opItems ⟨.station st0.addr, op, req0, live.now⟩ = some [] ∧
      opItems ⟨.station st0.addr, op, { req0 with count := 1 }, live.now⟩ = none) ∧
    live.dict.drafts.length < 8 ∧
    (let s : State := { live with dict.drafts := List.replicate 8 draft0 }
     freshRequest s st0 req0 ∧ idleDict s ∧ 8 ≤ s.dict.drafts.length) ∧
    (freshRequest drafted st0 req9 ∧ idleDict drafted) ∧
    (∀ op ∈ [4, 5, 7, 8], let o : DictOp := ⟨.station st0.addr, op, req9, drafted.now⟩
     opItems o = some [] ∧ (draftOf { counted drafted st0.addr with dict.waiting := [] } o).isSome = true) ∧
    (∀ op ∈ [4, 5, 6, 7, 8], draftOf { counted live st0.addr with dict.waiting := [] } ⟨.station st0.addr, op, req9, live.now⟩ = none) := by
  unfold freshRequest idleDict
  decide +kernel

/-- A request to write 8 to OD 0x2100.01. -/
def reqWrite : VReq := { req0 with count := 1, body := vItemBytes (item 0x2100 1 2 (natLe 2 8)) }

/-- The draft stages mordants for context 2 that are context 1's. -/
def clashing : State :=
  { live with dict.drafts := [⟨9, 1, .station st0.addr, [(odCtx 0x5010 2, .num 32), (odCtx 0x5020 2, .num 16)], 0⟩] }

theorem witness_WriteAndInkAreTaken :
    (freshRequest live st0 req0 ∧ idleDict live) ∧ opItems ⟨.station st0.addr, 2, req0, 0⟩ = some [] ∧
    (freshRequest live st0 reqWrite ∧ opItems ⟨.station st0.addr, 2, reqWrite, live.now⟩ = some [item 0x2100 1 2 (natLe 2 8)] ∧
      judge { counted live st0.addr with dict.waiting := [] } false (item 0x2100 1 2 (natLe 2 8)) = .stored (.num 8) .ok ∧
      itemKey (item 0x2100 1 2 (natLe 2 8)) ≠ odKey 0xA200 3) ∧
    ∀ e ∈ [(drafted, true), (clashing, false)],
      (freshRequest e.1 st0 req9 ∧ idleDict e.1) ∧
      (let o : DictOp := ⟨.station st0.addr, 6, req9, e.1.now⟩
       let w : State := { counted e.1 st0.addr with dict.waiting := [] }
       opItems o = some [] ∧ (draftOf w o).isSome = true ∧
         ∀ d ∈ draftOf w o, decide (crossFields (setDraft w d) d.staged = []) = e.2) := by
  unfold freshRequest idleDict
  decide +kernel

theorem witness_ForeignDatagramsAreDropped :
    linkLocal (0xFEC00000000000000000000000000001 : Ip6) = false ∧ (254 : BitVec 8) ≠ 255 ∧ (48817 : BitVec 16) ≠ 48816 ∧
    ({ st0 with sumOk := false } : Station).sumOk = false := by decide +kernel

/-- The draft is being inked. -/
def inking : State := { drafted with dict.ink := some ⟨.station st0.addr, 6, req9, 0⟩ }

theorem witness_InksEnd :
    (∀ e ∈ [(inking, true), ({ clashing with dict.ink := some ⟨.station st0.addr, 6, req9, 0⟩ }, false)],
      e.1.power.on = true ∧ e.1.dict.ink = some ⟨.station st0.addr, 6, req9, 0⟩ ∧ e.1.dict.inkDone = false ∧ e.1.dict.waiting = [] ∧
      (draftOf e.1 ⟨.station st0.addr, 6, req9, 0⟩).isSome = true ∧
      ∀ d ∈ draftOf e.1 ⟨.station st0.addr, 6, req9, 0⟩, decide (crossFields e.1 d.staged = []) = e.2) ∧
    (∀ o ∈ inking.dict.ink, o.req.draft ≠ 8) := by decide +kernel

/-- A device with a number that is not saved, and a notification that is not acknowledged. -/
def noted : State := { live with dict.unsaved := [odKey 0x2200 3], dict.notifies := [⟨4, [1], 3⟩] }

theorem witness_DictionaryHousekeeping :
    noted.power.on = true ∧ odKey (0x2200 : BitVec 16).toNat (3 : BitVec 8).toNat ∈ noted.dict.unsaved ∧ dictUp noted = true ∧
    (entryBytes noted (odKey (0x2200 : BitVec 16).toNat (3 : BitVec 8).toNat)).length < 2 ^ 16 ∧
    (noted.dict.ink = none ∧ noted.dict.waiting = []) ∧
    noted.dict.notifies.find? (fun n => decide (n.seq = (4 : BitVec 32).toNat)) = some ⟨4, [1], 3⟩ ∧ datagramOk noted st0 = true ∧
    linkLocal st0.addr = true := by decide +kernel

theorem witness_WindowGo :
    live.power.on = true ∧ dictUp live = true ∧ urzenState live (0 : Fin 8).val = 2 ∧ odGet live (odKey 0x7000 1) = 1 ∧
    bitOf (0x100000 : BitVec 32).toNat 0 = false ∧ bitOf (0x100001 : BitVec 32).toNat 0 = true ∧
    (windowOfPort (setDictWindow live 0 { idleWindow with busy := true }) 0).busy = true ∧ (windowOfPort live 0).busy = false ∧
    (field (0x100001 : BitVec 32).toNat 16 11 = 16 ∧ field (0x5A00001 : BitVec 32).toNat 16 11 = 1440) ∧
    (field (0xF0001 : BitVec 32).toNat 16 11 = 15 ∧ field (0x5A10001 : BitVec 32).toNat 16 11 = 1441) ∧
    (live.dict.ink = none ∧ live.dict.waiting = []) := by decide +kernel

/-- An access of the host's management to the dictionary window. -/
def accessWin : CwAccess := ⟨0, true, 0, 0x100, 0, 3⟩

/-! ## Descriptors that are dispatched -/

/-- Queue 0 of context 1: sixteen slots, one descriptor rung and not yet dispatched. -/
def ringQueue (kind : Nat) : Queue :=
  ⟨kind, true, 4, 0x100000, 0x101000, 0, 1, 0, [], .unasked, [(1, 0)], 0, none, none, none⟩

/-- The ranges of context 1: its rings in two pinned T1 pages, 64 more pinned pages from CVA 0x200000, 4 that are not pinned, 3 in T2, 3 of the
host and 3 of node 5. -/
def ranges0 : List RangeEntry := [⟨0x100, 2, .device, true, true, true, true, false, 2 ^ 39, 0⟩,
  ⟨0x200, 64, .device, true, true, true, true, false, 2 ^ 39 + 2, 0⟩, ⟨0x300, 4, .device, true, true, true, false, false, 2 ^ 39 + 66, 0⟩,
  ⟨0x400, 3, .device, true, true, true, false, false, 0x100, 0⟩, ⟨0x500, 3, .host, true, true, true, false, false, 0x9000, 0⟩,
  ⟨0x600, 3, .peer, true, true, true, false, false, 5 * 2 ^ 40, 0⟩]

/-- An import window of context 1 over a page of node 5, with every right. -/
def import0 : Bytes := natLe 48 (2 * 2 ^ 12 + 7 * 2 ^ 14 + 2 ^ 32 + 5 * 2 ^ 44 + 5 * 2 ^ 52 * 2 ^ 96 + 3 * 2 ^ 160)

/-- A host window of port 0 over the host pages. -/
def hostWin0 : Bytes := natLe 32 (0x9000000 + 3 * 2 ^ 64 + 2 ^ 104 + 7 * 2 ^ 120 + 0x500000 * 2 ^ 128)

/-- Context 1 with its ranges, its ring and its windows; fabric port 0 was AGREED when the device became ready. -/
def withRing (kind d : Nat) : State :=
  { live with
    blobs := [(odCtx 0x6300 0, import0), (odCtx 0x7400 0, hostWin0)],
    xlat.tables := [(1, ranges0)],
    tier.t1 := [⟨2 ^ 39, 70, 1⟩], tier.t2 := [⟨0x100, 3, 1⟩],
    fab.readyPorts := [0],
    q.queues := [(16, ringQueue kind)],
    mem.mem := memWrite [] t1Base (natLe 64 d) }

/-- Bytes put at a CVA of the data pages. -/
def putData (s : State) (cva : Nat) (b : Bytes) : State := { s with mem.mem := memWrite s.mem.mem (t1Base + (cva - 0x1FE000)) b }

/-- The state in which the work of the descriptor at CVA 0x100000 begins, its slot having been asked for at Inkwell `h`. -/
def begunAs (s : State) (h : Nat) : State := odBump (countReq (touchRange s 1 0x100000 64) (t1Base / 128) 1 firmwareAgent) (odKey 0x5002 h) 1

/-- The queue is ready to dispatch `d`, which neither waits nor signals; nothing has changed since its doorbell. -/
def ready0 (s : State) (kind d : Nat) : Bool :=
  s.power.on && decide (readyDesc s 1 0 = some (ringQueue kind, d)) && !dWaitEn d && !dSigEn d && decide (saParts s 1 0x100000 64 = [(t1Base, 64)]) &&
    decide (s.dict.before = []) && decide (s.coh.counts = []) && decide (s.coh.paced = []) &&
    decide (queueOf s 1 0 = some (ringQueue kind))

/-- Queue 0 of context 1 dispatches `d`, and its work begins in a state that has a property. -/
def runs0 (s : State) (kind d : Nat) (P : State → Prop) : Prop := due s 1 0 kind (ringQueue kind) d ∧ P (begun s 1 0 (ringQueue kind))

theorem witness_ContextWindowAccesses :
    let w := { accessWin with addr := 0x69F }
    let e := { access8 with addr := 0x10BC, lenm1 := 3 }
    let u := withRing 1 1
    live.power.on = true ∧
    (∀ a ∈ [w, { accessWin with addr := 0, lenm1 := 3 }], cwAdmitted live a = true ∧ cwSized a false = true ∧ cwPage a = 0) ∧
    (cwAdmitted live e = true ∧ cwSized e false = true ∧ cwPage e ≠ 0) ∧ cwSized { e with lenm1 := 7 } false = false ∧
    (cwAdmitted live w = true ∧ cwSized w true = true ∧ cwPage w = 0 ∧ ([5] : Bytes).length = cwLen w ∧ 0x100 ≤ cwOff w ∧ cwOff w + cwLen w ≤ 0x6A0) ∧
    (let b := { accessWin with addr := 0, lenm1 := 3 }
     cwAdmitted live b = true ∧ cwSized b true = true ∧ cwPage b = 0 ∧ (natLe 4 1).length = cwLen b ∧ cwOff b = 0 ∧ cwLen b = 4 ∧ dictUp live = true) ∧
    (cwAdmitted u access8 = true ∧ cwPage access8 = 1 ∧ cwOff access8 = 0 ∧ cwLen access8 = 8 ∧ queueOf u 1 0 = some (ringQueue 1) ∧
      ∀ tail ∈ [2, 16], (tail + 2 ^ 32 - (ringQueue 1).tail) % 2 ^ 32 < 2 ^ 31 ∧ (ringQueue 1).tail ≠ tail ∧
        (tail + 2 ^ 32 - (ringQueue 1).head) % 2 ^ 32 ≤ 2 ^ (ringQueue 1).log2 ∧ (ringQueue 1).tail < 2 ^ 32 ∧
        field (BitVec.ofNat 64 (tail * 2 ^ 32)).toNat 32 32 = tail) ∧
    (cwAdmitted live e = true ∧ cwPage e ≠ 0 ∧ 0x80 ≤ cwOff e ∧ cwOff e < 0xC0 ∧ cwOff e % 4 = 0 ∧ cwLen e = 4 ∧
      (flagGet live (cwPage e) 15).count = (0 : BitVec 32).toNat ∧ (flagGet live (cwPage e) 15).count ≠ (1 : BitVec 32).toNat) ∧
    (let v : State := { u with fab.hostWrites := [(0, 1, 5)] }
     hostWaits u 0 1 = [] ∧ hostWaits live 0 (cwPage e) = [] ∧ cwAdmitted v access8 = true ∧ cwAdmitted v e = true ∧ cwPage e = 1 ∧ hostWaits v 0 1 ≠ []) ∧
    cwAdmitted live { access8 with port := 1 } = false := by decide +kernel

theorem homeOf_lt (s : State) (l : Nat) : homeOf s l < 24 := by
  have := (Config.homeHash s.coh.hashKey l).isLt
  unfold homeOf
  omega

/-- Where no line is watched, asking for a slot's line leaves the queues and the generations as they are. -/
theorem begunAs_frame {s : State} (hc : s.coh.counts = []) (hp : s.coh.paced = []) (h : Nat) :
    (begunAs s h).dict.before = s.dict.before ∧ (begunAs s h).q = s.q := by
  simp [begunAs, countReq, touchRange, touchCva, hc, hp, odBump, odSet]

/-- A descriptor that is ready begins its work, whichever Inkwell is the home of its slot. -/
theorem begun_at {s : State} {kind d : Nat} {P : State → Prop} (hb : ready0 s kind d = true) (hP : ∀ h : Fin 24, P (begunAs s h)) :
    runs0 s kind d P := by
  simp only [ready0, Bool.and_eq_true, decide_eq_true_eq, Bool.not_eq_true'] at hb
  obtain ⟨⟨⟨⟨⟨⟨⟨⟨h1, h2⟩, h3⟩, h4⟩, h5⟩, h6⟩, h7⟩, h8⟩, hk⟩ := hb
  have hw : workState s 1 0 = begunAs s (homeOf (countReq (touchRange s 1 0x100000 64) (t1Base / 128) 1 firmwareAgent) (t1Base / 128)) := by
    have hc : slotCva (ringQueue kind) (ringQueue kind).disp = 0x100000 := rfl
    have hll : linesOf t1Base 64 = [t1Base / 128] := by decide
    have ht : inT2 (t1Base / 128 * 128) 128 = false := by decide
    rw [Laws.workState_ready h2]
    simp [beginWork, h3, h4, hc, cvaRead, h5, homeRead, hll, ht, begunAs, homeAsked, homeAccepts]
  generalize hh : homeOf (countReq (touchRange s 1 0x100000 64) (t1Base / 128) 1 firmwareAgent) (t1Base / 128) = h at hw
  have hlt : h < 24 := hh ▸ homeOf_lt _ _
  have hf := begunAs_frame h7 h8 h
  have hg : begun s 1 0 (ringQueue kind) = begunAs s h := by
    have : genView (begunAs s h) = fun _ => [] := by
      funext g
      simp [genView, hf.1, h6]
    simp [begun, hw, inGen, this]
  refine ⟨⟨h1, ⟨ringQueue kind, ?_, rfl⟩, ?_⟩, ?_⟩
  · rw [Laws.queuePoll_ready h2]
    exact h2
  · rw [hw, ← hk]
    simp [queueOf, hf.2]
  · rw [hg]
    exact hP ⟨h, hlt⟩

/-- Descriptors of every opcode that has work of its own: KIND and the low bits. -/
def opcodes : List (Nat × Nat) := [(1, 1), (1, 2), (1, 3), (1, 3 + 2 ^ 140), (1, 3 + 2 * 2 ^ 140), (1, 4), (1, 5), (1, 0xF), (4, 0x20), (4, 0x21),
  (4, 0x22), (4, 0x23), (4, 0x24), (2, 0x40), (2, 0x41), (6, 0x60), (6, 0x61), (7, 0x70), (7, 0x71), (7, 0x72), (7, 0x73), (7, 0x74), (7, 0x75),
  (3, 0x30), (3, 0x31), (3, 0x32), (3, 0x33), (3, 0x34), (3, 0x35), (5, 0x150), (5, 0x451), (5, 0x252)]

theorem opcodes_ready : ∀ p ∈ opcodes, ready0 (withRing p.1 p.2) p.1 p.2 = true := by decide +kernel

/-- The management core runs in the state in which a descriptor's work begins. -/
theorem core_up (kind d : Nat) (h : Fin 24) : coreUp (begunAs (withRing kind d) h) = true := by
  have e : coreUp (begunAs (withRing kind d) h) = coreUp (odBump live (odKey 0x5002 h) 1) := by
    simp [coreUp, procRunning, activeCore, begunAs, countReq, touchRange, touchCva, odBump, odSet, odGet, withRing]; rfl
  have g : ∀ h : Fin 24, coreUp (odBump live (odKey 0x5002 h) 1) = true := by decide +kernel
  rw [e, g]

theorem witness_DescriptorsBegin :
    (∀ p ∈ opcodes, runs0 (withRing p.1 p.2) p.1 p.2 fun w => (coreUp w = true ∧ w.q.jobs = [])) ∧
    (let s := withRing 1 1
     let y := ringQueue 1
     s.power.on = true ∧ queueOf s 1 0 = some y ∧ ctxActive s 1 = true ∧ s.tier.admitting = true ∧ procRunning s y.scribe = true ∧
       y.disp ≠ y.tail ∧ stepHolds s 1 0 = false ∧ pinnedOk s 1 (slotCva y y.disp) 64 .read = true ∧ cvaFree s 1 (slotCva y y.disp) 64 = true ∧
       (cvaBytes s 1 (slotCva y y.disp) 64).2 = false ∧ leNat (cvaBytes s 1 (slotCva y y.disp) 64).1 = 1 ∧
       (fenced y.kind 1 = true → y.head = y.disp) ∧ fenceHeld s 1 1 = false ∧ headerOk s 1 y.kind 1 = true ∧ dWaitEn 1 = false ∧
       opDefined y.kind 1 = true ∧ s.q.jobs = [] ∧ cutOver s = false) ∧
    queueOf (beginWork (withRing 1 1) 1 0 (ringQueue 1) 1) 1 0 = some (ringQueue 1) := by
  refine ⟨fun p hp => begun_at (opcodes_ready p hp) fun h => ⟨core_up p.1 p.2 h, ?_⟩, by decide +kernel, ?_⟩
  · simp [begunAs, countReq, touchRange, touchCva, odBump, odSet, withRing]
    rfl
  · have h := (begun_at (P := fun _ => True) (opcodes_ready (1, 1) (by decide)) fun _ => trivial).1
    obtain ⟨-, ⟨y, hr, -⟩, hq⟩ := h
    have hw := Laws.workState_ready (s := withRing 1 1) (c := 1) (q := 0) (y := ringQueue 1) (d := 1) (by decide +kernel)
    rw [hw] at hq
    exact hq

theorem witness_NopCompletes : ∀ k ∈ [1, 2, 3, 4, 5, 6, 7],
    runs0 (withRing k 0x100) k 0x100 fun _ => (dOp 0x100 = 0 ∧ 1 ≤ k ∧ k ≤ 7 ∧ (ringQueue k).kind = k) := by
  have r : ∀ k ∈ [1, 2, 3, 4, 5, 6, 7], ready0 (withRing k 0x100) k 0x100 = true ∧ 1 ≤ k ∧ k ≤ 7 := by decide +kernel
  exact fun k hk => begun_at (r k hk).1 fun _ => ⟨rfl, (r k hk).2.1, (r k hk).2.2, rfl⟩

/-- A sync descriptor on mordant 32, which is context 1's, and on mordant 48, which is not. -/
def syncDesc (op m : Nat) : Nat := op + 2 ^ 8 + m * 2 ^ 128

/-- No store of context 1 is held below the scope of a sync descriptor. -/
def drainedFor (w : State) (d : Nat) : Bool :=
  let i := instanceOf w 1 0 (ringQueue 5) (dScope d)
  decide (unreleased i.2 1 i.1 (dScope d) = []) && decide (unreleased (releaseIn i.2 1 i.1 (dScope d)) 1 i.1 (dScope d) = [])

theorem witness_SyncDescriptors : ∀ op ∈ [0x50, 0x51, 0x52],
    (runs0 (withRing 5 (syncDesc op 32)) 5 (syncDesc op 32) fun w => (mordOwned w 1 (sMid (syncDesc op 32)) = true ∧ drainedFor w (syncDesc op 32) = true ∧
      dOp (syncDesc op 32) = op ∧ dScope (syncDesc op 32) ≠ 3)) ∧
    runs0 (withRing 5 (syncDesc op 48)) 5 (syncDesc op 48) fun w => (mordOwned w 1 (sMid (syncDesc op 48)) = false ∧ dOp (syncDesc op 48) = op) := by
  have r : ∀ op ∈ [0x50, 0x51, 0x52], (ready0 (withRing 5 (syncDesc op 32)) 5 (syncDesc op 32) = true ∧
      ready0 (withRing 5 (syncDesc op 48)) 5 (syncDesc op 48) = true) ∧
      (∀ h : Fin 24, mordOwned (begunAs (withRing 5 (syncDesc op 32)) h) 1 (sMid (syncDesc op 32)) = true ∧
        drainedFor (begunAs (withRing 5 (syncDesc op 32)) h) (syncDesc op 32) = true ∧ dOp (syncDesc op 32) = op ∧ dScope (syncDesc op 32) ≠ 3) ∧
      ∀ h : Fin 24, mordOwned (begunAs (withRing 5 (syncDesc op 48)) h) 1 (sMid (syncDesc op 48)) = false ∧ dOp (syncDesc op 48) = op := by
    decide +kernel
  exact fun op ho => ⟨begun_at (r op ho).1.1 (r op ho).2.1, begun_at (r op ho).1.2 (r op ho).2.2⟩

/-- A task that waits for a cluster, and one that runs on Nib cluster 0; a MATMUL of queue 0 whose reference run is under way. -/
def working : State := { withRing 1 1 with
  q.tasks := [(0, ⟨16, 0, 1, 0, 1, 0, 1, 0, none⟩), (1, ⟨16, 0, 1, 0, 1, 0, 1, 0, some 0⟩)],
  q.jobs := [⟨1, 0, 0, 1, 1, 7, 0, 4, false, 0, .matmul { matmulOf 1 0 [] with promoting := true }, none⟩] }

theorem witness_NibWorkGoesOn :
    working.power.on = true ∧
    (∃ t, tblFind working.q.tasks 0 = some t ∧ t.cluster = none ∧ (∀ e ∈ working.q.tasks, e.2.cluster ≠ some (287 : Fin 288).val) ∧
      admitting working = true ∧ clusterUp working (nibCluster (287 : Fin 288).val).1 (nibCluster (287 : Fin 288).val).2 = true ∧
      ctxActive working t.ctx = true ∧ (nibWeight working t.ctx ≠ 0 ∧ inShare (nibWeight working) (handedOut working) t.ctx 288 = true) ∧
      t.groups ≤ nibsUp working (287 : Fin 288).val ∧ t.strips ≤ nibsUp working (287 : Fin 288).val) ∧
    (let s := withNums working [(odCtx 0x2220 1, 0)]
     nibWeight s 1 = 0 ∧ ∀ e ∈ s.q.tasks, e.2.cluster = none → e.2.ctx = 1) ∧
    cutOver working = false ∧ (∃ t, tblFind working.q.tasks 1 = some t ∧ t.cluster ≠ none) ∧
    ∃ j m, matmulJob working 1 0 0 = some (j, m) ∧ ctxActive working 1 = true ∧ m.promoting = true :=
  ⟨rfl, ⟨_, rfl, rfl, by decide, by decide +kernel, by decide +kernel, by decide +kernel, by decide +kernel, by decide +kernel, by decide +kernel⟩,
    by decide +kernel, by decide +kernel, ⟨_, rfl, by decide⟩, ⟨_, _, rfl, by decide +kernel, rfl⟩⟩

/-- A job whose work has ended, on a queue and on a queue that is gone, and with its record's line held by the adapter of port 0. -/
def worked : State := { withRing 1 1 with q.jobs := [⟨1, 0, 0, 1, 0, 7, 0, 4, false, 0, .plain, some 0⟩] }

/-- The line of a store, or of the record, is held by the adapter of port 0. -/
def heldBy0 (s : State) (sa : Nat) : State := { s with coh.shadow := [(sa / 128, ⟨.x, some 336, [], 0⟩)] }

/-- A store of the context waits for its home. -/
def storing : State := { worked with q.stores := [⟨.engine ⟨.nib, 0, 0, 0⟩, t1Base / 128 + 100, 1, [7], 1, 0⟩] }

/-- A mordant operation at device scope on mordant 32, with a store of the context whose line the adapter of port 0 holds. -/
def syncHeld (op : Nat) : State :=
  heldBy0 { withRing 5 (syncDesc op 32 + 3 * 2 ^ 8) with q.stores := storing.q.stores } (t1Base + 12800)

theorem witness_SyncDescriptors_held : ∀ op ∈ [0x50, 0x51],
    runs0 (syncHeld op) 5 (syncDesc op 32 + 3 * 2 ^ 8) fun w =>
      (let d := syncDesc op 32 + 3 * 2 ^ 8
       let i := instanceOf w 1 0 (ringQueue 5) (dScope d)
       mordOwned w 1 (sMid d) = true ∧ dOp d = op ∧ unreleased (releaseIn i.2 1 i.1 (dScope d)) 1 i.1 (dScope d) ≠ []) := by
  have r : ∀ op ∈ [0x50, 0x51], ready0 (syncHeld op) 5 (syncDesc op 32 + 3 * 2 ^ 8) = true ∧
      ∀ h : Fin 24, (let d := syncDesc op 32 + 3 * 2 ^ 8
       let i := instanceOf (begunAs (syncHeld op) h) 1 0 (ringQueue 5) (dScope d)
       mordOwned (begunAs (syncHeld op) h) 1 (sMid d) = true ∧ dOp d = op ∧
         unreleased (releaseIn i.2 1 i.1 (dScope d)) 1 i.1 (dScope d) ≠ []) := by
    decide +kernel
  exact fun op ho => begun_at (r op ho).1 (r op ho).2

theorem witness_DescriptorsComplete :
    worked.power.on = true ∧ (∃ j, jobFind worked 1 0 0 = some j ∧ j.result = some 0) ∧
    queueOf { worked with q.queues := [] } 1 0 = none ∧ queueOf worked 1 0 = some (ringQueue 1) ∧ cutOver worked = false ∧
    (∀ j ∈ jobFind worked 1 0 0,
      (jobRelease (heldBy0 storing (t1Base + 12800)) j).2 = true ∧ (jobRelease worked j).2 = false ∧
      recordTakes (jobRelease worked j).1 1 (ringQueue 1) j.idx = true ∧ (jobRelease (heldBy0 worked (t1Base + 4096)) j).2 = false ∧
      recordTakes (jobRelease (heldBy0 worked (t1Base + 4096)) j).1 1 (ringQueue 1) j.idx = false) :=
  ⟨rfl, ⟨_, rfl, rfl⟩, rfl, by decide +kernel, by decide +kernel, by decide +kernel⟩

/-- A window of context 1 with three layers of 4 MiB and two slots, whose first fill has ended its streams but is not yet done, and whose
second has not begun; queue 0 waits for it. -/
def window0 : Window :=
  { ctx := 1, queue := 0, tag := 7, nlayers := 3, filledId := 32, releasedId := 33, passes := 1, slots := 0x400000, depth := 2, slotSize := 0x400000, gen := 0,
    inFlight := 1, layers := [(0x1000, 0x400000, 1), (0x2000, 0x400000, 1), (0x3000, 0x400000, 1)],
    fills := [⟨0, true, 1, false, .ok, [], 0, false, 0⟩], nextFill := 1, filled := 0, releasedCnt := 0, closed := false, closer := none,
    waiters := [(16, 1, 0, false)] }

/-- A device with that window. -/
def windowed : State := { withRing 1 5 with
  q.windows := [(16, window0)],
  feed.streams := [(0, { newStream (.fill 16 0) 0 1 0 7 0x1000 0x400000 0x400000 (0, 0x400000) with done := true, bytes := 0x400000 })] }

theorem witness_LayerWindows :
    windowed.power.on = true ∧ windowOf windowed (winKey (1 : Ctx).toNat (0 : Fin 16).val) = some window0 ∧
    (nextToStart window0 = some 1 ∧ mayStart windowed window0 1 = true ∧ slotsFree windowed (streamCount (fillLayer window0 1).2.1) = true ∧
      ctxActive windowed window0.ctx = true ∧ admitting windowed = true) ∧
    (let xs := (streamsOf windowed (.fill 16 0)).map (·.2)
     xs ≠ [] ∧ xs.all (·.done) = true) ∧
    windowed.q.windows.find? (fun e => e.2.waiters.any (fun x => decide (x.1 = qKey 1 0) && stalled e.2 x)) = some (16, window0) ∧
    window0.waiters.find? (fun x => decide (x.1 = qKey 1 0)) = some (16, 1, 0, false) := by decide +kernel

/-- A stream that holds fault 1 of group 0, whose resolver is context 1; the group has posted three faults. -/
def faulted (d : Nat) : State :=
  withNums { withRing 3 d with
    feed.streams := [(5, { newStream (.desc 16 0) 0 1 0 7 0x1000 0x2000 64 (0, 64) with fault := some ⟨1, 0, 0, false, 0x1000, 0, false, 0⟩ })],
    feed.groups := [(0, ⟨4, 0, 3, []⟩)] } [(odKey 0x4100 0, 1)]

/-- Stream 5 of an ACTIVE context holds a fault of SEQ `n` of a group that context 1 resolves. -/
def holdsFault (w : State) (n : Nat) : Bool :=
  (streamOf w 5).any (fun y => ctxActive w y.ctx && y.fault.any (fun f => decide (f.seq = n) && decide (odGet w (odKey 0x4100 f.group) = 1)))

/-- RESOLVE or FAIL of stream 5 with SEQ 1, and of SEQ 2; ADVANCE of group 0 to 3, and of group 1. -/
def faultDesc (op id n : Nat) : Nat := op + id * 2 ^ 256 + n * 2 ^ 272

theorem witness_TranslationDescriptorsBegin :
    (∀ op ∈ [0x33, 0x34], runs0 (faulted (faultDesc op 5 1)) 3 (faultDesc op 5 1) fun w =>
      (coreUp w = true ∧ dOp (faultDesc op 5 1) = op ∧ field (faultDesc op 5 1) 256 16 = 5 ∧ holdsFault w (field (faultDesc op 5 1) 272 32) = true)) ∧
    (∀ op ∈ [0x33, 0x34], runs0 (faulted (faultDesc op 5 2)) 3 (faultDesc op 5 2) fun w =>
      (coreUp w = true ∧ dOp (faultDesc op 5 2) = op ∧ heldStream w 1 (faultDesc op 5 2) = none)) ∧
    (runs0 (faulted (faultDesc 0x35 0 3)) 3 (faultDesc 0x35 0 3) fun w =>
      (coreUp w = true ∧ odGet w (odKey 0x4100 0) = 1 ∧
        (3 + 2 ^ 32 - (groupOf w 0).consumed) % 2 ^ 32 ≤ ((groupOf w 0).posted + 2 ^ 32 - (groupOf w 0).consumed) % 2 ^ 32)) ∧
    (runs0 (faulted (faultDesc 0x35 1 3)) 3 (faultDesc 0x35 1 3) fun w =>
      (coreUp w = true ∧ odGet w (odKey 0x4100 1) ≠ 1)) ∧
    ∀ op ∈ [0x30, 0x31, 0x32], runs0 (withRing 3 op) 3 op fun w => (coreUp w = true ∧ dOp op = op) := by
  have a : ∀ op ∈ [0x33, 0x34], ready0 (faulted (faultDesc op 5 1)) 3 (faultDesc op 5 1) = true ∧ ∀ h : Fin 24, let w := begunAs (faulted (faultDesc op 5 1)) h
      coreUp w = true ∧ dOp (faultDesc op 5 1) = op ∧ field (faultDesc op 5 1) 256 16 = 5 ∧ holdsFault w (field (faultDesc op 5 1) 272 32) = true := by decide +kernel
  have b : ∀ op ∈ [0x33, 0x34], ready0 (faulted (faultDesc op 5 2)) 3 (faultDesc op 5 2) = true ∧ ∀ h : Fin 24, let w := begunAs (faulted (faultDesc op 5 2)) h
      coreUp w = true ∧ dOp (faultDesc op 5 2) = op ∧ heldStream w 1 (faultDesc op 5 2) = none := by decide +kernel
  have e : ∀ op ∈ [0x30, 0x31, 0x32], ready0 (withRing 3 op) 3 op = true ∧ dOp op = op := by decide +kernel
  refine ⟨fun op ho => begun_at (a op ho).1 (a op ho).2, fun op ho => begun_at (b op ho).1 (b op ho).2, begun_at ?_ ?_, begun_at ?_ ?_,
    fun op ho => begun_at (e op ho).1 fun h => ⟨core_up 3 op h, (e op ho).2⟩⟩ <;> decide +kernel

/-! ## Descriptors whose checks pass -/

/-- MATMUL of one row, one strip and one block, all in format 4: weights at CVA 0x210000, or of layer 0 of window 0. -/
def matmulDesc (window : Bool) : Nat :=
  1 + 4 * 2 ^ 128 + 4 * 2 ^ 132 + 4 * 2 ^ 136 + (if window then 2 ^ 148 else 0x210000 * 2 ^ 256) + 2 ^ 192 + 2 ^ 224 + 2 ^ 240 + 0x204000 * 2 ^ 320 +
    0x205000 * 2 ^ 384 + 0x203000 * 2 ^ 448

/-- A window of three layers at CVA 0x210000 whose first fill is done. -/
def filledWindow : Window :=
  { window0 with
    slots := 0x210000, slotSize := 0x4000, inFlight := 0, waiters := [],
    layers := [(0x1000, 0x4000, 1), (0x5000, 0x4000, 1), (0x9000, 0x4000, 1)],
    fills := [⟨0, true, 1, true, .ok, [], 0, false, 0⟩] }

/-- Its operand block: pitches of 48 and 1,024 bytes. -/
def matmulState (window : Bool) : State :=
  let s := putData (withRing 1 (matmulDesc window)) 0x203000 (natLe 64 (48 * 2 ^ 320 + 1024 * 2 ^ 352))
  if window then { s with q.windows := [(16, filledWindow)] } else s

/-- The checks of a MATMUL on its weights, its operand block and its operands. -/
def matmulPasses (v : State) (x : Queue) (d wref : Nat) (bound : Option (Nat × Nat)) : Bool :=
  let ob := cvaBytes v 1 (field d 448 64) 64
  let m := { matmulOf d (leNat ob.1) (stamped v x) with wref := wref, bound := bound }
  matmulFields d && pinnedOk v 1 (field d 448 64) 64 .read && cvaFree v 1 (field d 448 64) 64 && !ob.2 && operandsOk v 1 m &&
    imagePinned v 1 m.wfmt (mK m) m.wref m.strips

/-- The same through a window: the binding is ready, and the offset lies in the layer. -/
def matmulPassesBound (w : State) (x : Queue) (d : Nat) : Bool :=
  match bindFill w 1 0 x.disp (field d 256 4) (field d 260 12) with
  | .ready v g =>
    match windowOf v (winKey 1 (field d 256 4)) with
    | some win => decide (16 * field d 272 32 < (fillLayer win g).2.1) &&
        matmulPasses v x d (slotAddr win g + 16 * field d 272 32) (some (winKey 1 (field d 256 4), g))
    | none => false
  | _ => false

/-- ATTN of one sequence with one query, one head of 64, formats 4, one layer: its tables at 0x203000, 0x206000; its page at 0x210000. -/
def attnDesc : Nat :=
  2 + 4 * 2 ^ 128 + 4 * 2 ^ 132 + 4 * 2 ^ 136 + 2 ^ 144 + 2 ^ 160 + 64 * 2 ^ 168 + 2 ^ 192 + 2 ^ 208 + 0x203000 * 2 ^ 256 + 0x204000 * 2 ^ 320 +
    0x205000 * 2 ^ 384 + 0x207000 * 2 ^ 448

/-- Pitches of 80, 144 and 80 bytes; one entry: slot 0, one query at position 0, page table at 0x206000 with one page. -/
def attnState : State :=
  withNums (putData (putData (withRing 1 attnDesc) 0x203000 (natLe 96 (80 + 144 * 2 ^ 32 + 80 * 2 ^ 64 + (2 ^ 16 + 0x206000 * 2 ^ 128) * 2 ^ 512)))
    0x206000 (natLe 8 0x210000)) [(odCtx 0x2210 1, 4)]

/-- ROWOP `op` of one row of 32 elements in format 4. -/
def rowDesc (op : Nat) : Nat :=
  3 + 4 * 2 ^ 128 + 4 * 2 ^ 132 + op * 2 ^ 140 + 2 ^ 192 + 32 * 2 ^ 224 + 0x203000 * 2 ^ 256 + 0x204000 * 2 ^ 320 + 0x205000 * 2 ^ 384 +
    64 * 2 ^ 448 + 64 * 2 ^ 480

theorem witness_NibDescriptorsRun :
    (runs0 (matmulState false) 1 (matmulDesc false) fun w =>
      (matmulPasses w (ringQueue 1) (matmulDesc false) 0x210000 none = true ∧ bitOf (matmulDesc false) 148 = false ∧ field (matmulDesc false) 256 64 = 0x210000)) ∧
    (runs0 (matmulState true) 1 (matmulDesc true) fun w =>
      (matmulPassesBound w (ringQueue 1) (matmulDesc true) = true ∧ bitOf (matmulDesc true) 148 = true)) ∧
    (runs0 attnState 1 attnDesc fun w =>
      (let a := attnOf attnDesc
       let t := seqTable a (cvaBytes w 1 a.seqtab (64 + 32 * a.nseq)).1
       dOp attnDesc = 2 ∧ attnFields a = true ∧ pinnedOk w 1 a.seqtab (64 + 32 * a.nseq) .read = true ∧ attnFree w 1 attnDesc = true ∧
         attnOk w 1 a t.1 t.2 = true)) ∧
    (∀ op ∈ [0, 1, 2], runs0 (withRing 1 (rowDesc op)) 1 (rowDesc op) fun w =>
      (let r := rowOf (rowDesc op)
       dOp (rowDesc op) = 3 ∧ r.op = op ∧ rowOk w 1 r = true ∧ allFree w 1 (rowReads r) = true ∧ allTake w 1 (rowWrites r) = true ∧ anyPoison w 1 (rowReads r) = false)) ∧
    (runs0 windowed 1 5 fun w => (dOp 5 = 5 ∧ windowOf w (winKey 1 (field 5 128 4)) = some window0 ∧ window0.closed = false)) := by
  have r : ∀ op ∈ [0, 1, 2], ready0 (withRing 1 (rowDesc op)) 1 (rowDesc op) = true ∧ ∀ h : Fin 24, let w := begunAs (withRing 1 (rowDesc op)) h
      let r := rowOf (rowDesc op)
      dOp (rowDesc op) = 3 ∧ r.op = op ∧ rowOk w 1 r = true ∧ allFree w 1 (rowReads r) = true ∧ allTake w 1 (rowWrites r) = true ∧ anyPoison w 1 (rowReads r) = false := by
    decide +kernel
  refine ⟨begun_at ?_ ?_, begun_at ?_ ?_, begun_at ?_ ?_, fun op ho => begun_at (r op ho).1 (r op ho).2, begun_at ?_ ?_⟩ <;> decide +kernel

/-- WINDOW_OPEN of one layer of 4,096 bytes: mordants 32 and 33, table at CVA 0x203000, slots at 0x210000. -/
def openDesc : Nat := 4 + 2 ^ 144 + 32 * 2 ^ 160 + 33 * 2 ^ 176 + 0x203000 * 2 ^ 256 + 0x210000 * 2 ^ 320

/-- A ring with that descriptor and its layer table, and with `n` windows open. -/
def openState (n : Nat) : State :=
  let s := putData (withRing 1 openDesc) 0x203000 (natLe 32 (0x204000 + 0x1000 * 2 ^ 64 + 2 ^ 112))
  { s with q.windows := (List.range n).map (fun i => (1000 + i, window0)) }

/-- The checks of R178 and R179 on it. -/
def openPasses (w : State) (x : Queue) (d : Nat) : Bool :=
  let n := field d 144 16
  let tab := field d 256 64
  let slots := field d 320 64
  let ls := layerTable w 1 tab n
  let depth := (stamped w x).getD 9 12
  decide (1 ≤ n) && decide (n ≤ 4096) && mordOwned w 1 (field d 160 16) && mordOwned w 1 (field d 176 16) && decide (tab % 32 = 0) &&
    decide (slots % 4096 = 0) && pinnedOk w 1 tab (32 * n) .read && cvaFree w 1 tab (32 * n) && !(cvaBytes w 1 tab (32 * n)).2 &&
    ls.all (fun l => decide (l.2.1 ≠ 2 ^ 40 - 1 ∧ l.2.1 ≠ 0 ∧ l.2.1 % 16 = 0 ∧ l.1 % 16 = 0 ∧ l.1 + l.2.1 ≤ cvaEnd ∧ (n ≤ depth ∨ l.2.2 ≠ 0))) &&
    (windowOf w (winKey 1 (field d 128 4))).isNone && decide (slotSizeOf ls ≤ (stamped w x).getD 10 8192 * 2 ^ 20) &&
    pinnedOk w 1 slots (depth * slotSizeOf ls) .read && pinnedOk w 1 slots (depth * slotSizeOf ls) .write && inPlaced w 1 slots (depth * slotSizeOf ls)

theorem witness_WindowsOpen :
    (runs0 (openState 255) 1 openDesc fun w => (openPasses w (ringQueue 1) openDesc = true ∧ w.q.windows.length < 256)) ∧
    runs0 (openState 256) 1 openDesc fun w => (openPasses w (ringQueue 1) openDesc = true ∧ 256 ≤ w.q.windows.length) := by
  refine ⟨begun_at ?_ ?_, begun_at ?_ ?_⟩ <;> decide +kernel

/-- A tier descriptor of one page at a CVA; ALLOC and PLACE name T1. -/
def tierDesc (op cva : Nat) : Nat := op + (if op = 0x20 ∨ op = 0x24 then 2 ^ 128 else 0) + 0x1000 * 2 ^ 160 + cva * 2 ^ 256

/-- Context 1 may hold 16 MiB of T1. -/
def tierState (d : Nat) : State := withNums (withRing 4 d) [(odCtx 0x3100 1, 16)]

/-- ALLOC of a page that is ABSENT. -/
def allocPasses (w : State) (d : Nat) : Bool :=
  let v := (tRange d).1
  let n := (tRange d).2
  decide (1 ≤ tTier d ∧ tTier d ≤ 3) && (decide (tTier d ≠ 3) || !tPin d) &&
    (piecesOf (rangeTable w 1) v n).all (fun e => decide (e.ty = .absent)) && decide (roomFor w 1 (tTier d) n = none) &&
    (match chooseFrames w 1 (tTier d) n with
     | (some l, u) => tableFits (replaceRange (epochOf u 1) (rangeTable u 1) v n (entriesOver u 1 (tTier d) (tPin d) v l))
     | _ => false)

/-- FREE of a page that is not pinned. -/
def freePasses (w : State) (d : Nat) : Bool :=
  let v := (tRange d).1
  let n := (tRange d).2
  let t := rangeTable w 1
  !movesIn w 1 v n && !withdrawing w 1 && covered t v n && (piecesOf t v n).all (fun e => decide (framesOf e ≠ none) && !e.pin) &&
    !touchesFaultQueue w 1 v n && !touchesExport w 1 v n && tableFits (replaceRange ((epochOf w 1 + 1) % 2 ^ 32) t v n [])

/-- PIN and UNPIN of a DEVICE page. -/
def pinPasses (w : State) (d : Nat) (on : Bool) : Bool :=
  let v := (tRange d).1
  let n := (tRange d).2
  let t := rangeTable w 1
  let ep := epochOf w 1
  !movesIn w 1 v n && covered t v n && (piecesOf t v n).all (fun e => decide (e.ty = .device)) && !touchesFaultQueue w 1 v n &&
    !touchesExport w 1 v n &&
    tableFits (replaceRange ep t v n ((piecesOf t v n).map (fun e => if e.ty = .device ∧ e.pin ≠ on then { e with pin := on, epoch := ep } else e)))

/-- PLACE in T1 of a page; `k` pages lie elsewhere. -/
def placePasses (w : State) (d k : Nat) : Bool :=
  let v := (tRange d).1
  let n := (tRange d).2
  let t := rangeTable w 1
  let ps := piecesOf t v n
  let away := ps.filter (fun e => decide ((framesOf e).map (·.1) ≠ some (tTier d)))
  !movesIn w 1 v n && !withdrawing w 1 && decide (1 ≤ tTier d ∧ tTier d ≤ 3) && covered t v n &&
    ps.all (fun e => decide (framesOf e ≠ none) && !e.pin) && decide ((away.map (·.pages)).sum = k) && decide (roomFor w 1 (tTier d) k = none) &&
    (match chooseFrames w 1 (tTier d) k with
     | (some l, u) =>
       let ms := ((pagesIn u 1 away).zip (placesOf u 1 (tTier d) l)).map (fun p =>
         (⟨some (qKey 1 0, 0), 1, p.1.1, tTier d, p.1.2, p.2, none, false⟩ : Move))
       decide (ms.length = k) && tableFits (movedTable u t ms)
     | _ => false)

theorem witness_TierDescriptorsRun :
    (runs0 (tierState (tierDesc 0x20 0x700000)) 4 (tierDesc 0x20 0x700000) fun w =>
      (coreUp w = true ∧ tierFields (tierDesc 0x20 0x700000) = none ∧ allocPasses w (tierDesc 0x20 0x700000) = true)) ∧
    (runs0 (tierState (tierDesc 0x21 0x300000)) 4 (tierDesc 0x21 0x300000) fun w =>
      (coreUp w = true ∧ tierFields (tierDesc 0x21 0x300000) = none ∧ freePasses w (tierDesc 0x21 0x300000) = true)) ∧
    (runs0 (tierState (tierDesc 0x22 0x303000)) 4 (tierDesc 0x22 0x303000) fun w =>
      (coreUp w = true ∧ tierFields (tierDesc 0x22 0x303000) = none ∧ pinPasses w (tierDesc 0x22 0x303000) true = true)) ∧
    (runs0 (tierState (tierDesc 0x23 0x23F000)) 4 (tierDesc 0x23 0x23F000) fun w =>
      (coreUp w = true ∧ tierFields (tierDesc 0x23 0x23F000) = none ∧ pinPasses w (tierDesc 0x23 0x23F000) false = true)) ∧
    (runs0 (tierState (tierDesc 0x24 0x300000)) 4 (tierDesc 0x24 0x300000) fun w =>
      (coreUp w = true ∧ tierFields (tierDesc 0x24 0x300000) = none ∧ placePasses w (tierDesc 0x24 0x300000) 0 = true)) ∧
    (runs0 (tierState (tierDesc 0x24 0x400000)) 4 (tierDesc 0x24 0x400000) fun w =>
      (coreUp w = true ∧ tierFields (tierDesc 0x24 0x400000) = none ∧ placePasses w (tierDesc 0x24 0x400000) 1 = true)) := by
  refine ⟨begun_at ?_ ?_, begun_at ?_ ?_, begun_at ?_ ?_, begun_at ?_ ?_, begun_at ?_ ?_, begun_at ?_ ?_⟩ <;> decide +kernel

/-- A translation descriptor of one page: MAP to the host's page 0x9000, UNMAP of a host page, PROTECT to some rights. -/
def mapDesc (op cva rights target : Nat) : Nat := op + (2 + rights * 8) * 2 ^ 128 + 2 ^ 160 + cva * 2 ^ 256 + target * 2 ^ 320

/-- MAP of an ABSENT page to an allowed target. -/
def mapPasses (w : State) (d : Nat) : Bool :=
  let v := xArg d / 4096
  let n := xPages d
  let t := rangeTable w 1
  let ep := epochOf w 1
  match xType d with
  | some ty => (piecesOf t v n).all (fun e => decide (e.ty = .absent)) && targetAllowed w 1 ty (xTarget d) (n * 4096) &&
      tableFits (replaceRange ep t v n [⟨v, n, ty, bitOf d 131, bitOf d 132, bitOf d 133, false, false, xTarget d / 4096, ep⟩])
  | none => false

/-- UNMAP of a HOST page. -/
def unmapPasses (w : State) (d : Nat) : Bool :=
  let v := xArg d / 4096
  let t := rangeTable w 1
  !withdrawing w 1 && covered t v (xPages d) && (piecesOf t v (xPages d)).all (fun e => decide (e.ty ≠ .device) && (decide (e.ty ≠ .host) || !e.t3)) &&
    tableFits (replaceRange ((epochOf w 1 + 1) % 2 ^ 32) t v (xPages d) [])

/-- PROTECT that clears a right, or none. -/
def protectPasses (w : State) (d : Nat) (clears : Bool) : Bool :=
  let v := xArg d / 4096
  let n := xPages d
  let t := rangeTable w 1
  let ps := piecesOf t v n
  let ep := if clears then (epochOf w 1 + 1) % 2 ^ 32 else epochOf w 1
  !movesIn w 1 v n && covered t v n && ps.all (fun e => decide (e.ty ≠ .absent)) &&
    decide (ps.any (fun e => (e.rd && !bitOf d 131) || (e.wr && !bitOf d 132) || (e.at_ && !bitOf d 133)) = clears) && !withdrawing w 1 &&
    tableFits (replaceRange ep t v n (ps.map (fun p => { p with rd := bitOf d 131, wr := bitOf d 132, at_ := bitOf d 133, epoch := ep })))

theorem witness_TranslationDescriptorsRun :
    (runs0 (withRing 3 (mapDesc 0x30 0x700000 7 0x9000000)) 3 (mapDesc 0x30 0x700000 7 0x9000000) fun w =>
      (coreUp w = true ∧ xlatFields (mapDesc 0x30 0x700000 7 0x9000000) = none ∧ mapPasses w (mapDesc 0x30 0x700000 7 0x9000000) = true)) ∧
    (runs0 (withRing 3 (mapDesc 0x31 0x500000 0 0)) 3 (mapDesc 0x31 0x500000 0 0) fun w =>
      (coreUp w = true ∧ xlatFields (mapDesc 0x31 0x500000 0 0) = none ∧ unmapPasses w (mapDesc 0x31 0x500000 0 0) = true)) ∧
    (runs0 (withRing 3 (mapDesc 0x32 0x500000 7 0)) 3 (mapDesc 0x32 0x500000 7 0) fun w =>
      (coreUp w = true ∧ xlatFields (mapDesc 0x32 0x500000 7 0) = none ∧ protectPasses w (mapDesc 0x32 0x500000 7 0) false = true)) ∧
    (runs0 (withRing 3 (mapDesc 0x32 0x200000 1 0)) 3 (mapDesc 0x32 0x200000 1 0) fun w =>
      (coreUp w = true ∧ xlatFields (mapDesc 0x32 0x200000 1 0) = none ∧ protectPasses w (mapDesc 0x32 0x200000 1 0) true = true)) := by
  refine ⟨begun_at ?_ ?_, begun_at ?_ ?_, begun_at ?_ ?_, begun_at ?_ ?_⟩ <;> decide +kernel

/-- COPY of 64 bytes from the host's page to a pinned one; FILL of 64 bytes. -/
def copyDesc (op src : Nat) : Nat := op + 64 * 2 ^ 128 + src * 2 ^ 256 + 0x210000 * 2 ^ 320

/-- SEARCH and STALE_SCAN on a graph of one node at CVA 0x203000. -/
def searchDesc : Nat := 0x60 + 2 ^ 128 + 0x203000 * 2 ^ 256 + 0x207000 * 2 ^ 320

/-- STALE_SCAN of its node with room for one record. -/
def scanDesc : Nat := 0x61 + 2 ^ 168 + 2 ^ 208 + 0x203000 * 2 ^ 256 + 0x20A000 * 2 ^ 320

/-- The graph record and one query record. -/
def graphState (d : Nat) : State :=
  putData (putData (withRing 6 d) 0x203000 (natLe 64 (1 + 2 ^ 44 + 0x204000 * 2 ^ 64 + 0x205000 * 2 ^ 128 + 0x206000 * 2 ^ 192 + 2 ^ 256)))
    0x207000 (natLe 64 (1 + 16 * 2 ^ 16 + 0x208000 * 2 ^ 256 + 0x209000 * 2 ^ 320))

/-- The checks of R359. -/
def searchPasses (w : State) (d : Nat) : Bool :=
  let gcva := field d 256 64
  let nq := field d 128 16
  let qtab := field d 320 64
  let g := graphOf gcva (leNat (cvaBytes w 1 gcva 64).1)
  let qs := (List.range nq).map (fun i => leAt (cvaBytes w 1 qtab (64 * nq)).1 (64 * i) 64)
  decide (nq ≠ 0) && decide (qtab % 64 = 0) && recordOk w 1 gcva && pinnedOk w 1 qtab (64 * nq) .read && allFree w 1 (searchReads d) &&
    !anyPoison w 1 (searchReads d) && graphOk w 1 g true && qs.all (queryOk w 1 g)

/-- The checks of R386. -/
def scanPasses (w : State) (d : Nat) : Bool :=
  let gcva := field d 256 64
  let g := graphOf gcva (leNat (cvaBytes w 1 gcva 64).1)
  let z := scanNodes w 1 g d
  decide (field d 168 40 ≠ 2 ^ 40 - 1) && decide (field d 168 40 ≠ 0) && decide (field d 208 24 ≠ 0) && decide (field d 320 64 % 16 = 0) &&
    recordOk w 1 gcva && cvaFree w 1 gcva 64 && !(cvaBytes w 1 gcva 64).2 && graphOk w 1 g false && decide (field d 128 40 + field d 168 40 ≤ g.nodes) &&
    pinnedOk w 1 (field d 320 64) (16 * field d 208 24) .write && allFree w 1 z.reads &&
    allTake w 1 [(field d 320 64, (scanBytes z).length)]

/-- Where no stream is used, a Feed that works has one free. -/
theorem one_slot {s : State} (hf : feedUp s 0 = true) (hs : s.feed.streams = []) : slotsFree s 1 = true := by
  have h : (64 : Nat) ∈ ((List.range 768).filter (feedUp s)).map (fun f => 64 - streamsOn s f) :=
    List.mem_map.2 ⟨0, List.mem_filter.2 ⟨by decide, hf⟩, by simp [streamsOn, hs]⟩
  have := List.single_le_sum (fun _ _ => Nat.zero_le _) _ h
  simp only [slotsFree, decide_eq_true_eq]
  omega

theorem search_passes : ready0 (graphState searchDesc) 6 searchDesc = true ∧
    ∀ h : Fin 24, dOp searchDesc = 0x60 ∧ searchPasses (begunAs (graphState searchDesc) h) searchDesc = true := by decide +kernel

theorem scan_passes : ready0 (graphState scanDesc) 6 scanDesc = true ∧
    ∀ h : Fin 24, dOp scanDesc = 0x61 ∧ cutOver (graphState scanDesc) = false ∧ scanPasses (begunAs (graphState scanDesc) h) scanDesc = true := by
  decide +kernel

theorem witness_FeedAndQuillDescriptorsRun :
    (runs0 (withRing 2 (copyDesc 0x40 0x500000)) 2 (copyDesc 0x40 0x500000) fun w =>
      (slotsFree w (streamCount (field (copyDesc 0x40 0x500000) 128 40)) = true ∧ copyCheck w 1 (copyDesc 0x40 0x500000) false = none)) ∧
    (runs0 (withRing 2 (copyDesc 0x41 7)) 2 (copyDesc 0x41 7) fun w =>
      (slotsFree w (streamCount (field (copyDesc 0x41 7) 128 40)) = true ∧ copyCheck w 1 (copyDesc 0x41 7) true = none)) ∧
    (runs0 (graphState searchDesc) 6 searchDesc fun w => (dOp searchDesc = 0x60 ∧ searchPasses w searchDesc = true)) ∧
    (runs0 (graphState scanDesc) 6 scanDesc fun w =>
      (dOp scanDesc = 0x61 ∧ cutOver (graphState scanDesc) = false ∧ scanPasses w scanDesc = true)) := by
  have r : ∀ p ∈ [(copyDesc 0x40 0x500000, false), (copyDesc 0x41 7, true)], ready0 (withRing 2 p.1) 2 p.1 = true ∧ ∀ h : Fin 24,
      let w := begunAs (withRing 2 p.1) h
      streamCount (field p.1 128 40) = 1 ∧ feedUp w 0 = true ∧ w.feed.streams = [] ∧ copyCheck w 1 p.1 p.2 = none := by decide +kernel
  refine ⟨begun_at (r _ (.head _)).1 fun h => ?_, begun_at (r _ (.tail _ (.head _))).1 fun h => ?_, begun_at search_passes.1 search_passes.2,
    begun_at scan_passes.1 scan_passes.2⟩
  · obtain ⟨h1, h2, h3, h4⟩ := (r _ (.head _)).2 h
    exact ⟨h1 ▸ one_slot h2 h3, h4⟩
  · obtain ⟨h1, h2, h3, h4⟩ := (r _ (.tail _ (.head _))).2 h
    exact ⟨h1 ▸ one_slot h2 h3, h4⟩

/-- A request that is counted at a home, of a line that is not watched, changes only the counts and OD 0x5002. -/
theorem homeAsked_od {s : State} (hp : s.coh.paced = []) (a c l k : Nat) (h : k / 256 ≠ 0x5002) : odGet (homeAsked s a c l) k = odGet s k := by
  have hl := homeOf_lt (countReq s l c a) l
  have hk : odKey 0x5002 (homeOf (countReq s l c a) l) ≠ k := by
    intro e
    apply h
    rw [← e]
    unfold odKey
    omega
  have ho : (countReq s l c a).od = s.od := by
    simp [countReq, hp]
  unfold homeAsked homeAccepts odBump odSet odGet
  rw [tblFind_tblSet, if_neg (Ne.symm hk), ho]

/-- It leaves the fabric's state as it was. -/
theorem homeAsked_fab {s : State} (hp : s.coh.paced = []) (a c l : Nat) : (homeAsked s a c l).fab = s.fab := by
  simp [homeAsked, homeAccepts, odBump, odSet, countReq, hp]

/-- One request, and no other change, is what a read of one T1 line leaves at the homes. -/
theorem read_asks {s : State} {a c cva n sa l : Nat} (hp : saParts s c cva n = [(sa, n)]) (hl : linesOf sa n = [l])
    (ht : inT2 (l * 128) 128 = false) : (cvaRead s a c cva n).2 = homeAsked (touchRange s c cva n) a c l := by
  simp [cvaRead, hp, homeRead, hl, ht]

/-- No peer request is outstanding: the first TAG is free. -/
theorem first_tag {s : State} (h : s.fab.peers = []) : tblFreeKey s.fab.peers 65536 = some 0 := by
  rw [h, tblFreeKey, List.range_eq_range', show (65536 : Nat) = 65535 + 1 from rfl, List.range'_succ]
  simp [tblFind]

/-- A request to a peer leaves under the first free TAG where a window covers it and one port serves. -/
theorem peer_leaves {s : State} {c fa len : Nat} {asker : Asker} {data : Bytes} {aop aw : Nat} {fetch : Bool} {x : FabWin} {p : Nat}
    (hw : importWin s c fa len .atomic = some x) (hp : s.fab.readyPorts.filter (fun p => decide (portState s p = 2)) = [p]) (ht : s.fab.peers = []) :
    ∃ t u, peerSend s c asker 3 fa len data aop aw fetch = (.tag t, u) := by
  have hf := first_tag ht
  have hq : ∀ node line, portFor s node line = some p := by
    intro node line
    simp [portFor, hp, Nat.mod_one]
  simp [peerSend, hw, hq, hf]

/-- ADD of 4 bytes at the import window's first byte; SEND of 4 bytes; MBOX_OPEN of 16 slots and of none; OWN_ACQUIRE, OWN_RELEASE, FLUSH. -/
def atomDesc : Nat := 0x70 + 2 ^ 160 + 4 * 2 ^ 168 + 0x600000 * 2 ^ 256

/-- SEND of 4 bytes at CVA 0x203000 to node 5. -/
def sendDesc : Nat := 0x71 + 5 * 2 ^ 128 + 4 * 2 ^ 192 + 0x203000 * 2 ^ 256

/-- MBOX_OPEN with 2^n slots. -/
def mboxDesc (n : Nat) : Nat := 0x72 + n * 2 ^ 176 + 0x210000 * 2 ^ 256 + 32 * 2 ^ 432

/-- Region 7 is owned by context 1; context 1 is a shadow or is none. -/
def fabState (d : Nat) (shadow : Bool) : State :=
  let s := { withRing 7 d with fab.owned := [(1, 7, 3)] }
  if shadow then withNums s [(odCtx 0xC100 1, 1)] else s

/-- The checks of an ATOMIC to a peer. -/
def atomPasses (w : State) (d : Nat) : Bool :=
  match entryAt (rangeTable w 1) (field d 256 64 / 4096) with
  | some e => decide (e.ty = .peer) && e.at_ && !isShadow w 1 && !composedHold w 1 (entryTarget w 1 e (field d 256 64)) &&
      decide (entryTarget w 1 e (field d 256 64) = .peer (5 * 2 ^ 52)) && (importWin w 1 (5 * 2 ^ 52) (field d 168 4) .atomic).isSome &&
      decide (w.fab.readyPorts.filter (fun p => decide (portState w p = 2)) = [0]) && decide (w.fab.peers = [])
  | none => false

/-- The checks of a SEND, and of what the states after its read and its MSEQ hold. -/
def sendPasses (w : State) (d : Nat) (shadow : Bool) : Bool :=
  let a := field d 256 64
  let n := field d 192 32
  decide (n ≠ 0) && decide (n ≤ 4096) && pinnedOk w 1 a n .read && cvaFree w 1 a n && !(cvaBytes w 1 a n).2 && decide (isShadow w 1 = shadow) &&
    decide (anyPort w = some 0) && decide (w.fab.peers = []) && decide (w.coh.paced = []) && decide (saParts w 1 a n = [(t1Base + 0x5000, n)])

/-- What the read and the MSEQ of a SEND leave. -/
theorem send_goes_on {w : State} {shadow : Bool} (h : sendPasses w sendDesc shadow = true) :
    ∃ b u m v, cvaRead w firmwareAgent 1 (field sendDesc 256 64) (field sendDesc 192 32) = ((b, false), u) ∧ takeMseq u 1 5 0 0 = (m, v) ∧
      isShadow v 1 = shadow ∧ anyPort v = some 0 ∧ tblFreeKey v.fab.peers 65536 = some 0 := by
  simp only [sendPasses, Bool.and_eq_true, decide_eq_true_eq, Bool.not_eq_true'] at h
  obtain ⟨⟨⟨⟨⟨⟨_, hb⟩, hs⟩, hp⟩, hf⟩, hw⟩, ha⟩ := h
  have hl : linesOf (t1Base + 0x5000) (field sendDesc 192 32) = [(t1Base + 0x5000) / 128] := by decide +kernel
  have hu := read_asks (a := firmwareAgent) ha hl (by decide)
  have ho : ∀ k, k / 256 ≠ 0x5002 →
      odGet (homeAsked (touchRange w 1 (field sendDesc 256 64) (field sendDesc 192 32)) firmwareAgent 1 ((t1Base + 0x5000) / 128)) k = odGet w k :=
    fun k hk => homeAsked_od (s := touchRange w 1 (field sendDesc 256 64) (field sendDesc 192 32)) hw firmwareAgent 1 ((t1Base + 0x5000) / 128) k hk
  have hg : (homeAsked (touchRange w 1 (field sendDesc 256 64) (field sendDesc 192 32)) firmwareAgent 1 ((t1Base + 0x5000) / 128)).fab = w.fab :=
    homeAsked_fab (s := touchRange w 1 (field sendDesc 256 64) (field sendDesc 192 32)) hw firmwareAgent 1 ((t1Base + 0x5000) / 128)
  refine ⟨(cvaBytes w 1 (field sendDesc 256 64) (field sendDesc 192 32)).1,
    (cvaRead w firmwareAgent 1 (field sendDesc 256 64) (field sendDesc 192 32)).2, _, _, Prod.ext (Prod.ext rfl hb) rfl, rfl, ?_, ?_, ?_⟩
  · rw [← hs, hu]
    exact congrArg (fun n => decide (n = 1)) (ho (odCtx 0xC100 1) (by decide))
  · rw [← hp, hu]
    have : ∀ p, portState (homeAsked (touchRange w 1 (field sendDesc 256 64) (field sendDesc 192 32)) firmwareAgent 1 ((t1Base + 0x5000) / 128)) p =
        portState w p := fun p => ho _ (by unfold odKey; omega)
    show (List.range 16).find? (fun p => decide (portState (homeAsked _ _ _ _) p = 2)) = _
    simp only [this, anyPort]
  · rw [hu]
    apply first_tag
    rw [← hf, ← hg]

theorem witness_FabricDescriptorsRun :
    (runs0 (fabState atomDesc false) 7 atomDesc fun w =>
      (atomPasses w atomDesc = true ∧ dOp atomDesc = 0x70 ∧ 1 ≤ field atomDesc 160 8 ∧ field atomDesc 160 8 ≤ 10 ∧ field atomDesc 168 4 = 4 ∧
        field atomDesc 256 64 % field atomDesc 168 4 = 0 ∧ field atomDesc 256 64 + field atomDesc 168 4 ≤ cvaEnd ∧
        ∃ t u, peerSend w 1 (.job (qKey 1 0) 0) 3 (5 * 2 ^ 52) (field atomDesc 168 4) (natLe 8 (field atomDesc 320 64) ++ natLe 8 (field atomDesc 384 64))
          (field atomDesc 160 8) (field atomDesc 168 4) (bitOf atomDesc 172) = (.tag t, u))) ∧
    (∀ shadow, runs0 (fabState sendDesc shadow) 7 sendDesc fun w =>
      (dOp sendDesc = 0x71 ∧ sendPasses w sendDesc shadow = true ∧
        ∃ b u m v, cvaRead w firmwareAgent 1 (field sendDesc 256 64) (field sendDesc 192 32) = ((b, false), u) ∧ takeMseq u 1 5 0 0 = (m, v) ∧
          isShadow v 1 = shadow ∧ anyPort v = some 0 ∧ tblFreeKey v.fab.peers 65536 = some 0)) ∧
    (∀ n ∈ [0, 4], runs0 (fabState (mboxDesc n) false) 7 (mboxDesc n) fun w =>
      (field (mboxDesc n) 176 4 = n ∧ pinnedOk w 1 (field (mboxDesc n) 256 64) (64 + 4160 * 2 ^ n) .read = true ∧
        pinnedOk w 1 (field (mboxDesc n) 256 64) (64 + 4160 * 2 ^ n) .write = true ∧ mordOwned w 1 (field (mboxDesc n) 432 16) = true)) ∧
    (∀ op ∈ [0x73, 0x74, 0x75], runs0 (fabState (op + 2 ^ 176 + 7 * 2 ^ 224) false) 7 (op + 2 ^ 176 + 7 * 2 ^ 224) fun w =>
      (dOp (op + 2 ^ 176 + 7 * 2 ^ 224) = op ∧ isShadow w 1 = false ∧ ownedEpoch w 1 (field (op + 2 ^ 176 + 7 * 2 ^ 224) 224 32) ≠ none ∧
        field (op + 2 ^ 176 + 7 * 2 ^ 224) 176 16 ≠ 0)) := by
  have a : ready0 (fabState atomDesc false) 7 atomDesc = true ∧ ∀ h : Fin 24, atomPasses (begunAs (fabState atomDesc false) h) atomDesc = true := by decide +kernel
  have b : ∀ shadow, ready0 (fabState sendDesc shadow) 7 sendDesc = true ∧ ∀ h : Fin 24, dOp sendDesc = 0x71 ∧
      sendPasses (begunAs (fabState sendDesc shadow) h) sendDesc shadow = true := by decide +kernel
  have m : ∀ n ∈ [0, 4], ready0 (fabState (mboxDesc n) false) 7 (mboxDesc n) = true ∧ ∀ h : Fin 24, let w := begunAs (fabState (mboxDesc n) false) h
      field (mboxDesc n) 176 4 = n ∧ pinnedOk w 1 (field (mboxDesc n) 256 64) (64 + 4160 * 2 ^ n) .read = true ∧
        pinnedOk w 1 (field (mboxDesc n) 256 64) (64 + 4160 * 2 ^ n) .write = true ∧ mordOwned w 1 (field (mboxDesc n) 432 16) = true := by decide +kernel
  have o : ∀ op ∈ [0x73, 0x74, 0x75], ready0 (fabState (op + 2 ^ 176 + 7 * 2 ^ 224) false) 7 (op + 2 ^ 176 + 7 * 2 ^ 224) = true ∧ ∀ h : Fin 24,
      let w := begunAs (fabState (op + 2 ^ 176 + 7 * 2 ^ 224) false) h
      dOp (op + 2 ^ 176 + 7 * 2 ^ 224) = op ∧ isShadow w 1 = false ∧ ownedEpoch w 1 (field (op + 2 ^ 176 + 7 * 2 ^ 224) 224 32) ≠ none ∧
        field (op + 2 ^ 176 + 7 * 2 ^ 224) 176 16 ≠ 0 := by decide +kernel
  refine ⟨begun_at a.1 fun h => ⟨a.2 h, by decide, by decide, by decide, by decide, by decide, by decide, ?_⟩, fun x => begun_at (b x).1 fun h => ⟨((b x).2 h).1, ((b x).2 h).2, send_goes_on ((b x).2 h).2⟩,
    fun n hn => begun_at (m n hn).1 (m n hn).2, fun op ho => begun_at (o op ho).1 (o op ho).2⟩
  have h := a.2 h
  simp only [atomPasses] at h
  split at h
  · simp only [Bool.and_eq_true, decide_eq_true_eq] at h
    obtain ⟨x, hx⟩ := Option.isSome_iff_exists.1 h.1.1.2
    exact peer_leaves hx h.1.2 h.2
  · simp at h

/-- STEP_COMMIT of step 1 with one delta entry: its commit set at CVA 0x203000, its delta list at 0x205000. -/
def commitDesc : Nat := 0xF + 2 ^ 128 + 2 ^ 160 + 0x203000 * 2 ^ 192 + 0x205000 * 2 ^ 256

/-- The commit set: one range of state at 0x204000, the regions, 64 KiB of scratch at 0x210000, no partner, the report at 0x206000. -/
def commitBits : Nat :=
  0x204000 + 2 ^ 64 + 0x400000 * 2 ^ 128 + 0x600000 * 2 ^ 192 + 0x500000 * 2 ^ 256 + 0x210000 * 2 ^ 320 + 0x206000 * 2 ^ 448

/-- One page of state at CVA 0x220000, which the delta list names. -/
def pageEntry : Nat := 0x220000 + 2 ^ 64

/-- The ring with all of this. -/
def commitState : State :=
  putData (putData (putData (withRing 1 commitDesc) 0x203000 (natLe 64 commitBits)) 0x204000 (natLe 16 pageEntry)) 0x205000 (natLe 16 pageEntry)

/-- The checks of R589 before the tables are read. -/
def commitPasses (w : State) (d : Nat) : Bool :=
  let set := field d 192 64
  let delta := field d 256 64
  let nd := field d 160 12
  let k := commitSet (cvaBytes w 1 set 64).1
  let table := cvaBytes w 1 k.state (16 * k.nstate)
  let list := cvaBytes w 1 delta (16 * nd)
  decide (set % 64 = 0) && decide (delta % 16 = 0) && pinnedOk w 1 set 64 .read && pinnedOk w 1 delta (16 * nd) .read && cvaFree w 1 set 64 &&
    !(cvaBytes w 1 set 64).2 && decide (k.state % 16 = 0) && decide (k.nstate ≠ 0) && decide (k.nstate ≤ 256) && pinnedOk w 1 k.state (16 * k.nstate) .read &&
    rangesFree w (saParts w 1 k.state (16 * k.nstate) ++ (saParts w 1 delta (16 * nd) ++ saParts w 1 k.scratch 65536)) &&
    !table.2 && !list.2 && !reservedPages table.1 list.1

/-- Regions that answer nothing. -/
def noIo : CommitIo := ⟨noRegion, noRegion, noRegion, noRegion, noRegion, [], []⟩

/-- A STEP_COMMIT that is being carried out. -/
def committing : State := { commitState with
  q.jobs := [⟨1, 0, 0, 1, 0xF, 7, 0, 4, false, 0, .step ⟨0x203000, 1, ⟨[], []⟩, 0, 0, 0, [], 0, 0, 0⟩, none⟩] }

theorem witness_StepCommitsRun :
    (runs0 commitState 1 commitDesc fun w => commitPasses w commitDesc = true) ∧
    dOp commitDesc = 0xF ∧
    commitState.q.jobs.find? (fun j => decide (j.ctx = 1) && decide (j.queue = 0) && (commitOf j).isSome) = none ∧
    (committing.power.on = true ∧ (committing.q.jobs.find? (fun j => decide (j.ctx = 1) && decide (j.queue = 0) && (commitOf j).isSome)).isSome = true) ∧
    (let s := commitState
     let k := commitSet (natLe 64 commitBits)
     let parts := [statePart pageEntry]
     let list := natLe 16 pageEntry
     let ds := (entriesOf list (list.length / 16)).map deltaEntry
     let total := (parts.map (·.pages)).sum
     field commitDesc 128 32 ≠ 0 ∧ partsOk parts = true ∧ deltaOk parts ds = true ∧
       k.report % 64 = 0 ∧ pinnedOk s 1 k.scratch 65536 .write = true ∧ pinnedOk s 1 k.scratch 65536 .read = true ∧
       pinnedOk s 1 k.report 64 .write = true ∧ (∀ p ∈ parts, pinnedOk s 1 p.cva (p.pages * 4096) .read = true) ∧
       regionPlace s 1 k.mirror0 total false = some 4095 ∧ regionPlace s 1 k.mirror1 total false = some 5 ∧
       regionPlace s 1 k.ckpt total true = some 4096 ∧ k.partner = 0) := by
  have a : ready0 commitState 1 commitDesc = true ∧ ∀ h : Fin 24, commitPasses (begunAs commitState h) commitDesc = true := by decide +kernel
  refine ⟨begun_at a.1 a.2, ?_, ?_, ?_, ?_⟩ <;> decide +kernel

/-! ## Witnesses: tiers, translation and coherence -/

/-- Context 1 holds more than its quotas; one dirty line waits in a frame of the cache region that the placed region has taken. -/
def tiered : State := withNums { withRing 4 1 with mem.cache := [⟨0, 0x100, [0], [(0, 5)], 1⟩] } [(odKey 0x3000 1, 8)]

theorem witness_TiersAreKept :
    (withRing 4 1).power.on = true ∧
    (∀ f : Bool, let u := if f then withRing 4 1 else cutShare (withRing 4 1) 1
      overQuota u 1 (if f then 2 else 0) = true ∧ (1, f) ∉ u.tier.paused ∧ withdrawing u 1 = false ∧ ∀ m ∈ u.tier.moves, m.ctx ≠ 1) ∧
    nextDrain tiered = some ⟨0, 0x100, [0], [(0, 5)], 1⟩ ∧
    (let idle := tiered.mem.cache.filter (fun f => (tblFind tiered.cart.rows (rowKey f.frame)).isNone)
     3 * dirtyCap tiered ≤ 4 * dirtyCharge tiered ∧ leastDirty idle = some (0x100, 0) ∧
       idle.find? (fun x => decide (x.frame = 0x100)) = some ⟨0, 0x100, [0], [(0, 5)], 1⟩) := by
  have e : cutShare (withRing 4 1) 1 = withRing 4 1 := by
    have : ¬ shareFrames (withRing 4 1) 1 < occupancy (withRing 4 1) 1 := by decide +kernel
    simp only [cutShare, this, if_false]
  rw [e]
  refine ⟨rfl, ?_, ?_, ?_⟩ <;> decide +kernel

theorem witness_PfailSequence :
    (live.power.on = true ∧ live.tier.pfail = .idle) ∧ ({ live with tier.pfail := .asserted } : State).tier.pfail = .asserted ∧
    ({ live with tier.pfail := .persisted } : State).tier.pfail = .persisted ∧ ({ live with tier.pfail := .releasing } : State).tier.pfail = .releasing ∧
    live.boot.next = some 7 ∧ ({ live with boot.next := some 3 } : State).boot.next ≠ some 7 ∧
    (odGet live (odKey 0x3006 6) = 0 ∧ devState live = 1) ∧ odGet (withNums live [(odKey 0x3006 6, 1)]) (odKey 0x3006 6) = 1 := by decide +kernel

/-- A withdrawal of context 1 that waits for the acknowledgement of port 0, or for nothing. -/
def withdrawn (l : List Nat) : State := { withRing 3 1 with xlat.withdrawals := [(1, ⟨.unmap, 0x500, 1, 0, none, [], [], l, false⟩)] }

/-- A walk of die 32 for a page of context 1. -/
def walking (x : WalkFor) : State := { withRing 3 1 with xlat.walks := [⟨32, 1, 0x500, x⟩] }

theorem witness_WithdrawalsDrain :
    (withdrawn [0]).power.on = true ∧ (∃ w, tblFind (withdrawn [0]).xlat.withdrawals (1 : Ctx).toNat = some w ∧ (0 : Fin 8).val ∈ w.xlatInv) ∧
    (∃ w ∈ (withdrawn [0]).xlat.withdrawals, (0 : Fin 8).val ∈ w.2.xlatInv) ∧
    (∃ w, tblFind (withdrawn []).xlat.withdrawals 1 = some w ∧ drained (withdrawn []) 1 w = true) ∧
    ∀ x : WalkFor, (walksOf (withRing 3 1) 32).find? (fun w => decide (w.ctx = 1) && decide (w.vpn = 0x500)) = none ∧
      (walksOf (walking x) (32 : Fin 40).val).find? (fun w => decide (w.ctx = (1 : Ctx).toNat) && decide (w.vpn = (0x500 : BitVec 45).toNat)) =
        some ⟨32, 1, 0x500, x⟩ :=
  ⟨rfl, ⟨_, rfl, by decide⟩, ⟨_, List.mem_singleton.2 rfl, by decide⟩, ⟨_, rfl, by decide +kernel⟩, fun _ => ⟨rfl, rfl⟩⟩

theorem witness_StreamsGoOn :
    (∃ x f, streamOf (faulted 1) (5 : BitVec 16).toNat = some x ∧ x.fault = some f ∧ ctxActive (faulted 1) x.ctx = true) ∧
    ctxActive (withNums (faulted 1) [(odCtx 0x9100 1, 2)]) 1 = false ∧ (faulted 1).power.on = true :=
  ⟨⟨_, _, rfl, rfl, by decide +kernel⟩, by decide +kernel, rfl⟩

/-- A request of scribe core 0 (agent 344) at the first bytes of a T1 line. -/
def req1 : Req := ⟨344, 1, .sa 0x8000000002000, 0, none⟩

/-- A transaction at the home of that line. -/
def txn0 : Txn := ⟨.rdNc, 344, 1, 0, 0x8000000002000, 4, [], 0, 0, false, false, 0, 0, [], none, false, false, .agent, none⟩

/-- The line. -/
def line0 : Nat := 0x8000000002000 / 128

/-- Its home is busy with it. -/
def busy0 : State := { live with coh.busy := [(line0, txn0)] }

/-- Its page moves. -/
def moving0 : State := { live with tier.moves := [⟨none, 1, 0x200, 2, .dev (line0 * 128), .dev 0, some 0, false⟩] }

/-- A request of the host at a CVA of context 1, on port 0. -/
def hostReq1 : Req := ⟨336, 1, .host 0 false 0x200000, 0, none⟩

theorem witness_RequestsOpen :
    (live.power.on = true ∧ req1.agent.val ∉ live.coh.failed ∧ req1.ticket = none ∧ isAdapter req1.agent.val = false ∧ cutOver live = false) ∧
    (inStore live 0x8000000002000 16 = true ∧ (∀ k ∈ [ReqKind.rdNc, ReqKind.atom, ReqKind.roll], atomAligned { txn0 with kind := k } = true) ∧
      0x8000000002000 % 128 + 128 ≤ 128 ∧ fwdLine live line0 = line0) ∧
    (let u := countReq live line0 1 344
     tblFind u.coh.busy line0 = none ∧ askedBack u line0 = false ∧ bankFull u line0 = false ∧ writesHeld u (line0 * 128) = false) ∧
    (tblFind (countReq busy0 line0 1 344).coh.busy line0 ≠ none ∧ takesWrite .wrNc = true ∧
      writesHeld (countReq moving0 line0 1 344) (line0 * 128) = true) ∧
    (hostReq1.agent.val ∉ live.coh.failed ∧ hostReq1.ticket = none ∧ urzenState live (0 : Fin 8).val = 2 ∧ 336 ≤ hostReq1.agent.val) := by
  decide +kernel

/-- A request of a cluster cache in the network. -/
def asked (s : State) (k : NetKind) : State := { s with coh.net := [plainMsg k 0 line0] }

/-- A bank whose size is not stated is full where that many transactions, and one more, are open in it. -/
theorem witness_bank_full :
    bankFull { live with coh.busy := List.replicate (Config.bankRoom + 1) (line0, txn0) } line0 = true := by
  simp [bankFull, homeOf, bankOf]

theorem witness_CachedRequestsOpen : ∀ p ∈ [(NetKind.rdS, ReqKind.rdS), (.rdM, .rdM), (.upg, .upg)],
    (netFind (asked live p.1) p.1 0 line0 = some (plainMsg p.1 0 line0) ∧ (plainMsg p.1 0 line0).ticket = none ∧ fwdLine (asked live p.1) line0 = line0 ∧
      cutOver (asked live p.1) = false) ∧
    (let u := countReq (netDrop (asked live p.1) (plainMsg p.1 0 line0)) line0 0 0
     tblFind u.coh.busy line0 = none ∧ askedBack u line0 = false ∧ bankFull u line0 = false ∧ writesHeld u (line0 * 128) = false) ∧
    (netFind (asked busy0 p.1) p.1 0 line0 = some (plainMsg p.1 0 line0) ∧
      tblFind (countReq (netDrop (asked busy0 p.1) (plainMsg p.1 0 line0)) line0 0 0).coh.busy line0 ≠ none) ∧
    (live.power.on = true ∧ isAdapter hostReq1.agent.val = true ∧ hostReq1.agent.val ∉ live.coh.failed ∧ urzenState live (0 : Fin 8).val = 2 ∧
      urzenState live (hostReq1.agent.val - 336) = 2) := by decide +kernel

theorem witness_AtomicsCompute : (2 ^ 32 - 1 < 2 ^ (8 * 4) ∧ 2 ^ 64 - 1 < 2 ^ (8 * 8)) ∧ 2 ^ 128 - 1 < 2 ^ 128 := by decide

/-- The line as cluster 0 has it, in a state. -/
def cached (st : CState) (has : Bool) : CLine := ⟨st, has, List.replicate 128 7, false, 0, false, 1, none⟩

/-- Cluster 0 has the line in that state, and a message to it is in the network. -/
def answering (st : CState) (has : Bool) (m : NetMsg) : State :=
  { live with coh.caches := [(cacheKey 0 line0, cached st has)], coh.net := [m], coh.busy := [(line0, txn0)] }

theorem witness_CachesTakeAnswers :
    (∀ p ∈ [(CState.is, CState.s), (.is, .e), (.im, .m), (.sm, .m), (.om, .m)],
      let m := { plainMsg .data 0 line0 with grant := p.2, data := some (List.replicate 128 3) }
      cacheLine (answering p.1 false m) 0 line0 = some (cached p.1 false) ∧ netFind (answering p.1 false m) .data 0 line0 = some m) ∧
    (∀ st ∈ [CState.sm, .om], netFind (answering st true (plainMsg .grant 0 line0)) .grant 0 line0 = some (plainMsg .grant 0 line0) ∧ (cached st true).hasData = true) ∧
    (∀ st ∈ [CState.is, .im, .sm, .om], netFind (answering st true (plainMsg .retry 0 line0)) .retry 0 line0 = some (plainMsg .retry 0 line0)) ∧
    (let m := plainMsg .retry 344 line0
     cacheLine (answering .s true m) (344 : Fin 374).val line0 = none ∧ netFind (answering .s true m) .retry 344 line0 = some m) ∧
    (let m := plainMsg .ncDone 0 line0
     let k := plainMsg .copy 0 line0
     netFind (answering .s true m) .ncDone 0 line0 = some m ∧
       ∀ e ∈ [(answering .s true m, none), ({ answering .s true m with coh.net := [m, k] }, some k)],
         netFind e.1 .ncDone 0 line0 = some m ∧
         (netDrop e.1 m).coh.net.find? (fun m => decide (m.kind = .copy) && decide (m.agent = 0) && decide (m.line = line0)) = e.2) := by
  decide +kernel

theorem witness_CachesTakeSnoops :
    (∀ st ∈ [CState.s, .o], netFind (answering st true (plainMsg .inv 0 line0)) .inv 0 line0 = some (plainMsg .inv 0 line0)) ∧
    (∀ st ∈ [CState.m, .o, .e, .s], netFind (answering st true (plainMsg .recall 0 line0)) .recall 0 line0 = some (plainMsg .recall 0 line0)) ∧
    (∀ st ∈ [CState.m, .o, .e], ∀ k ∈ [NetKind.fwdS, .fwdM, .fwdNc],
      tblFind (answering st true (plainMsg k 0 line0)).coh.busy line0 = some txn0 ∧ txn0.reply = .agent ∧ supplies (cached st true).st = true ∧
        (cached st true).hasData = true ∧ netFind (answering st true (plainMsg k 0 line0)) k 0 line0 = some (plainMsg k 0 line0)) ∧
    ({ txn0 with reply := .urzen 0 0 0 } : Txn).reply ≠ .agent ∧
    (let s := answering .mi true (plainMsg .wbAck 0 line0)
     netFind s .wbAck 0 line0 = some (plainMsg .wbAck 0 line0) ∧
       s.coh.caches.all (fun e => e.1 == cacheKey 0 line0 || !decide (e.1 / 2 ^ 45 = 0) || e.2.sent) = true) := by decide +kernel

theorem witness_HomesTakeReplies :
    (isAdapter (0 : Fin 344).val = false ∧ cutOver busy0 = false ∧
      ∀ k ∈ [NetKind.wb, .evict, .fwdAck, .invAck, .recallAck, .compack], netFind (asked busy0 k) k 0 line0 = some (plainMsg k 0 line0)) ∧
    (let s := { live with coh.busy := [(line0, { txn0 with kind := .rdM, agent := 0, owner := some 0 })] }
     ∃ t, tblFind s.coh.busy line0 = some t ∧ t.owner = some 0 ∧ t.agent = 0 ∧ takesState t.kind = true ∧ blocked t = false) ∧
    (isAdapter (336 : Fin 344).val = true ∧ urzenState live (336 - 336) = 2 ∧ (336 : Fin 344).val ∉ live.coh.failed ∧
      inStore live (line0 * 128) 128 = true ∧ inStore live ((2 ^ 45 - 1) * 128) 128 = false) ∧
    ((336 : Fin 344).val - 336, line0) ∈ ({ live with fab.snoops := [(0, line0)] } : State).fab.snoops ∧
    (∀ k : ReqKind, let s : State := { live with coh.busy := [(line0, { txn0 with kind := k, owner := some 336 })], fab.snoops := [(0, line0)] }
     ∃ t, tblFind s.coh.busy line0 = some t ∧ t.owner = some (336 : Fin 344).val ∧ ((336 : Fin 344).val - 336, line0) ∈ s.fab.snoops ∧ t.kind = k) ∧
    (let s := { live with coh.busy := [(line0, { txn0 with kind := .rdS, agent := 336, supplied := true })] }
     ∃ t, tblFind s.coh.busy line0 = some t ∧ t.supplied = true ∧ urzenState s 0 = 2 ∧ t.agent = 336 ∧ takesState t.kind = true ∧ blocked t = false) :=
  ⟨by decide +kernel, ⟨_, rfl, rfl, rfl, rfl, rfl⟩, by decide +kernel, by decide +kernel, fun _ => ⟨_, rfl, rfl, List.mem_singleton.2 rfl, rfl⟩,
    ⟨_, rfl, rfl, by decide +kernel, rfl, rfl, rfl⟩⟩

/-- Nib engine 0 of cluster 0 of die 0. -/
def nib0 : Eng := ⟨.nib, 0, 0, 0⟩

theorem witness_EnginesLoadAndStore :
    cacheAgent nib0 = some 0 ∧ inStore live (2 ^ 52 - 128) 1 = false ∧
    (0x8000000002000 % 128 + (127 : BitVec 7).toNat < 128 ∧ inStore live 0x8000000002000 128 = true ∧ copyOf live nib0 line0 = none) ∧
    (∀ st ∈ [CState.m, .o, .e, .s], loadHits (cached st true).st = true ∧ clinePoison (cached st true) = false ∧
      cacheLine (answering st true (plainMsg .hot 0 0)) 0 line0 = some (cached st true) ∧ devState (answering st true (plainMsg .hot 0 0)) ≠ 3) ∧
    devState (withNums live [(odKey 0xB000 1, 3)]) = 3 ∧ cacheLine live 0 line0 = none ∧
    (([1] : Bytes) ≠ [] ∧ 0x800000000207F % 128 + ([1] : Bytes).length ≤ 128 ∧ inStore live 0x800000000207F 1 = true ∧ cutOver live = false ∧
      ∀ p ∈ holdPath nib0, heldAt live p line0 = none) := by decide +kernel

theorem witness_HotLinesAndTimeouts :
    (let m := { plainMsg .hot 344 line0 with ctx := 1, ticket := some 200 }
     ({ live with coh.net := [m] } : State).coh.net.find? (fun m => decide (m.kind = .hot) && decide (m.agent = 344) && decide (m.line = line0) &&
       decide (m.ctx = 1) && decide (m.ticket = some 200)) = some m ∧ mayArrive { live with coh.net := [m] } m = true) ∧
    ∃ x ∈ ({ live with fab.snoops := [(7, line0)] } : State).fab.snoops, x.1 = (7 : Fin 8).val :=
  ⟨by decide +kernel, (7, line0), List.mem_singleton.2 rfl, rfl⟩

theorem witness_ScopesAreServed :
    (live.power.on = true ∧ cutOver live = false ∧ cacheAgent nib0 = some 0) ∧
    (mordGet { live with q.mordants := [(32, ⟨0, 0, 0, 2 ^ 63⟩)] } (32 : BitVec 16).toNat).subs.testBit (63 : Fin 64).val = true ∧
    (mordGet live (32 : BitVec 16).toNat).subs.testBit (63 : Fin 64).val = false := by decide +kernel

/-- A SEARCH of two queries on a graph of one node, the first of which runs. -/
def search0 : SearchSt := ⟨2, 0x203000, 0x207000, 1, 0, 1, 0x204000, 0x205000, 0x206000, 1, [0, 0], locDevice live, 256, 4096, 1, [], [], false⟩

/-- A query in a hardware context: 16 candidates wide. -/
def hw0 : QuillCtx :=
  ⟨16, 0, 0, 1, 16, true, 0, 1, 4096, 0, 0, 0x209000, 0, [], [], [], true, [], none, false, false, false, 0, 0, 0, 0, 0, 0, 0⟩

/-- The device that runs it on hardware context 0 of Quill 0. -/
def searching (x : QuillCtx) : State :=
  { withRing 6 1 with q.jobs := [⟨1, 0, 0, 6, 0x60, 7, 0, 4, false, 0, .search search0, none⟩], q.quills := [(0, x)] }

theorem witness_QuillsWalk :
    (∃ j b, searchJob (searching hw0) 1 0 0 = some (j, b) ∧ ((1 : BitVec 16).toNat = b.next ∧ (1 : BitVec 16).toNat < b.nq) ∧
      ctxActive (searching hw0) 1 = true ∧ admitting (searching hw0) = true ∧ quillUp (searching hw0) 383 = true ∧
      tblFind (searching hw0).q.quills (hwKey 383 63) = none ∧ locContains b.place (quillLoc (searching hw0) 383) = true ∧
      mayQuery (searching hw0) 1 = true) ∧
    (∀ x ∈ [{ hw0 with started := false }, { hw0 with listOf := some 0 }, hw0, { hw0 with todo := [0] }],
      tblFind (searching x).q.quills (hwKey 0 0) = some x ∧ (searchJob (searching x) (x.qkey / 16) (x.qkey % 16) x.idx).isSome = true ∧ x.ended = false) ∧
    (widens { hw0 with ended := true } search0.wlim = true ∧ search0.wlim = 256) ∧
    (let x := { hw0 with ended := true, widen := false }
     widens x search0.wlim = false ∧ cutOver (searching x) = false ∧ cvaTakes (searching x) (x.qkey / 16) x.result (resultBytes x).length = true ∧
       cvaTakes (heldBy0 (searching x) (t1Base + 0xB000)) (x.qkey / 16) x.result (resultBytes x).length = false) :=
  ⟨⟨_, _, rfl, by decide, by decide +kernel, by decide +kernel, by decide +kernel, by decide +kernel, by decide +kernel, by decide +kernel⟩,
    by decide +kernel, by decide +kernel, by decide +kernel⟩

/-! ## Witnesses: cartridges -/

/-- The modulus of an RSA-3072 key made for these tests. -/
def modulus0 : Nat :=
  0xD15A965A0CA057A0D5C8188B84899A1C1D6DB793B7DF67637A6179355A8034AF2CFD695D475DCAA8CDA0F4460B6ED56E069B8DD81E235A536C0A59A94B70233E * 2 ^ 2560 +
  0xF5FA43D0444F035F5507EED47160450F50F2EC4611CDC54B5294F5445A6489B882AD8F57839FE7535B883010816095903F963EBD3EF9ED496B6DB5D2D715C32D * 2 ^ 2048 +
  0xBDCA6B90AD1A55E06CD16384DE96CA4236289169CA26718C47BFB927EDB43B44DCEA61CA4E92E4C30FD2B4ED5B4A2389A79B4402036C74D326EBC5C5AF137439 * 2 ^ 1536 +
  0x480581AB268159524F10AF27A3593D1BDB9E1556A3EE09D18C4DE65B5A6E1CF0B3EB38E17D9841CB0DA4B9F8A0A0A07A1D4CC856CADCC74C78EEDD0F4A8BEAF8 * 2 ^ 1024 +
  0x552ED2CA2BEB0B95C7FDDD7B4CACFCFE4E1D0D4FA3C831528D6789440AD3163E4B862DB6DDD9DE94FEE64AD67570618F71232AEE4F6E5BE20B52EA6CFD3A4B39 * 2 ^ 512 +
  0xC5981D99D01655ABA27CA812B88DA98E49FCE00EC0EF0C691DE8756743ACADA3AACC944CAD0EC30669CB6BB9EB0DD9A98C93442A21A1CFA38E34B692ADC7ADCF

/-- Its RSASSA-PSS signature over 32 bytes of 0x11, the certificate hash 7 and a wear count of 0. -/
def sig0 : Nat :=
  0x42673614000108AE974AA6DF98AAEF5ED6EDD7192BF65CBA0233A4B1E8DB62FB1312402CDAC6920EF95044BB8BD8493DEE52B834F10C0CF6E927F50AEBE95C38 * 2 ^ 2560 +
  0x1A7A3327EB3986EBA494734C313DDA567F29B8543AF5C03850AA7363C42AF46421472F7BA8D98BC7C92EB610C14290A5EEF33F69DDC6ED74854194D31EEB96E2 * 2 ^ 2048 +
  0x929C78506708B2789969B34B779A78152A2E2AB5A19FA207525A8DAF47DFC0A14AC46FB13C4BE60A17653415FD2A861AADF5E12281E2C96E7944B0FA73CC250F * 2 ^ 1536 +
  0x51A141541C3A87DF45ACF3EC3F34F317DB5563E1AFEE41FD0AB7B0FE462C0F6329DB4CEA58E93CB5A6F5E236EB52EEC1A8FCD9161E471B427C2C8CD6FF894D04 * 2 ^ 1024 +
  0xD86ECA96387790D5F8B1AC5BE9EB64D9FAAD647AE232BF9D9648DF044C776D2022BFF7A93E9315312BC2F19F484A890DE8C37AF869D2BB921C00DFB11DD84EE9 * 2 ^ 512 +
  0xA4FDC121F496500D475D0AD8B997DBC817958D41BF4E34B29C9B137D993C924F0594949649C5D5377845DB81846F56311BDEC6C8EB24DD90908D1E6976409DFD

/-- Slot 0 in its identity check, with its certificate read and the nonce sent; `rated` full writes of endurance; inserted after stage 2 or
not. -/
def checking (rated : Nat) (inserted : Bool) : State :=
  setCart (withNums live [(odKey 0x8001 0, 1)]) 0
    { emptySlot with present := true, powered := true, certHash := 7, modulus := modulus0, rated := rated, inserted := inserted,
                     nonce := some (List.replicate 32 0x11) }

/-- A sound certificate of hash 7. -/
def cert0 : CertInfo := ⟨true, Config.cartRoot, true, 1, 7, 0, [0x41]⟩

/-- The signature has been checked. -/
def checked : State := withNums live [(odKey 0x8001 0, 1), (odKey 0x8005 0, 1)]

/-- A membership record of slot 0. -/
def member (generation : Nat) (serial : Bytes) : Membership := ⟨serial, 0, 0, 0, 0, generation⟩

theorem witness_signature : rsaOk modulus0 (List.replicate 32 0x11 ++ natBe 32 7 ++ natLe 8 0) (natBe 384 sig0) = true := by decide +kernel

theorem witness_CartridgesAreTaken :
    (slotState State.reset (0 : Fin 32).val = 0 ∧ State.reset.power.on = false) ∧
    (slotState live (0 : Fin 32).val = 0 ∧ live.power.on = true ∧ live.boot.next = some 7 ∧ 2 ≤ 7) ∧
    (slotState checked 0 = 1 ∧ (cartSlot checked 0).nonce = none ∧ ¬({ cert0 with sigsOk := false } : CertInfo).sigsOk = true) ∧
    (slotState (blobSet checked (odKey 0x8200 1) (natBe 32 7)) 0 = 1 ∧ (cartSlot (blobSet checked (odKey 0x8200 1) (natBe 32 7)) 0).nonce = none ∧
      cert0.certHash.toNat ∈ revokedCerts (blobSet checked (odKey 0x8200 1) (natBe 32 7))) ∧
    (cert0.sigsOk = true ∧ cert0.rootHash = Config.cartRoot ∧ cert0.extOk = true ∧ cert0.certHash.toNat ∉ revokedCerts checked) ∧
    (∀ r ∈ [0, 1], ∀ i : Bool, let s := checking r i
      mediaUp s (0 : Fin 32).val = true ∧ (cartSlot s 0).nonce = some (List.replicate 32 0x11) ∧ slotState s 0 = 1 ∧
      (cartSlot s 0).modulus = modulus0 ∧ (cartSlot s 0).certHash = 7 ∧ (cartSlot s 0).rated = r ∧ (cartSlot s 0).inserted = i) ∧
    (live.power.on = true ∧ mediaUp (withNums live [(odKey 0xA101 48, 1)]) (0 : Fin 32).val = false ∧ mediaUp checked 0 = true ∧
      mediaUp (blobSet checked (odKey 0x8200 1) (natBe 32 7)) 0 = true) ∧
    (rsaOk modulus0 (List.replicate 32 0x11 ++ natBe 32 7 ++ natLe 8 (0 : BitVec 64).toNat) [] = false ∧
      rsaOk modulus0 (List.replicate 32 0x11 ++ natBe 32 7 ++ natLe 8 (0 : BitVec 64).toNat) (natBe 384 sig0) = true ∧
      lifeOf 0 (0 : BitVec 64).toNat = 0 ∧ lifeOf 1 (0 : BitVec 64).toNat ≠ 0) ∧
    (slotState checked 0 = 1 ∧ odGet checked (odKey 0x8005 0) = 1) ∧
    ((member 0 (0 :: Config.serial)).serial ≠ Config.serial ∧ (member 0 Config.serial).serial = Config.serial ∧
      expected (setCart checked 0 { cartSlot checked 0 with record := some (member 0 Config.serial) }) 0 (member 0 Config.serial) = some 4 ∧
      expected (setCart checked 0 { cartSlot checked 0 with record := some (member 1 Config.serial) }) 0 (member 1 Config.serial) = none) ∧
    (cartSlot (writeRecordOf live 0 none) 0).writing = some none := by
  refine ⟨by decide +kernel, by decide +kernel, by decide +kernel, by decide +kernel, ⟨rfl, rfl, rfl, by decide +kernel⟩, by decide +kernel,
    by decide +kernel, ⟨by decide +kernel, witness_signature, by decide +kernel, by decide +kernel⟩, by decide +kernel, ⟨?_, rfl, ?_, ?_⟩, by decide +kernel⟩
  · exact fun h => absurd (congrArg List.length h) (by simp [member])
  · rfl
  · rfl

/-- Every slot that serves a position is a MEMBER. -/
def carts : State := withNums (withRing 4 1) (nominalServing.map (fun e => (odKey 0x8001 e.2, 4)))

/-- Slots that have failed besides. -/
def failedSlots (l : List Nat) : State := withNums carts (l.map (fun n => (odKey 0x8001 n, 10)))

/-- A unit of zeros. -/
def unit0 : Bytes := List.replicate 4096 0

/-- A row under write, which waits for some slots. -/
def rowUnder (l : List Nat) : RowWrite := ⟨0x100, [(0, 1)], unit0, l⟩

/-- Slot 27 fills position 0 of group A. -/
def filling (st : Nat) (src : Option Nat) : State :=
  setCart (withNums carts [(odKey 0x8001 27, st), (odKey 0x8001 0, 6)]) 27 { emptySlot with present := true, pos := some (0, 0), source := src }

theorem witness_CartridgeRowsMove :
    carts.power.on = true ∧
    (let l : Line := 0x2000
     let f := l.toNat / 32
     let gone (errs : List (Fin 10)) :=
       (List.range 10).filter (fun p => (missingAt carts (grpOf f) (rowOf2 f)).contains p || (errs.map (·.val)).contains p)
     let p := posOf (rowOf2 f) (f % 8)
     inT2 (l.toNat * 128) 128 = true ∧ frameOwner carts f ≠ none ∧ lineCached carts l.toNat = false ∧ tblFind carts.cart.rows (rowKey f) = none ∧
       groupsUp carts = true ∧ p = 0 ∧ gone [] = [] ∧ gone [0, 9] = [0, 9] ∧ gone [0, 8, 9] = [0, 8, 9]) ∧
    (∀ e ∈ [([], 1), ([0], 2), ([0, 1, 4], 4)], ∀ s, s = failedSlots e.1 →
      servedPos s (28 : Fin 32).val = some (0, 9) ∧ slotReads s 28 (3 : BitVec 30).toNat = true ∧ tblFind s.cart.rows (0 * 2 ^ 30 + 3) = none ∧
        cutOver s = false ∧ (addOnce (missingAt s 0 3) 9).length = e.2) ∧
    (let good : BitVec 128 := BitVec.ofNat 128 (crc32c unit0 + 3 * 2 ^ 34)
     crc32c unit0 = field good.toNat 0 32 ∧ field good.toNat 34 30 = (3 : BitVec 30).toNat ∧ crc32c unit0 ≠ field (0 : BitVec 128).toNat 0 32) ∧
    (∀ l ∈ [[3], [3, 4]], ({ carts with cart.rows := [(2 ^ 30 + 5, rowUnder l)] } : State).cart.rows.find?
      (fun e => decide (e.1 % 2 ^ 30 = (5 : BitVec 30).toNat) && e.2.waitFor.contains (3 : Fin 32).val) = some (2 ^ 30 + 5, rowUnder l)) ∧
    ((rowUnder [3]).waitFor.filter (· != 3) = [] ∧ (rowUnder [3, 4]).waitFor.filter (· != 3) ≠ []) ∧
    (([3, 4] : List Nat).filter (· != 3) ≠ [] ∧ ([3] : List Nat).filter (· != 3) = [] ∧
      ∀ l ∈ [[3], [3, 4]], (3 : Fin 32).val ∈ ({ carts with tier.jwrites := l } : State).tier.jwrites) ∧
    (slotCounts (slotState carts (30 : Fin 32).val) = true ∧ slotCounts (slotState carts (31 : Fin 32).val) = false ∧
      mediaUp carts (30 : Fin 32).val = true ∧ mediaUp (withNums carts [(odKey 0xA101 55, 1)]) (30 : Fin 32).val = false) ∧
    (∀ st ∈ [7, 8], ∀ row ∈ [0, 2 ^ 30 - 2], let s := withNums (filling st none) [(odKey 0x8103 27, row)]
      s.cart.rows.find? (fun e => decide (e.1 % 2 ^ 30 = row) && e.2.waitFor.contains (27 : Fin 32).val) = none ∧ cutOver s = false ∧
      mediaUp s 27 = true ∧ (cartSlot s 27).pos = some (0, 0) ∧ slotState s 27 = st ∧ rowsDone s 27 = (BitVec.ofNat 30 row).toNat ∧ row + 1 < 2 ^ 30) ∧
    (odGet (withNums carts [(odKey 0x8000 4, 24)]) (odKey 0x8000 4) ≠ 0 ∧ ({ carts with cart.scrubTwice := true } : State).cart.scrubTwice = true ∧
      tblFind carts.cart.rows (2 * 2 ^ 30 + (2 ^ 30 - 1 : BitVec 30).toNat) = none) ∧
    ((cartSlot (filling 7 none) (27 : Fin 32).val).pos = some (0, 0) ∧ cutOver (filling 7 none) = false ∧ slotState (filling 7 none) 27 = 7) ∧
    ((cartSlot (filling 8 (some 0)) 27).source = some 0 ∧ slotState (filling 8 (some 0)) 27 = 8 ∧ slotState (filling 8 (some 0)) 0 = 6 ∧
      mediaUp (filling 7 none) 27 = true ∧ mediaUp (filling 8 (some 0)) 27 = true) := by
  refine ⟨rfl, ?_, ?_, ?_, ?_, ?_, ?_, ?_, ?_, ?_, ?_, ?_⟩
  · decide +kernel
  · simp only [forall_eq]; decide +kernel
  all_goals decide +kernel

/-- Slot 0 in a state; hot spare 27 is SPARE or not; group A in a state. -/
def slotAs (st spare group : Nat) : State :=
  withNums carts [(odKey 0x8001 0, st), (odKey 0x8001 27, spare), (odKey 0x8010 0, group)]

/-- Slot 0 is the target of a rebuild, evacuated from slot 1 or not. -/
def targetAs (src : Option Nat) : State := setCart (slotAs 7 0 0) 0 { emptySlot with present := true, pos := some (0, 0), source := src }

theorem witness_SlotsAreCommanded :
    (∀ st ∈ List.range 13, slotState (slotAs st 5 0) (0 : Fin 32).val = st) ∧ carts.power.on = true ∧ dictUp (slotAs 0 5 0) = true ∧
    (∀ st ∈ [1, 2, 3, 4, 5, 6, 7, 8, 9, 11], st ∉ [0, 10, 12]) ∧
    (cartSlot (setCart State.reset 0 { emptySlot with present := true }) 0).present = true ∧
    (∀ st ∈ [4, 6, 9], servedPos (slotAs st 0 0) 0 = some (0, 0) ∧ targetOf (slotAs st 0 0) 0 = none ∧ freeSpare (slotAs st 0 0) 0 = none ∧
      targetOf (slotAs st 5 1) 0 = none ∧ freeSpare (slotAs st 5 1) 0 = some 27 ∧ groupState (slotAs st 5 1) 0 ≠ 0 ∧
      targetOf (slotAs st 5 0) 0 = none ∧ freeSpare (slotAs st 5 0) 0 = some 27 ∧ groupState (slotAs st 5 0) 0 = 0) ∧
    (slotState (targetAs (some 1)) 0 = 7 ∧ (cartSlot (targetAs (some 1)) 0).source = some 1) ∧
    (4 ≠ 7 ∧ 4 ≠ 8 ∧ targetOf (slotAs 4 5 0) 0 = none) ∧
    (∀ st ∈ [4, 6, 9], ∀ k ∈ [7, 8], let s := setCart (slotAs st k 0) 27 { emptySlot with present := true, pos := some (0, 0), source := some 0 }
      slotState s 0 = st ∧ servedPos s 0 = some (0, 0) ∧ targetOf s 0 = some 27 ∧ slotState s 27 = k ∧ dictUp s = true) := by decide +kernel

/-! ## Witnesses: links and the fabric -/

/-- Link 0 is trained with eight lanes, all its die's spares left or none. -/
def trained (used : Nat) : State := setLink { live with fab.sparesUsed := [(linkDie 0, used)] } 0 { idleLink with lanes := 8 }

/-- A flit of a SEQ. -/
def flitOf (seq : Nat) : Bytes := flitBytes 1 seq 0 []

theorem witness_LinksRun :
    live.power.on = true ∧ (linkState live (0 : Fin 24).val ≠ 0 ∧ linkState live (0 : Fin 24).val ≠ 4) ∧
    (linkState live (16 : Fin 24).val ≠ 0 ∧ linkState live (16 : Fin 24).val ≠ 4) ∧
    (∀ seq ∈ [0, 1, 32767, 32768, 65535], (flitOf seq).length = 256 ∧ leAt (flitOf seq) 248 4 = crc32c ((flitOf seq).take 248) ∧
      field (leAt (flitOf seq) 0 8) 8 16 = seq) ∧
    ((linkOf live 0).rxSeq = 0 ∧ (32767 + 65536 - 0) % 65536 < 2 ^ 15 ∧ 2 ^ 15 ≤ (32768 + 65536 - 0) % 65536) ∧
    ((7 : Fin 8).val < fullWidth 0 ∧ ¬(7 : Fin 8).val < fullWidth 16 ∧ ∀ u ∈ [3, 4], (linkOf (trained u) 0).lanes ≠ 0 ∧ linkState (trained u) 0 = 2) ∧
    (0 < sparesLeft (trained 3) (linkDie 0) ∧ sparesLeft (trained 4) (linkDie 0) = 0) ∧
    (linkState (trained 4) 0 ≤ 3 ∧ (7 : Fin 9).val < (linkOf (trained 4) 0).lanes) ∧ identTime live = true ∧
    (∀ l : Fin 24, opticalUp live l.val = true) ∧ opticalUp (withNums live [(odKey 0xA101 56, 1)]) (0 : Fin 24).val = false ∧
    (∀ st ∈ [0, 4], let s := withNums live [(linkOd 0 0, 1), (linkOd 0 1, st)]
     identTime s = true ∧ odGet s (linkOd 0 0) ≠ 0 ∧ linkState s 0 = st) ∧
    (widthFor 0 (3 : Fin 9).val = 0 ∧ widthFor 0 (4 : Fin 9).val ≠ 0) := by decide +kernel

/-- An export window of context 1 over its first T1 page, for context 9 of node 5, with every right. -/
def export0 : Bytes := natLe 48 (2 + 2 ^ 12 + 7 * 2 ^ 14 + 2 ^ 32 + 5 * 2 ^ 44 + 9 * 2 ^ 64 + 3 * 2 ^ 80 + t1Base * 2 ^ 96 + 2 * 2 ^ 160 + 8 * 2 ^ 224)

/-- Context 1 exports them under window 2; request TAG 7 of its own is outstanding; T3 request TAG 6 of port 0 too; mailbox 0 is open or not. -/
def peering (ptype : Nat) (box : Bool) : State :=
  { withNums (withRing 4 1) [(odCtx 0x6200 1, 77), (odKey 0x6000 1, 0)] with
    blobs := [(odCtx 0x6300 2, export0)],
    fab.peers := [(7, ⟨.job 16 0, 0, 1, ptype, 0, 5, 0, 4, 0, 0⟩)],
    fab.t3 := [(t3Key 0 6, .job 16 0)],
    fab.mailboxes := if box then [(mboxKey 1 0, ⟨0x210000, 4, 32, 0, []⟩)] else [] }

/-- A packet on port 0 from context 9 of node 5, with TAG 7, for window 2 under an epoch. -/
def packet0 (ptype epoch len aop w : Nat) : FabIn :=
  ⟨0, false, BitVec.ofNat 256 (fabHdr ptype 0 1 0 5 9 7 2 0 epoch t1Base (len - 1) aop w 0 0), List.replicate 16 1⟩

/-- The first packet of a message of `len` bytes to context 1. -/
def message0 (len off : Nat) : FabIn := ⟨0, false, BitVec.ofNat 256 (fabHdr 0x20 0 1 0 5 9 7 1 0 0 off (len - 1) 0 0 0 77), List.replicate 16 1⟩

/-- The entry of context 1 over its first T1 page. -/
def t1Entry : RangeEntry := ⟨0x100, 2, .device, true, true, true, true, false, 2 ^ 39, 0⟩

theorem witness_PacketsAreTaken :
    (peering 1 true).power.on = true ∧
    (∀ p ∈ [packet0 1 8 16 0 0, packet0 2 8 16 0 0, packet0 3 8 16 1 4, packet0 3 8 16 10 8],
      fabOpen (peering 1 true) p = true ∧ cutOver (peering 1 true) = false ∧ devState (peering 1 true) ≠ 3 ∧
        fDnode p.hdr.toNat = nodeNo (peering 1 true) ∧ admitting (peering 1 true) = true) ∧
    (let h := (packet0 1 8 16 0 0).hdr.toNat
     let s := peering 1 true
     let u : State := { s with xlat.caches := [(linkDie 0, 1, t1Entry)] }
     saEntry s 1 (fOff h) = some t1Entry ∧ (∀ r : Right, hasRight t1Entry r = true) ∧ rangeHit s (linkDie 0) 1 0x100 = false ∧
       s.xlat.walks.any (fun y => decide (y.die = linkDie 0) && sameLine y.waiter { txn0 with reply := .fabric 0 h }) = false ∧
       (let v : State := { s with xlat.walks := [⟨linkDie 0, 1, 0x100, .request { txn0 with reply := .fabric 0 h } none⟩] }
        v.xlat.walks.any (fun y => decide (y.die = linkDie 0) && sameLine y.waiter { txn0 with reply := .fabric 0 h }) = true) ∧
       rangeHit u (linkDie 0) 1 0x100 = true ∧ admitting u = true ∧ exportCheck u h (fLen h) .read = .inl (fabWin export0)) ∧
    (let h (e : Nat) := (packet0 1 e 16 0 0).hdr.toNat
     fType (h 8) = 1 ∧ fOff (h 8) % 128 + fLen (h 8) ≤ 128 ∧ inStore (peering 1 true) (fOff (h 8)) (fLen (h 8)) = true ∧
       exportCheck (peering 1 true) (h 8) (fLen (h 8)) .read = .inl (fabWin export0) ∧ exportCheck (peering 1 true) (h 9) 16 .read = .inr .range) ∧
    (let p := packet0 2 8 16 0 0
     fType p.hdr.toNat = 2 ∧ fLen p.hdr.toNat ≤ p.data.length ∧ exportCheck (peering 1 true) p.hdr.toNat 16 .write = .inl (fabWin export0)) ∧
    (∀ e ∈ [(1, 4), (10, 8)], let p := packet0 3 8 16 e.1 e.2
      fType p.hdr.toNat = 3 ∧ field p.hdr.toNat 192 8 = e.1 ∧ field p.hdr.toNat 200 4 = e.2 ∧ fOff p.hdr.toNat % e.2 = 0 ∧ 16 ≤ p.data.length ∧
        exportCheck (peering 1 true) p.hdr.toNat e.2 .atomic = .inl (fabWin export0)) ∧
    (∀ e ∈ [(1, 0x11), (2, 0x12), (3, 0x13), (0x20, 0x21)], let p := packet0 e.2 8 16 0 0
      fabOpen (peering e.1 true) p = true ∧ fType p.hdr.toNat = e.2 ∧ fDnode p.hdr.toNat = nodeNo (peering e.1 true) ∧
        ∃ r, tblFind (peering e.1 true).fab.peers (fTag p.hdr.toNat) = some r ∧ r.ptype = e.1) ∧
    (∃ r, tblFind (peering 1 true).fab.peers (7 : BitVec 16).toNat = some r ∧ r.ptype ≠ 0x45) ∧
    (∀ box, ∀ e ∈ [(4096, 0), (1, 0)], let p := message0 e.1 e.2
      let s := peering 1 box
      fabOpen s p = true ∧ fType p.hdr.toNat = 0x20 ∧ cutOver s = false ∧ fDnode p.hdr.toNat = nodeNo s ∧ ctxState s (fWid p.hdr.toNat) ≠ 2 ∧
        fOff p.hdr.toNat = 0 ∧ fLen p.hdr.toNat = e.1 ∧ odGet s (odCtx 0x6200 (fWid p.hdr.toNat)) = field p.hdr.toNat 224 32 ∧
        tblFind s.fab.mailboxes (mboxKey (fWid p.hdr.toNat) (fMbx p.hdr.toNat)) = (if box then some ⟨0x210000, 4, 32, 0, []⟩ else none) ∧
        fLen p.hdr.toNat ≤ 4096 ∧ fOff p.hdr.toNat < fLen p.hdr.toNat ∧ cvaFree s 1 0x210000 4 = true) ∧
    (tblFind (peering 1 true).fab.t3 (t3Key (0 : Fin 8).val (6 : BitVec 16).toNat) = some (.job 16 0) ∧ urzenState (peering 1 true) 0 = 2) := by
  refine ⟨rfl, ?_, ⟨by decide +kernel, fun r => by cases r <;> rfl, by decide +kernel, by decide +kernel, by decide +kernel, by decide +kernel,
    by decide +kernel, by decide +kernel⟩,
    ?_, ?_, ?_, ?_, ⟨_, rfl, by decide⟩, ?_, by decide +kernel⟩
  · decide +kernel
  · decide +kernel
  · decide +kernel
  · decide +kernel
  · intro e he
    simp only [List.mem_cons, List.not_mem_nil, or_false] at he
    rcases he with rfl | rfl | rfl | rfl <;> exact ⟨by decide +kernel, by decide +kernel, by decide +kernel, ⟨_, rfl, rfl⟩⟩
  · decide +kernel

/-- A packet of the fabric manager. -/
def mgt (ptype status : Nat) (data : Bytes) : FabIn := ⟨0, true, BitVec.ofNat 256 (fabHdr ptype status 1 0 5 0 7 0 0 0 0 0 0 0 0 0), data⟩

/-- An import window of context 1 over `pages` pages of node 5, under an epoch. -/
def importOf (pages epoch : Nat) : Bytes :=
  natLe 48 (2 * 2 ^ 12 + 7 * 2 ^ 14 + 2 ^ 32 + 5 * 2 ^ 44 + 5 * 2 ^ 52 * 2 ^ 96 + pages * 2 ^ 160 + epoch * 2 ^ 224)

/-- Context 1 waits for region 7, or owns nothing; an OWN_REL of it waits for its acknowledgement. -/
def acquiring (b : Bool) : State :=
  { peering 0x45 true with
    blobs := [(odCtx 0x6300 0, importOf 3 4)],
    q.jobs := if b then [⟨1, 0, 0, 7, 0x73, 7, 0, 0, false, 0, .own 7, none⟩] else [] }

/-- The window that a WINDOW_SET of some bytes puts in place. -/
def setWin (b : Bytes) : FabWin := fabWin (windowBytes (fabWin (padTo 48 b)))

theorem witness_FabricManagerIsObeyed :
    ((acquiring true).power.on = true ∧ ∀ p ∈ [0x40, 0x41, 0x42, 0x44, 0x48, 0x4F], mgtOk (acquiring true) (mgt p 0 []) p = true) ∧
    ((leAt (natLe 2 4096) 0 2 = 4096 ∧ leAt (natLe 2 64) 0 2 / 64 ≠ odGet (acquiring true) (odKey 0x6000 5)) ∧
      (let s := withNums (acquiring true) [(odKey 0x6000 2, 0)]
       leAt (natLe 2 63) 0 2 / 64 = odGet s (odKey 0x6000 5) ∧ odGet s (odKey 0x6000 2) = 0 ∧ mgtOk s (mgt 0x40 0 (natLe 2 63)) 0x40 = true)) ∧
    (windowOk (acquiring true) (setWin []) = false ∧
      (∀ e ∈ [(3, 4), (4, 4), (2, 5), (3, 3)], windowOk (acquiring true) (setWin (importOf e.1 e.2)) = true ∧
        (setWin (importOf e.1 e.2)).wid = 0 ∧ (setWin (importOf e.1 e.2)).epoch = e.2) ∧
      fabWinAt { acquiring true with blobs := [] } 0 = none ∧ windowOk { acquiring true with blobs := [] } (setWin (importOf 3 4)) = true ∧
      fabWinAt (acquiring true) 0 = some (fabWin (importOf 3 4)) ∧ (fabWin (importOf 3 4)).epoch = 4 ∧
      reduces (fabWin (importOf 3 4)) (setWin (importOf 4 4)) = false ∧ reduces (fabWin (importOf 3 4)) (setWin (importOf 2 5)) = true) ∧
    (leAt (natLe 2 0) 0 2 < 4096 ∧ 4096 ≤ leAt (natLe 2 4096) 0 2 ∧ fabWinAt (acquiring true) (leAt (natLe 2 4095) 0 2) = none) ∧
    (let d : Bytes := natLe 4 7 ++ natLe 2 1 ++ natLe 4 3
     leAt d 0 4 = 7 ∧ leAt d 4 2 % 4096 = 1 ∧ (1, 7) ∉ (acquiring true).fab.cancels ∧ (grantee (acquiring true) 1 7).isSome = true ∧
       grantee (acquiring false) 1 7 = none ∧ fStatus (mgt 0x44 0 d).hdr.toNat ≠ .orphaned ∧
       fStatus (mgt 0x44 (statusCode .orphaned) d).hdr.toNat = .orphaned) ∧
    (leAt ([0x46] : Bytes) 0 1 = 0x46) ∧
    (let d : Bytes := [0x45, 0, 7, 0]
     leAt d 0 1 = 0x45 ∧ ∃ r j, tblFind (acquiring true).fab.peers (leAt d 2 2) = some r ∧ r.ptype = 0x45 ∧ r.asker = .job 16 0 ∧
       jobFind (acquiring true) (16 / 16) (16 % 16) 0 = some j) ∧
    (∃ j, jobFind (acquiring true) (1 : Ctx).toNat (0 : QNum).val (0 : BitVec 32).toNat = some j ∧ j.body = .own 7 ∧ j.result = none) := by
  refine ⟨?_, ?_, ?_, ?_, ?_, ?_, ⟨by decide, _, _, rfl, rfl, rfl, rfl⟩, ⟨_, rfl, rfl, rfl⟩⟩
  all_goals decide +kernel

/-! ## Witnesses: contexts, SPDM and firmware -/

/-- Context 1 in a state of OD 0x9100. -/
def ctxAs (st : Nat) : State := withNums live [(odCtx 0x9100 1, st)]

/-- Its key record is durable, and CREATE is under way. -/
def creating : State := { ctxAs 0 with iso.creating := some 1, iso.keys0 := [(1, ⟨.active, 0, []⟩)] }

theorem witness_ContextsLiveAndEnd :
    (∀ st ∈ [0, 1, 2, 3], (ctxAs st).power.on = true ∧ dictUp (ctxAs st) = true ∧ (1 : Ctx).toNat ≠ 0 ∧ commandFree (ctxAs st) = true ∧
      (ctxAs st).iso.commands = [] ∧ ctxState (ctxAs st) (1 : Ctx).toNat = st) ∧
    (creating.iso.creating = some (1 : Ctx).toNat ∧ createDurable creating 1 = true ∧ creating.iso.commands = []) ∧
    (∀ k ∈ [1, 5], let s : State := { ctxAs 1 with iso.releasing := [⟨1, k⟩] }
     s.iso.creating = none ∧ s.iso.releasing.find? (fun r => decide (r.ctx = (1 : Ctx).toNat)) = some ⟨1, k⟩ ∧ s.iso.commands = []) ∧
    odGet (withNums live [(odKey 0x9003 1, 1)]) (odKey 0x9003 1) = 1 ∧ (ctxActive live 1 = true ∧ isShadow live 1 = false) ∧
    (∀ e ∈ [(10, true), (1, false)], let s := withNums live [(odCtx 0xC100 1, 1), (odCtx 0xC130 1, e.1)]
     isShadow s 1 = true ∧ decide (odGet s (odKey 0xC000 2) ≤ odGet s (odCtx 0xC130 1)) = e.2) := by decide +kernel

/-- A source that has got as far as a stage. -/
def source0 (stage : Nat) : SpdmSrc := { newSpdm (.window 0) with stage := stage }

/-- An SPDM request of 40 bytes. -/
def spdmMsg (version code : Nat) : Bytes := natLe 1 version ++ natLe 1 code ++ List.replicate 38 0

theorem witness_SpdmIsAnswered :
    (dictUp live = true ∧ 4 ≤ (spdmMsg 0x10 0x84).length ∧ leAt (spdmMsg 0x10 0x84) 1 1 = 0x84 ∧ leAt (spdmMsg 0x10 0x84) 0 1 = 0x10) ∧
    (∀ stage ∈ [0, 1, 2, 3], let s : State := { live with iso.spdm := [source0 stage] }
     dictUp s = true ∧ spdmOf s (.window 0) = some (source0 stage) ∧ (source0 stage).resynch = false ∧ (source0 stage).stage = stage) ∧
    (∀ code ∈ [0xE1, 0xE3, 0x81, 0x82, 0x83, 0xE0], let m := spdmMsg 0x12 code
      36 ≤ m.length ∧ 37 ≤ m.length ∧ leAt m 0 1 = 0x12 ∧ leAt m 1 1 = code ∧ leAt m 2 1 = 0 ∧ leAt m 4 2 = 0 ∧ leAt m 3 1 = 0) ∧
    0 < Config.certChain.length ∧
    (let m := natLe 4 0x01E012 ++ List.replicate 36 0
     leAt m 0 1 = 0x12 ∧ leAt m 1 1 = 0xE0 ∧ leAt m 2 1 % 2 = 1 ∧ 37 ≤ m.length ∧ leAt m 36 1 = 0) := by
  refine ⟨by decide +kernel, by decide +kernel, by decide +kernel, by simp [Config.certChain], by decide +kernel⟩

theorem witness_ImagesAreStored :
    dictUp live = true ∧ slotBooted (withNums live [(odKey 0xA000 2, 1)]) = (1 : Fin 3).val ∧
    (let s := withNums live [(odKey 0xA000 2, 1), (odKey 0xA200 1, 1)]
     slotBooted s = imageTarget s ∧ slotBooted s ≠ (0 : Fin 3).val) ∧
    (let s := withNums live [(odKey 0xA000 2, 1), (odKey 0xA200 1, 0)]
     slotBooted s ≠ imageTarget s ∧ slotBooted s ≠ 2 ∧ devState s = 1) ∧
    slotBooted (withNums live [(odKey 0xA000 2, 2)]) = 2 ∧
    (([0, 0, 0] : Bytes).length < 4 ∧ slotSize 0 < leAt (natLe 4 0x1800000 ++ [1]) 0 4 + ((natLe 4 0x1800000 ++ [1] : Bytes).length - 4)) ∧
    (leAt (natLe 4 0x1800000) 0 4 + ((natLe 4 0x1800000).length - 4) ≤ slotSize 0 ∧
      live.fw.buffered + ((natLe 4 0x1800000).length - 4) ≤ Config.programBuffer) :=
  ⟨by decide +kernel, by decide +kernel, by decide +kernel, by decide +kernel, by decide +kernel, by decide +kernel,
    ⟨by decide +kernel, Nat.zero_le _⟩⟩

/-- A live update of processors 3 and 4, and a queue of context 1 with work on scribe core 0. -/
def updating : State := { withRing 4 1 with fw.update := some ⟨[3, 4], false, 1⟩ }

theorem witness_ProcessorsAreKept :
    (live.power.on = true ∧ procUp live (47 : Fin 64).val = true ∧ ¬((47 : Fin 64).val = activeCore live ∧ live.boot.standby = true)) ∧
    (procState live 47 = 0 ∧ ¬∃ t, tblFind live.fw.ranSince 47 = some t ∧ live.now < t + 10000000000) ∧
    (let s : State := { live with fw.ranSince := [(47, 0)] }
     procUp s 47 = true ∧ procState s 47 ≠ 2 ∧ ∃ t, tblFind s.fw.ranSince (47 : Fin 64).val = some t ∧ s.now < t + 10000000000) ∧
    procState (withNums live [(odKey 0xA101 47, 1)]) 47 = 1 ∧
    (2 ≤ odGet (withNums live [(odKey 0xA103 47, 2)]) (odKey 0xA103 47) ∧ odGet live (odKey 0xA103 47) < 2) ∧
    (live.boot.activeDie = some 0 ∧ live.boot.next = some 7 ∧ ({ live with boot.standby := true } : State).boot.standby = true) ∧
    (dictUp live = true ∧ ((63 : BitVec 8).toNat < 64 ∧ (255 : BitVec 8).toNat = 255) ∧ odGet live (odKey 0xA201 2) = 0) ∧
    (let s := withNums live [(odKey 0xA201 2, 7)]
     slotBooted s = 0 ∧ odGet s (odKey 0xA201 2) ≠ 0 ∧ s.fw.update = none ∧ engineDigests s 1 = engineDigests s (slotBooted s) ∧
       (manifestOf { s with fw.interface := 0xFFFF } 1).interface = ({ s with fw.interface := 0xFFFF } : State).fw.interface) ∧
    (dictUp updating = true ∧ (∃ u, updating.fw.update = some u ∧ u.todo = 3 :: [4]) ∧ procState updating 3 ≠ 1 ∧ procState updating 3 ≠ 2 ∧
      3 ≠ activeCore updating) ∧
    (procRunning updating (0 : Fin 48).val = true ∧
      let keys := (updating.q.queues.filter (fun e => e.2.enabled && decide (e.2.scribe = 0) && decide (e.2.disp ≠ e.2.tail) &&
        ctxActive updating (e.1 / 16))).map (·.1)
      (keys.filter (fun k => decide (tblGet 0 updating.fw.serving 0 < k)) ++ keys).head? = some 16) := by
  refine ⟨by decide +kernel, ⟨by decide +kernel, ?_⟩, ⟨by decide +kernel, by decide +kernel, 0, rfl, by decide +kernel⟩, by decide +kernel,
    by decide +kernel, by decide +kernel, by decide +kernel, by decide +kernel,
    ⟨by decide +kernel, ⟨_, rfl, rfl⟩, by decide +kernel, by decide +kernel, by decide +kernel⟩, by decide +kernel⟩
  rintro ⟨t, h, -⟩
  simp [live, ready, withNums, odSet, tblFind, State.reset] at h

/-! ## Witnesses: bring-up, power and heat -/

/-- Bring-up has reached a stage. -/
def atStage (k : Nat) : State := { live with boot.next := some k }

theorem witness_BringUpRuns :
    (State.reset.power.on = false ∧ State.reset.power.locked = false ∧ State.reset.power.resetLow = false) ∧
    ((atStage 0).power.on = true ∧ (atStage 0).boot.halted = false ∧ (atStage 0).boot.next = some 0) ∧
    (∀ k ∈ [1, 2, 3, 4, 5, 6], stageRuns (atStage k) k = true ∧ (atStage k).boot.held5 = none ∧ (atStage k).iso.commands = [] ∧ stageRuns (atStage 7) k = false) ∧
    (devState (atStage 6) ≠ 3 ∧ devState (withNums (atStage 6) [(odKey 0xB000 1, 3)]) = 3) ∧
    (let s : State := { atStage 5 with boot.held5 := some [] }
     s.power.on = true ∧ s.boot.next = some 5 ∧ s.boot.held5.isSome = true) ∧
    ((withNums live [(odKey 0xB000 1, 0)]).boot.next = some 7 ∧ devState (withNums live [(odKey 0xB000 1, 0)]) = 0) ∧
    (newerHalf live ≠ 0 ∧ newerHalf { live with fw.train0 := ⟨true, 1, 0, ⟨[], [], [], []⟩, []⟩ } = 0) ∧
    (∃ e dest u, live.boot.next = some 7 ∧ 7 < physCount (13 : Fin 18).val ∧ markPhys live (23 : Fin 24).val (13 : Fin 18).val 7 = (some (e, dest), u) ∧
      dest ≠ 15 ∧ 7 < 10 ∧ 7 < 9 ∧ physNamed (BitVec.ofNat 64 (locPhys live 23 13 7)).toNat = some (23, 13, 7)) ∧
    (live.boot.next = some 7 ∧ odGet live (odKey 0xB001 4) ≠ 0 ∧ dictUp live = true) :=
  ⟨by decide, by decide, by decide +kernel, by decide +kernel, by decide +kernel, by decide +kernel, by decide +kernel,
    ⟨7, 8, _, rfl, by decide, rfl, by decide, by decide, by decide, by decide +kernel⟩, by decide +kernel⟩

theorem witness_PowerAndHeat :
    State.reset.power.on = false ∧ (live.power.on = true ∧ live.tier.pfail = .idle ∧ live.tier.admitting = true) ∧
    ({ live with tier.admitting := false } : State).tier.admitting = false ∧
    (let s : State := { live with power.resetLow := true, boot.next := none }
     s.power.resetLow = true ∧ s.power.on = true ∧ s.boot.next = none ∧ s.boot.halted = false ∧ s.tier.pfail = .idle) ∧
    (live.power.pfailLow = false ∧ live.boot.next = some 7 ∧ live.boot.activeDie = some 0 ∧ live.power.clamped = false) ∧
    (tblFind live.power.tripped (39 : Fin 40).val = none ∧
      tblFind ({ live with power.tripped := [(39, 7)] } : State).power.tripped (39 : Fin 40).val ≠ none) ∧
    odGet (withNums live [(odKey 0xD001 1, 1)]) (odKey 0xD001 1) = 1 ∧
    (odGet (withNums live [(odKey 0xA301 39, 1)]) (odKey 0xA301 (39 : Fin 40).val) ≠ 0 ∧
      loopHost (withNums live [(odKey 0xA301 39, 1)]) 39 = some 63 ∧ odGet live (odKey 0xA301 39) = 0) ∧
    (600 < requestOf live 39 ∧ requestOf { live with power.request := [(39, 600)] } 39 ≤ 600) ∧
    ((31 : Fin 40).val < 32 ∧ 32 ≤ (37 : Fin 40).val ∧ (37 : Fin 40).val < 38 ∧ 38 ≤ (38 : Fin 40).val ∧
      live.boot.activeDie = some ((38 : Fin 40).val - 38) ∧ live.boot.activeDie ≠ some ((39 : Fin 40).val - 38)) := by decide +kernel
end Sys2Proof.Tests
end

section
/-! SUPPORT. The dictionary's judgement of a written value: the bytes of records, what each check of a row answers, and the
order in which a write meets its checks. -/

namespace Sys2Proof.Laws

open Sys2Proof Sys2Proof.Machine

/-! ## Little-endian fields and records -/

theorem leNat_lt (b : Bytes) : leNat b < 256 ^ b.length := by
  induction b with
  | nil => simp [leNat]
  | cons x t ih =>
    have hx := x.isLt
    simp only [leNat, List.length_cons, Nat.pow_succ]
    omega

theorem leAt_lt (b : Bytes) (lo k : Nat) : leAt b lo k < 256 ^ k :=
  (leNat_lt _).trans_le (Nat.pow_le_pow_right (by decide) (List.length_take_le k _))

/-- A number is read back whole from as many bytes as hold it. -/
theorem leNat_natLe_of_lt {k n : Nat} (h : n < 256 ^ k) : leNat (natLe k n) = n := by
  rw [leNat_natLe, Nat.mod_eq_of_lt h]

theorem records_length {f : Nat → Bytes} {k : Nat} (hf : ∀ i, (f i).length = k) (n : Nat) :
    ((List.range n).map f).flatten.length = k * n := by
  simp [Function.comp_def, hf, Nat.mul_comm]

/-- The field at record `i` of a string of equal records is that record. -/
theorem leAt_records {f : Nat → Bytes} {k : Nat} (hf : ∀ i, (f i).length = k) {n i : Nat} (hi : i < n) :
    leAt ((List.range n).map f).flatten (k * i) k = leNat (f i) := by
  obtain ⟨m, rfl⟩ := Nat.exists_eq_add_of_lt hi
  have hsplit : ((List.range (i + m + 1)).map f).flatten =
      ((List.range i).map f).flatten ++ f i ++ ((List.range m).map fun j => f (i + (j + 1))).flatten := by
    simp [Nat.add_assoc, List.range_add, List.range_succ_eq_map, Function.comp_def]
  rw [hsplit, leAt_append _ _ _ _ _ (records_length hf i) (hf i)]

/-! ## Reserved bits of a BLOB's records (R11, R645) -/

/-- In a BLOB made of records, each record keeps its bits under the mask, in its own bytes. -/
theorem maskBlob_of_recordMask {r : OdRow} {k m : Nat} (h : recordMask r = some (k, m)) (b : Bytes) :
    maskBlob r b = ((List.range (b.length / k)).map fun i => natLe k (leAt b (k * i) k &&& m)).flatten := by
  simp [maskBlob, h]

theorem maskBlob_of_recordMask_none {r : OdRow} (h : recordMask r = none) (b : Bytes) : maskBlob r b = b := by
  simp [maskBlob, h]

theorem maskBlob_length {r : OdRow} {k m : Nat} (h : recordMask r = some (k, m)) {b : Bytes} (hb : b.length % k = 0) :
    (maskBlob r b).length = b.length := by
  rw [maskBlob_of_recordMask h, records_length (fun _ => natLe_length _ _)]
  exact Nat.mul_div_cancel' (Nat.dvd_of_mod_eq_zero hb)

theorem leAt_maskBlob {r : OdRow} {k m : Nat} (h : recordMask r = some (k, m)) {b : Bytes} {i : Nat} (hi : i < b.length / k) :
    leAt (maskBlob r b) (k * i) k = leAt b (k * i) k &&& m := by
  have hfits : leAt b (k * i) k &&& m < 256 ^ k := Nat.and_le_left.trans_lt (leAt_lt b (k * i) k)
  rw [maskBlob_of_recordMask h, leAt_records (fun _ => natLe_length _ _) hi, leNat_natLe_of_lt hfits]

/-! ## What each check of a row answers (R56, R646, R648) -/

theorem judgeNum_of_mem_ivs {r : OdRow} {l : List (Nat × Nat)} (hc : r.check = .ivs l) (ht : r.ty ≠ .bool) {n : Nat}
    (hn : ∃ i ∈ l, i.1 ≤ n ∧ n ≤ i.2) : judgeNum r n = .stored (.num n) .ok := by
  simp [judgeNum, hc, ht, hn]

/-- Outside every interval of a range, only its lowest and its highest limit decide. -/
theorem judgeNum_of_not_mem_ivs {r : OdRow} {l : List (Nat × Nat)} {lo hi : Nat × Nat} (hc : r.check = .ivs l)
    (ht : r.ty ≠ .bool) (hlo : l.head? = some lo) (hhi : l.getLast? = some hi) {n : Nat} (hn : ∀ i ∈ l, n < i.1 ∨ i.2 < n) :
    judgeNum r n =
      if n < lo.1 then .stored (.num lo.1) .clamped else if hi.2 < n then .stored (.num hi.2) .clamped else .refused .range .gap := by
  have hout : l.any (fun i => decide (i.1 ≤ n) && decide (n ≤ i.2)) = false := by
    simpa [imp_iff_not_or, Nat.not_le] using hn
  simp [judgeNum, hc, ht, hout, hlo, hhi]

theorem judgeBlob_tooLong {r : OdRow} {b : Bytes} (h : maxLen r < b.length) : judgeBlob r b = .refused .range .tooLong := by
  simp [judgeBlob, h]

theorem judgeBlob_exact {r : OdRow} {b : Bytes} {n : Nat} {zero : Bool} (hl : b.length ≤ maxLen r) (hc : r.check = .exact n zero) :
    judgeBlob r b =
      if b.length = n ∨ (zero = true ∧ b = []) then .stored (.bytes (maskBlob r b)) .ok else .refused .range .type := by
  simp [judgeBlob, Nat.not_lt.2 hl, hc]

theorem judgeBlob_records {r : OdRow} {b : Bytes} {k n : Nat} (hl : b.length ≤ maxLen r) (hc : r.check = .records k n) :
    judgeBlob r b = if b.length % k = 0 then .stored (.bytes (maskBlob r b)) .ok else .refused .range .type := by
  simp [judgeBlob, Nat.not_lt.2 hl, hc]

theorem judgeBlob_upTo {r : OdRow} {b : Bytes} {n : Nat} (hl : b.length ≤ maxLen r) (hc : r.check = .upTo n) :
    judgeBlob r b = .stored (.bytes b) .ok := by
  simp [judgeBlob, Nat.not_lt.2 hl, hc]

/-- A string of UTF-8 within its entry's maximum is stored as it is. -/
theorem judgeStr_of_utf8 {r : OdRow} {b : Bytes} (hl : b.length ≤ maxLen r) (hu : utf8Lengths b.length b ≠ none) :
    judgeStr r b = .stored (.bytes b) .ok := by
  obtain ⟨l, hs⟩ := Option.ne_none_iff_exists'.1 hu
  simp [judgeStr, hs, hl]

/-! ## The order of the checks (R647) -/

/-- A row's access class permits a write on the path, a draft's or a plain one; the entry of context 0 takes none (R49, R52). -/
def writePermitted (r : OdRow) (key : Nat) (draft : Bool) : Prop :=
  ctxZero r key = false ∧ r.acc ≠ .ro ∧ (r.acc = .rwd → draft = true)

section
variable {s : State} {draft : Bool} {i : VItem} {r : OdRow}

theorem judge_noEntry (h : servedRow s (itemKey i) = none) : judge s draft i = .refused .range .noEntry := by
  simp [judge, h]

theorem judge_access (h : servedRow s (itemKey i) = some r) (ha : ctxZero r (itemKey i) = true ∨ r.acc = .ro) :
    judge s draft i = .refused .range .access := by
  simp [judge, h, ha]

theorem judge_draftOnly (h : servedRow s (itemKey i) = some r) (hz : ctxZero r (itemKey i) = false) (ha : r.acc = .rwd) :
    judge s false i = .refused .range .draftOnly := by
  simp [judge, h, hz, ha]

/-- A write that its row permits meets the checks of type, length and value, in this order. -/
theorem judge_permitted (h : servedRow s (itemKey i) = some r) (hp : writePermitted r (itemKey i) draft) :
    judge s draft i =
      if i.ty ≠ tyCode r.ty then .refused .range .type
      else if r.ty = .blob then judgeBlob r i.val
      else if r.ty = .str then judgeStr r i.val
      else if i.val.length ≠ tySize r.ty then .refused .range .type
      else judgeNum r (leNat i.val) := by
  obtain ⟨hz, hro, hdraft⟩ := hp
  have haccess : (ctxZero r (itemKey i) || decide (r.acc = .ro)) = false := by simp [hz, hro]
  have hpath : (!draft && decide (r.acc = .rwd)) = false := by cases draft <;> simp_all
  simp only [judge, h, haccess, hpath, Bool.false_eq_true, if_false]

theorem readItem_noEntry (src : Src) (h : servedRow s (itemKey i) = none) :
    readItem s src i = { i with val := [], st := .range, rsn := .noEntry } := by
  simp [readItem, h]

theorem readItem_served (src : Src) (h : servedRow s (itemKey i) = some r) :
    readItem s src i = { i with ty := tyCode r.ty, val := valBytes r (odRead s src r (itemKey i)) } := by
  simp [readItem, h]

/-- A WRITE item that is refused is answered with the refusal and leaves the state as it was (R57). -/
theorem writeItem_refused (o : DictOp) {st : Status} {rsn : Reason} (h : judge s false i = .refused st rsn) :
    writeItem o s i = (refusedItem s i st rsn, s) := by
  simp [writeItem, h]

end

/-! ## The map's STR entries -/

theorem odRows_str_readOnly : ∀ r ∈ odRows, r.ty = .str → r.acc = .ro := by decide +kernel

/-- A row that is served stands in the entry map. -/
theorem servedRow_mem {s : State} {key : Nat} {r : OdRow} (h : servedRow s key = some r) : r ∈ odRows := by
  unfold servedRow at h
  split at h
  · contradiction
  · exact List.mem_of_find?_eq_some h

theorem servedRow_str_readOnly {s : State} {key : Nat} {r : OdRow} (h : servedRow s key = some r) (ht : r.ty = .str) :
    r.acc = .ro :=
  odRows_str_readOnly r (servedRow_mem h) ht

end Sys2Proof.Laws
end

section
/-! PROOFS. The obligations on the dictionary's judgement of a written value: O9, O10 and O11. -/

namespace Sys2Proof.Laws

open Sys2Proof Sys2Proof.Machine

/-- Settles O9: outside every interval the two limits decide, and what lies between them is the gap, whose refusal
a WRITE item meets as the last of its checks. -/
theorem gapsAreRefused : Obligations.GapsAreRefused := by
  unfold Obligations.GapsAreRefused
  intro r l lo hi hc ht hlo hhi hle
  refine ⟨fun n hn => judgeNum_of_mem_ivs hc ht hn, fun n hn => ?_⟩
  have hjudge := judgeNum_of_not_mem_ivs hc ht hlo hhi hn
  refine ⟨fun hbelow => ?_, fun habove => ?_, fun hge hmax => ?_⟩
  · rw [hjudge, if_pos hbelow]
  · rw [hjudge, if_neg (by omega), if_pos habove]
  · have hgap : judgeNum r n = .refused .range .gap := by
      rw [hjudge, if_neg (by omega), if_neg (by omega)]
    refine ⟨hgap, fun o s i hrow hz hro hrwd hty hblob hstr hlen hval => ?_⟩
    have hw : judge s false i = .refused .range .gap := by
      rw [judge_permitted hrow ⟨hz, hro, fun h => absurd h hrwd⟩]
      simp [hty, hblob, hstr, hlen, hval, hgap]
    rw [writeItem_refused o hw]
    exact ⟨rfl, rfl, rfl⟩

/-- Settles O10: one clause for each check of a BLOB's row, the records' reserved bits field by field, and STR. -/
theorem blobLengthsAreJudged : Obligations.BlobLengthsAreJudged := by
  unfold Obligations.BlobLengthsAreJudged
  intro r b
  refine ⟨fun _ => ⟨judgeBlob_tooLong, fun hl => ⟨fun n hc => ?_, fun n hc => ?_, fun k n hc => ?_, fun n hc => ?_⟩⟩,
    fun k m hmask _ hb => ⟨maskBlob_length hmask hb, fun i hi => leAt_maskBlob hmask hi⟩,
    fun hnone => maskBlob_of_recordMask_none hnone b, fun n _ hc hl hu => ?_⟩
  · simp [judgeBlob_exact hl hc]
  · simp [judgeBlob_exact hl hc]
  · exact judgeBlob_records hl hc
  · exact judgeBlob_upTo hl hc
  · have hmax : maxLen r = n := by simp [maxLen, hc]
    exact judgeStr_of_utf8 (hmax ▸ hl) hu

/-- Settles O11: the model's judgement, clause by clause; the STR case of its last checks does not arise, because the
map's STR entries are read-only. -/
theorem writesAreJudgedInOrder : Obligations.WritesAreJudgedInOrder := by
  unfold Obligations.WritesAreJudgedInOrder
  intro s draft src i
  refine ⟨fun hnone => ?_, fun r hrow => ⟨readItem_served src hrow, servedRow_str_readOnly hrow, judge_access hrow,
    fun hz ha hdraft => hdraft ▸ judge_draftOnly hrow hz ha, fun hz hro hpath => ?_⟩⟩
  · rw [readItem_noEntry src hnone]
    exact ⟨judge_noEntry hnone, rfl, rfl⟩
  · have hjudge := judge_permitted (draft := draft) hrow ⟨hz, hro, hpath⟩
    have hstr : r.ty ≠ .str := fun h => hro (servedRow_str_readOnly hrow h)
    refine ⟨fun hty => ?_, fun hty hblob => ?_, fun hty hblob => ?_⟩
    · rw [hjudge, if_pos hty]
    · rw [hjudge, if_neg (not_not.2 hty), if_neg hblob, if_neg hstr]
    · rw [hjudge, if_neg (not_not.2 hty), if_pos hblob]

end Sys2Proof.Laws
end

section
/-! PROOFS. DESCRIPTOR_COMPLETE: what its command does with a descriptor whose work has ended, and O25. -/

namespace Sys2Proof.Laws

open Sys2Proof Sys2Proof.Machine

section
variable {s : State} {c : Ctx} {q : QNum} {i : BitVec 32} {j : Job} {r : Nat}

/-- Log entries 25 and 74: where the queue is no longer enabled, neither the release nor the record delays the completion. -/
theorem exec_descriptorComplete_of_queueOf_none (hon : s.power.on = true) (hj : jobFind s c.toNat q.val i.toNat = some j)
    (hr : j.result = some r) (hq : queueOf s c.toNat q.val = none) :
    exec (.descriptorComplete c q i) s = .next (keepQueue s (completeJob s j r)) := by
  change execDescriptorComplete c q i s = _
  rw [execDescriptorComplete, effectOn_on hon]
  simp only [hj, hr, hq]

/-- R328, then R153: the release of the stores decides first, then whether the record's lines can be written. -/
theorem exec_descriptorComplete_of_queueOf_some {x : Queue} (hon : s.power.on = true)
    (hj : jobFind s c.toNat q.val i.toNat = some j) (hr : j.result = some r) (hq : queueOf s c.toNat q.val = some x)
    (hcut : cutOver s = false) :
    exec (.descriptorComplete c q i) s = .next (keepQueue s (
      let u := (jobRelease s j).1
      if (jobRelease s j).2 = true then u
      else if recordTakes u c.toNat x j.idx = true then completeJob u j r
      else askWrites u (saParts u c.toNat (x.compl + 32 * (j.idx % 2 ^ x.log2)) 32))) := by
  change execDescriptorComplete c q i s = _
  rw [execDescriptorComplete, effectOn_on hon]
  simp only [hj, hr, hq, hcut, Bool.false_eq_true, if_false]

end

/-- Settles O25: without an enabled queue the job completes at once; with one, the release and the record's lines leave three
outcomes, which exclude each other. -/
theorem descriptorsComplete : Obligations.DescriptorsComplete := by
  unfold Obligations.DescriptorsComplete
  intro s c q i j r hon hj hr
  refine ⟨exec_descriptorComplete_of_queueOf_none hon hj hr, fun x hq hcut => ?_⟩
  have hexec := exec_descriptorComplete_of_queueOf_some hon hj hr hq hcut
  refine ⟨fun hheld => ?_, fun hreleased htakes => ?_, fun hreleased hheld => ?_⟩
  · rw [hexec, if_pos hheld]
  · rw [hexec, if_neg (by simp [hreleased]), if_pos htakes]
  · rw [hexec, if_neg (by simp [hreleased]), if_neg (by simp [hheld])]

end Sys2Proof.Laws
end

section
/-! PROOFS. Translation descriptors whose checks pass: the table that each leaves, what its work does, and O31. -/

namespace Sys2Proof.Laws

open Sys2Proof Sys2Proof.Machine

/-! ## The tables that MAP, UNMAP and PROTECT leave (R242, R255) -/

/-- The context's table once a MAP of a type has put its one entry over its range. -/
def mappedTable (s : State) (c d : Nat) (ty : RangeTy) : List RangeEntry :=
  replaceRange (epochOf s c) (rangeTable s c) (xArg d / 4096) (xPages d)
    [⟨xArg d / 4096, xPages d, ty, bitOf d 131, bitOf d 132, bitOf d 133, false, false, xTarget d / 4096, epochOf s c⟩]

/-- The context's table without the range of an UNMAP, under an epoch. -/
def unmappedTable (ep : Nat) (s : State) (c d : Nat) : List RangeEntry :=
  replaceRange ep (rangeTable s c) (xArg d / 4096) (xPages d) []

/-- The pieces of the context's table that a descriptor's range takes in. -/
def rangePieces (s : State) (c d : Nat) : List RangeEntry := piecesOf (rangeTable s c) (xArg d / 4096) (xPages d)

/-- A PROTECT takes from an entry a right that it holds. -/
def clearsRight (d : Nat) (e : RangeEntry) : Bool :=
  (e.rd && !bitOf d 131) || (e.wr && !bitOf d 132) || (e.at_ && !bitOf d 133)

/-- The context's table once a PROTECT has set its rights over its range, under an epoch. -/
def protectedTable (ep : Nat) (s : State) (c d : Nat) : List RangeEntry :=
  replaceRange ep (rangeTable s c) (xArg d / 4096) (xPages d)
    ((rangePieces s c d).map fun e => { e with rd := bitOf d 131, wr := bitOf d 132, at_ := bitOf d 133, epoch := ep })

/-! ## What the work of each descriptor does once its checks pass -/

section
variable {s : State} {c q : Nat} {x : Queue} {d : Nat}

/-- R241: one entry over the ABSENT range, at once and under the epoch in force. -/
theorem doMap_ok {ty : RangeTy} (hfields : xlatFields d = none) (hty : xType d = some ty)
    (habsent : ∀ e ∈ rangePieces s c d, e.ty = .absent) (htarget : targetAllowed s c ty (xTarget d) (xPages d * 4096) = true)
    (hfits : tableFits (mappedTable s c d ty) = true) :
    doMap s c q x d = putTable (tierEnd s c q x d .ok (xPages d * 4096)) c (mappedTable s c d ty) := by
  have hfree : (rangePieces s c d).any (fun e => decide (e.ty ≠ .absent)) = false := by simpa using habsent
  unfold rangePieces at hfree
  unfold mappedTable at hfits ⊢
  simp only [doMap, hfields, hty, hfree, htarget, hfits, Bool.not_true, Bool.false_eq_true, if_false]

/-- R280: the withdrawal of an UNMAP begins under the next epoch and waits for no descriptor. -/
theorem doUnmap_withdraws (hfields : xlatFields d = none) (hidle : withdrawing s c = false)
    (hcovered : covered (rangeTable s c) (xArg d / 4096) (xPages d) = true)
    (hty : ∀ e ∈ rangePieces s c d, e.ty ≠ .device ∧ (e.ty = .host → e.t3 = false))
    (hfits : tableFits (unmappedTable ((epochOf s c + 1) % 2 ^ 32) s c d) = true) :
    doUnmap s c q x d =
      beginWithdrawal (addJob s c q x d (.withdraw (xPages d * 4096)) none) c .unmap (xArg d / 4096) (xPages d)
        (unmappedTable ((epochOf s c + 1) % 2 ^ 32) s c d) (some (qKey c q, x.disp)) [] [] := by
  have hplain : (rangePieces s c d).any (fun e => decide (e.ty = .device) || (decide (e.ty = .host) && e.t3)) = false := by
    simpa using hty
  unfold rangePieces at hplain
  unfold unmappedTable at hfits ⊢
  simp only [doUnmap, hfields, hidle, hcovered, hplain, hfits, Bool.not_true, Bool.or_false, Bool.false_eq_true, if_false]

section
variable (hfields : xlatFields d = none) (hmoves : movesIn s c (xArg d / 4096) (xPages d) = false)
  (hcovered : covered (rangeTable s c) (xArg d / 4096) (xPages d) = true)
  (hpresent : ∀ e ∈ rangePieces s c d, e.ty ≠ .absent)
include hfields hmoves hcovered hpresent

/-- R244: a PROTECT that clears no right is no withdrawal; it keeps the epoch and completes at once. -/
theorem doProtect_completes (hkeeps : ∀ e ∈ rangePieces s c d, clearsRight d e = false)
    (hfits : tableFits (protectedTable (epochOf s c) s c d) = true) :
    doProtect s c q x d = putTable (tierEnd s c q x d .ok (xPages d * 4096)) c (protectedTable (epochOf s c) s c d) := by
  have hnone : (rangePieces s c d).any (clearsRight d) = false := List.any_eq_false.2 fun e he => by simp [hkeeps e he]
  have hheld : (rangePieces s c d).any (fun e => decide (e.ty = .absent)) = false := by simpa using hpresent
  unfold rangePieces clearsRight at hnone
  unfold rangePieces at hheld
  unfold protectedTable rangePieces at hfits ⊢
  simp only [doProtect, hfields, hmoves, hcovered, hnone, hheld, hfits, Bool.not_true, Bool.or_false, Bool.false_and,
    Bool.false_eq_true, if_false]

/-- R244, R252: a PROTECT that clears a right is a withdrawal under the next epoch; where the right was a pinned page's, it waits for
the Nib and Quill descriptors of the context. -/
theorem doProtect_withdraws (hclears : ∃ e ∈ rangePieces s c d, clearsRight d e = true) (hidle : withdrawing s c = false)
    (hfits : tableFits (protectedTable ((epochOf s c + 1) % 2 ^ 32) s c d) = true) :
    doProtect s c q x d =
      beginWithdrawal (addJob s c q x d (.withdraw (xPages d * 4096)) none) c .protect (xArg d / 4096) (xPages d)
        (protectedTable ((epochOf s c + 1) % 2 ^ 32) s c d) (some (qKey c q, x.disp))
        (if (rangePieces s c d).any (fun e => e.pin && clearsRight d e) then pinUsers s c else []) [] := by
  have hsome : (rangePieces s c d).any (clearsRight d) = true := List.any_eq_true.2 hclears
  have hheld : (rangePieces s c d).any (fun e => decide (e.ty = .absent)) = false := by simpa using hpresent
  unfold rangePieces clearsRight at hsome ⊢
  unfold rangePieces at hheld
  unfold protectedTable rangePieces at hfits ⊢
  simp only [doProtect, hfields, hmoves, hcovered, hsome, hheld, hidle, hfits, Bool.not_true, Bool.or_false, Bool.and_false,
    Bool.false_eq_true, if_false, if_true]

end
end

/-! ## What the three commands run (R253) -/

section
variable {s : State} {c : Ctx} {q : QNum} {x : Queue} {d : Nat}

/-- A translation queue whose next descriptor has a command's opcode runs that command's work, where the active core is up. -/
theorem dispatchAs_runs_of_coreUp (h : due s c.toNat q.val 3 x d) {op : Nat} (hop : dOp d = op)
    (hup : coreUp (begun s c.toNat q.val x) = true) (work : State → Nat → Nat → Queue → Nat → State) :
    effectOn s (dispatchAs s c.toNat q.val [3] (fun d => dOp d = op) (fun s x d =>
      if coreUp s then work s c.toNat q.val x d else s)) =
      .next (ended s c.toNat q.val x (work (begun s c.toNat q.val x) c.toNat q.val x d)) := by
  rw [dispatchAs_runs h (List.mem_singleton.2 rfl) (decide_eq_true hop), if_pos hup]

theorem exec_map_of_due (h : due s c.toNat q.val 3 x d) (hop : dOp d = 0x30) (hup : coreUp (begun s c.toNat q.val x) = true) :
    exec (.map c q) s = .next (ended s c.toNat q.val x (doMap (begun s c.toNat q.val x) c.toNat q.val x d)) :=
  dispatchAs_runs_of_coreUp h hop hup doMap

theorem exec_unmap_of_due (h : due s c.toNat q.val 3 x d) (hop : dOp d = 0x31) (hup : coreUp (begun s c.toNat q.val x) = true) :
    exec (.unmap c q) s = .next (ended s c.toNat q.val x (doUnmap (begun s c.toNat q.val x) c.toNat q.val x d)) :=
  dispatchAs_runs_of_coreUp h hop hup doUnmap

theorem exec_protect_of_due (h : due s c.toNat q.val 3 x d) (hop : dOp d = 0x32) (hup : coreUp (begun s c.toNat q.val x) = true) :
    exec (.protect c q) s = .next (ended s c.toNat q.val x (doProtect (begun s c.toNat q.val x) c.toNat q.val x d)) :=
  dispatchAs_runs_of_coreUp h hop hup doProtect

end

/-- Settles O31: each command runs its descriptor's work, which the passing checks lead to its one outcome; a PROTECT has two, which
the rights that it clears tell apart. -/
theorem translationDescriptorsRun : Obligations.TranslationDescriptorsRun := by
  unfold Obligations.TranslationDescriptorsRun
  intro s c q x d hdue w runs hup hfields v n t ep next ps
  refine ⟨?map, ?unmap, ?protect⟩
  case map =>
    intro ty hop hty habsent htarget t' hfits
    change exec (.map c q) s = _
    rw [exec_map_of_due hdue hop hup, doMap_ok hfields hty habsent htarget hfits]
    rfl
  case unmap =>
    intro hop hidle hcovered hty hfits
    change exec (.unmap c q) s = _
    rw [exec_unmap_of_due hdue hop hup, doUnmap_withdraws hfields hidle hcovered hty hfits]
    rfl
  case protect =>
    intro clears set hop hmoves hcovered hpresent
    change (_ → _ → exec (.protect c q) s = _) ∧ (_ → _ → _ → exec (.protect c q) s = _)
    rw [exec_protect_of_due hdue hop hup]
    refine ⟨fun hkeeps hfits => ?_, fun hclears hidle hfits => ?_⟩
    · rw [doProtect_completes hfields hmoves hcovered hpresent hkeeps hfits]
      rfl
    · rw [doProtect_withdraws hfields hmoves hcovered hpresent hclears hidle hfits]
      rfl

end Sys2Proof.Laws
end

section
/-! PROOFS. The memory model's commands: what a release, an acquire and a fence at a scope do, ageing and wake notices, and O47. -/

namespace Sys2Proof.Laws

open Sys2Proof Sys2Proof.Machine

/-! ## Releases and acquires at a scope (R319, R320, R322) -/

/-- The device without the operand copies of an engine. -/
def withoutCopies (s : State) (e : Eng) : State := { s with q.copies := s.q.copies.filter (fun x => !decide (x.eng = e)) }

/-- The stores that the write combiner of an engine's die holds. -/
def dieStores (s : State) (e : Eng) : List HeldLine := s.q.stores.filter (fun h => decide (h.place = .die e.die.val))

section
variable {s : State} {e : Eng} {k : Scope}

theorem doRelease_of_not_cutOver (hcut : cutOver s = false) :
    doRelease s e k = ((holdPath e).filter (emptiedBy k)).foldl drainPoint s := by
  simp [doRelease, hcut]

@[simp] theorem doAcquire_engine : doAcquire s e .engine = s := rfl

/-- Beyond engine scope, only die scope reaches the caches: R322 leaves them alone at cluster and at device scope. -/
theorem doAcquire_of_cluster_or_device (hk : k = .cluster ∨ k = .device) : doAcquire s e k = withoutCopies s e := by
  obtain rfl | rfl := hk <;> rfl

theorem doAcquire_die_of_cacheAgent {a : Nat} (ha : cacheAgent e = some a) :
    doAcquire s e .die =
      (dieStores (withoutCopies s e) e).foldl (fun s h => invalidateHere s a h.line) (withoutCopies s e) := by
  simp [doAcquire, ha, withoutCopies, dieStores]

end

/-! ## What the five commands answer with power -/

section
variable {s : State} {e : Eng} {k : Scope} (hon : s.power.on = true)
include hon

theorem exec_releaseAtScope_of_on : exec (.releaseAtScope e k) s = .next (keepQueue s (doRelease s e k)) := effectOn_on hon

theorem exec_acquireAtScope_of_on : exec (.acquireAtScope e k) s = .next (keepQueue s (doAcquire s e k)) := effectOn_on hon

/-- R315: the acquire follows the release, on the state that the release leaves. -/
theorem exec_fenceAtScope_of_on :
    exec (.fenceAtScope e k) s = .next (keepQueue s (doAcquire (doRelease s e k) e k)) := effectOn_on hon

/-- R321, while no power failure has cut writes over to the journal. -/
theorem exec_storeAgeing_of_not_cutOver (l : Line) (hcut : cutOver s = false) :
    exec (.storeAgeing e l) s = .next (keepQueue s ((holdPath e).foldl (fun s p => ageLine s p l.toNat) s)) := by
  change execStoreAgeing e l s = _
  rw [execStoreAgeing, effectOn_on hon, hcut, if_neg Bool.false_ne_true]

/-- R335: the processor's SUBS bit alone decides whether its waiting queues are looked at. -/
theorem exec_wakeNotice_of_on (p : Fin 64) (m : BitVec 16) :
    exec (.wakeNotice p m) s = .next (keepQueue s (
      if (mordGet s m.toNat).subs.testBit p.val then
        (s.q.queues.filter (fun e => decide (e.2.scribe = p.val) && decide (e.2.wait = .waiting m.toNat))).foldl
          (fun s e => queuePoll s (e.1 / 16) (e.1 % 16)) s
      else s)) := effectOn_on hon

end

/-- Settles O47: a fence runs the release and the acquire of its scope, whose rules say what each scope empties and drops; at engine
scope, as where no SUBS bit is set, the command leaves the whole state as it was. -/
theorem scopesAreServed : Obligations.ScopesAreServed := by
  unfold Obligations.ScopesAreServed
  intro s e k hon
  refine ⟨fun hcut => ?release, ?acquireEngine, fun k' hk' => ?acquireCopies, fun a ha => ?acquireDie,
    exec_fenceAtScope_of_on hon, fun l hcut => exec_storeAgeing_of_not_cutOver hon l hcut,
    fun p m => ⟨fun hsubs => ?wakes, fun hsubs => ?sleeps⟩⟩
  case release => rw [exec_releaseAtScope_of_on hon, doRelease_of_not_cutOver hcut]
  case acquireEngine => rw [exec_acquireAtScope_of_on hon, doAcquire_engine, keepQueue_self]
  case acquireCopies =>
    rw [exec_acquireAtScope_of_on hon, doAcquire_of_cluster_or_device hk']
    rfl
  case acquireDie =>
    rw [exec_acquireAtScope_of_on hon, doAcquire_die_of_cacheAgent ha]
    rfl
  case wakes => rw [exec_wakeNotice_of_on hon, if_pos hsubs]
  case sleeps => rw [exec_wakeNotice_of_on hon, hsubs, if_neg Bool.false_ne_true, keepQueue_self]

end Sys2Proof.Laws
end

section
/-! PROOFS. Queries: what the three commands do with a hardware context of a Quill and the SEARCH that it serves, and O48. -/

namespace Sys2Proof.Laws

open Sys2Proof Sys2Proof.Machine

/-! ## QUERY_START (R377-R379) -/

/-- A query of a SEARCH is next to run: it is to be restarted (R380), or it is the next of the query table (R360). -/
def queryIsNext (b : SearchSt) (n : Nat) : Prop := n ∈ b.again ∨ (n = b.next ∧ n < b.nq)

section
variable {s : State} {c : Ctx} {q : QNum} {i : BitVec 32} {y : BitVec 16} {n : Fin 384} {h : Fin 64} {j : Job} {b : SearchSt}

theorem exec_queryStart_of_next (hon : s.power.on = true) (hj : searchJob s c.toNat q.val i.toNat = some (j, b))
    (hnext : queryIsNext b y.toNat) (hactive : ctxActive s c.toNat = true) (hadmits : admitting s = true)
    (hup : quillUp s n.val = true) (hfree : tblFind s.q.quills (hwKey n.val h.val) = none)
    (hplace : locContains b.place (quillLoc s n.val) = true) (hshare : mayQuery s c.toNat = true) :
    exec (.queryStart c q i y n h) s = .next (keepQueue s (startQuery s j b y.toNat (hwKey n.val h.val))) := by
  have hquery : (b.again.contains y.toNat || (decide (y.toNat = b.next) && decide (y.toNat < b.nq))) = true := by
    simpa [queryIsNext] using hnext
  change execQueryStart c q i y n h s = _
  rw [execQueryStart, effectOn_on hon]
  simp only [hj, hquery, hactive, hadmits, hup, hfree, hplace, hshare, Option.isNone_none, Bool.and_self, if_true]

end

/-! ## What a hardware context does with its query (R364-R366, R371) -/

section
variable {s : State} {n : Fin 384} {h : Fin 64} {x : QuillCtx} {j : Job} {b : SearchSt}
  (hon : s.power.on = true) (hx : tblFind s.q.quills (hwKey n.val h.val) = some x)
  (hj : searchJob s (x.qkey / 16) (x.qkey % 16) x.idx = some (j, b))
include hon hx hj

/-- R364, R378: a walk takes its entry points first, then the one neighbour list that it may have on its way; without one, the nodes
left to evaluate decide between their heads and the next candidate. -/
theorem exec_fetchReturn_of_walking (hwalks : x.ended = false) :
    exec (.fetchReturn n h) s = .next (keepQueue s (
      if x.started = false then entriesArrive s (x.qkey / 16) (hwKey n.val h.val) x b
      else x.listOf.elim
        (if x.todo = [] then setHw s (hwKey n.val h.val) (nextCandidate x)
          else headsArrive s (x.qkey / 16) (hwKey n.val h.val) x b)
        (listArrives s (x.qkey / 16) (hwKey n.val h.val) x b))) := by
  change execFetchReturn n h s = _
  rw [execFetchReturn, effectOn_on hon]
  simp only [hx, hj, hon, hwalks, Bool.not_true, Bool.or_self, Bool.false_eq_true, if_false, Bool.not_eq_true']
  cases x.listOf <;> rfl

/-- R371, then R372: widening decides first, then whether the lines of the result can be written. -/
theorem exec_queryEnd_of_ended (hended : x.ended = true) (hcut : cutOver s = false) :
    exec (.queryEnd n h) s = .next (keepQueue s (
      if widens x b.wlim = true then
        setHw s (hwKey n.val h.val) { walkStart x (min (2 * x.l) b.wlim) with widens := x.widens + 1 }
      else if cvaTakes s (x.qkey / 16) x.result (resultBytes x).length = true then endQuery s (hwKey n.val h.val) x j b
      else askWrites s (saParts s (x.qkey / 16) x.result (resultBytes x).length))) := by
  change execQueryEnd n h s = _
  rw [execQueryEnd, effectOn_on hon]
  simp only [hx, hj, hon, hended, hcut, Bool.not_true, Bool.or_self, Bool.false_eq_true, if_false, Bool.not_eq_true',
    ← Bool.not_eq_true, ite_not]

end

/-- Settles O48: a context whose walk goes on takes what it waits for in one order, so that what it holds picks the clause; a walk that
has ended widens before its result's lines are asked for. Which context may start a query is the model's choice of log entry 87. -/
theorem quillsWalk : Obligations.QuillsWalk := by
  unfold Obligations.QuillsWalk
  intro s n h hon key
  refine ⟨fun c q i y j b => exec_queryStart_of_next hon, fun x j b hx hj => ⟨fun hwalks => ?walks, fun hended hcut => ?ends⟩⟩
  case walks =>
    have hexec := exec_fetchReturn_of_walking hon hx hj hwalks
    refine ⟨fun hentries => ?_, fun hstarted m hlist => ?_, fun hstarted hlist htodo => ?_, fun hstarted hlist htodo => ?_⟩
    · rw [hexec, if_pos hentries]
    · rw [hexec, if_neg (by simp [hstarted]), hlist, Option.elim_some]
    · rw [hexec, if_neg (by simp [hstarted]), hlist, Option.elim_none, if_pos htodo]
    · rw [hexec, if_neg (by simp [hstarted]), hlist, Option.elim_none, if_neg htodo]
  case ends =>
    have hexec := exec_queryEnd_of_ended hon hx hj hended hcut
    refine ⟨fun hwidens => ?_, fun hlast htakes => ?_, fun hlast hheld => ?_⟩
    · rw [hexec, if_pos hwidens]
    · rw [hexec, if_neg (by simp [hlast]), if_pos htakes]
    · rw [hexec, if_neg (by simp [hlast]), if_neg (by simp [hheld])]

end Sys2Proof.Laws
end

section
/-! PROOFS. The fabric's packets: what a peer request meets at its optical die, how answers, messages and T3 answers are taken, and
O53. -/

namespace Sys2Proof.Laws

open Sys2Proof Sys2Proof.Machine

/-! ## A peer request at its optical die (R245-R248, R444, R446) -/

/-- A request waits for a walk of its die behind which another one of the same source to the same line may not pass (R446). -/
def waitsBehind (s : State) (port : Nat) (t : Txn) : Bool :=
  s.xlat.walks.any (fun y => decide (y.die = linkDie port) && sameLine y.waiter t)

/-- The page of a range entry that holds a store address. -/
def entryPage (e : RangeEntry) (sa : Nat) : Nat := e.vpn + (sa / 4096 - e.base)

section
variable {s : State} {t : Txn} {port h : Nat} (hreply : t.reply = .fabric port h)
include hreply

theorem servePeer_refused {st : Status} (walked : Option Nat) (hcheck : exportCheck s h t.len (needOf t.kind) = .inr st) :
    servePeer s t walked = refusePeer s port h st := by
  simp only [servePeer, hreply, hcheck]

section
variable {w : FabWin} {e : RangeEntry} (hcheck : exportCheck s h t.len (needOf t.kind) = .inl w)
  (hentry : saEntry s w.ctx t.sa = some e)
include hcheck hentry

/-- R245: a request whose page the die's range cache holds is tagged with the context's range epoch. -/
theorem servePeer_hits (hfirst : waitsBehind s port t = false) (hhit : rangeHit s (linkDie port) w.ctx (entryPage e t.sa) = true)
    (hright : hasRight e (needOf t.kind) = true) (hadmits : admitting s = true) :
    servePeer s t none =
      peerToHome (touchCva s w.ctx (entryPage e t.sa * 4096 + t.sa % 4096)) { t with ctx := w.ctx, epoch := some (epochOf s w.ctx) } := by
  unfold waitsBehind at hfirst
  unfold entryPage at hhit ⊢
  simp only [servePeer, hreply, hcheck, hentry, hfirst, hhit, hright, hadmits, Bool.and_false, Bool.true_or, Bool.not_true,
    Bool.or_self, Bool.false_eq_true, if_false]

/-- R248, R446: what misses the range cache waits for a walk, and so does what would pass a waiting one. -/
theorem servePeer_walks (hwaits : waitsBehind s port t = true ∨ rangeHit s (linkDie port) w.ctx (entryPage e t.sa) = false) :
    servePeer s t none = rangeMiss s (linkDie port) w.ctx (entryPage e t.sa) (.request { t with ctx := w.ctx } none) := by
  have hbranch : (waitsBehind s port t || !rangeHit s (linkDie port) w.ctx (entryPage e t.sa)) = true := by simpa using hwaits
  unfold waitsBehind entryPage at hbranch
  unfold entryPage
  simp only [servePeer, hreply, hcheck, hentry, Option.isNone_none, Bool.true_and, reduceCtorEq, decide_false, Bool.or_false,
    hbranch, if_true]

end
end

/-! ## A peer request that arrives (R443) -/

/-- The request that a packet makes, before its operands are put in. -/
def peerTxn (s : State) (p : FabIn) (k : ReqKind) (n : Nat) : Txn :=
  ⟨k, 368 + (linkDie p.port.val - 32), 0, genNow s, fOff p.hdr.toNat, n, [], 0, 0, false, false, 0, 0, [], none, false, false,
    .fabric p.port.val p.hdr.toNat, none⟩

/-- A step that puts in operands keeps what a request asks for, where, and who is answered. -/
structure KeepsTarget (build : Txn → Txn) : Prop where
  kind (t : Txn) : (build t).kind = t.kind
  sa (t : Txn) : (build t).sa = t.sa
  len (t : Txn) : (build t).len = t.len
  reply (t : Txn) : (build t).reply = t.reply

/-- The device takes the peer requests of a packet: its port is open, it is not FAILED nor cut over, and the packet is for its node. -/
structure TakesPeer (s : State) (p : FabIn) : Prop where
  isOpen : fabOpen s p = true
  notCut : cutOver s = false
  notFailed : devState s ≠ 3
  ownNode : fDnode p.hdr.toNat = nodeNo s

section
variable {s : State} {p : FabIn} {k : ReqKind} {n : Nat} {build : Txn → Txn} {ok : Bool} (htakes : TakesPeer s p)
include htakes

/-- A request of a context that is TORN is refused before its other checks. -/
theorem peerRequest_torn (htorn : exportCheck s p.hdr.toNat n (needOf k) = .inr .torn) :
    peerRequest s p k n build ok = refusePeer s p.port.val p.hdr.toNat .torn := by
  simp [peerRequest, htakes.isOpen, htakes.ownNode, htorn]

section
variable (hline : fOff p.hdr.toNat % 128 + n ≤ 128) (hok : ok = true)
include hline hok

theorem peerRequest_servePeer (hlives : exportCheck s p.hdr.toNat n (needOf k) ≠ .inr .torn) :
    peerRequest s p k n build ok = servePeer s (build (peerTxn s p k n)) none := by
  simp [peerRequest, htakes.isOpen, htakes.ownNode, htakes.notFailed, htakes.notCut, hlives, hok, Nat.not_lt.2 hline, peerTxn]

variable (hbuild : KeepsTarget build)
include hbuild

theorem peerRequest_refused {st : Status} (hcheck : exportCheck s p.hdr.toNat n (needOf k) = .inr st) :
    peerRequest s p k n build ok = refusePeer s p.port.val p.hdr.toNat st := by
  by_cases hst : st = .torn
  · subst hst
    exact peerRequest_torn htakes hcheck
  · rw [peerRequest_servePeer htakes hline hok (by simp [hcheck, hst])]
    refine servePeer_refused (hbuild.reply _) none ?_
    rw [hbuild.len, hbuild.kind]
    exact hcheck

section
variable {w : FabWin} {e : RangeEntry} (hcheck : exportCheck s p.hdr.toNat n (needOf k) = .inl w)
  (hentry : saEntry s w.ctx (fOff p.hdr.toNat) = some e)
include hcheck hentry

theorem peerRequest_hits (hfirst : waitsBehind s p.port.val (build (peerTxn s p k n)) = false)
    (hhit : rangeHit s (linkDie p.port.val) w.ctx (entryPage e (fOff p.hdr.toNat)) = true)
    (hright : hasRight e (needOf k) = true) (hadmits : admitting s = true) :
    peerRequest s p k n build ok =
      peerToHome (touchCva s w.ctx (entryPage e (fOff p.hdr.toNat) * 4096 + fOff p.hdr.toNat % 4096))
        { build (peerTxn s p k n) with ctx := w.ctx, epoch := some (epochOf s w.ctx) } := by
  have hsa : (build (peerTxn s p k n)).sa = fOff p.hdr.toNat := hbuild.sa _
  rw [peerRequest_servePeer htakes hline hok (by simp [hcheck]), ← hsa]
  refine servePeer_hits (hbuild.reply _) ?_ ?_ hfirst ?_ ?_ hadmits
  · rw [hbuild.len, hbuild.kind]
    exact hcheck
  · rw [hsa]
    exact hentry
  · rw [hsa]
    exact hhit
  · rw [hbuild.kind]
    exact hright

theorem peerRequest_walks (hwaits : waitsBehind s p.port.val (build (peerTxn s p k n)) = true ∨
      rangeHit s (linkDie p.port.val) w.ctx (entryPage e (fOff p.hdr.toNat)) = false) :
    peerRequest s p k n build ok =
      rangeMiss s (linkDie p.port.val) w.ctx (entryPage e (fOff p.hdr.toNat))
        (.request { build (peerTxn s p k n) with ctx := w.ctx } none) := by
  have hsa : (build (peerTxn s p k n)).sa = fOff p.hdr.toNat := hbuild.sa _
  rw [peerRequest_servePeer htakes hline hok (by simp [hcheck]), ← hsa]
  refine servePeer_walks (hbuild.reply _) ?_ ?_ ?_
  · rw [hbuild.len, hbuild.kind]
    exact hcheck
  · rw [hsa]
    exact hentry
  · rw [hsa]
    exact hwaits

end
end
end

/-! ## The three peer requests (R443) -/

/-- The bytes of a peer write, at their place in the line. -/
def withWrite (p : FabIn) (t : Txn) : Txn :=
  let off := fOff p.hdr.toNat % 128
  { t with mask := (2 ^ fLen p.hdr.toNat - 1) * 2 ^ off,
           data := List.replicate off 0#8 ++ p.data.take (fLen p.hdr.toNat) }

/-- The operation and the operands of a peer atomic. -/
def withAtomic (p : FabIn) (t : Txn) : Txn :=
  { t with aop := field p.hdr.toNat 192 8, wide := decide (field p.hdr.toNat 200 4 = 8), fetch := bitOf p.hdr.toNat 204,
           op1 := leAt p.data 0 8, op2 := leAt p.data 8 8 }

theorem id_keepsTarget : KeepsTarget id := ⟨fun _ => rfl, fun _ => rfl, fun _ => rfl, fun _ => rfl⟩

theorem withWrite_keepsTarget (p : FabIn) : KeepsTarget (withWrite p) := ⟨fun _ => rfl, fun _ => rfl, fun _ => rfl, fun _ => rfl⟩

theorem withAtomic_keepsTarget (p : FabIn) : KeepsTarget (withAtomic p) := ⟨fun _ => rfl, fun _ => rfl, fun _ => rfl, fun _ => rfl⟩

/-- The fields of a peer atomic: one of the ten operations, on an aligned operand of 4 or 8 bytes (R307, R443). -/
def atomicFieldsOk (p : FabIn) : Bool :=
  let aop := field p.hdr.toNat 192 8
  let w := field p.hdr.toNat 200 4
  decide (1 ≤ aop) && decide (aop ≤ 10) && (decide (w = 4) || decide (w = 8)) && decide (fOff p.hdr.toNat % max w 1 = 0) &&
    decide (16 ≤ p.data.length)

theorem atomicFieldsOk_of {p : FabIn} (hlo : 1 ≤ field p.hdr.toNat 192 8) (hhi : field p.hdr.toNat 192 8 ≤ 10)
    (hwidth : field p.hdr.toNat 200 4 = 4 ∨ field p.hdr.toNat 200 4 = 8) (haligned : fOff p.hdr.toNat % field p.hdr.toNat 200 4 = 0)
    (hdata : 16 ≤ p.data.length) : atomicFieldsOk p = true := by
  have hmax : max (field p.hdr.toNat 200 4) 1 = field p.hdr.toNat 200 4 := by omega
  simp [atomicFieldsOk, hlo, hhi, hwidth, hmax, haligned, hdata]

section
variable {s : State} {p : FabIn} (hon : s.power.on = true)
include hon

theorem exec_prd_of_type (htype : fType p.hdr.toNat = 1) :
    exec (.prd p) s = .next (keepQueue s (peerRequest s p .rdNc (fLen p.hdr.toNat) id true)) := by
  change execPrd p s = _
  rw [execPrd, effectOn_on hon, if_pos htype]

theorem exec_pwr_of_type (htype : fType p.hdr.toNat = 2) :
    exec (.pwr p) s =
      .next (keepQueue s (peerRequest s p .wrNc (fLen p.hdr.toNat) (withWrite p) (decide (fLen p.hdr.toNat ≤ p.data.length)))) := by
  change execPwr p s = _
  rw [execPwr, effectOn_on hon, if_pos htype]
  rfl

theorem exec_patom_of_type (htype : fType p.hdr.toNat = 3) :
    exec (.patom p) s =
      .next (keepQueue s (peerRequest s p .atom (field p.hdr.toNat 200 4) (withAtomic p) (atomicFieldsOk p))) := by
  change execPatom p s = _
  rw [execPatom, effectOn_on hon, if_pos htype]
  rfl

end

/-- A command that brings in a peer request ends as its window's check and the die's range cache say: what is admitted and hits goes to
its home, what misses or would pass a waiting request waits for a walk, and what the window refuses is refused. -/
theorem exec_peerRequest_outcomes {s : State} {p : FabIn} {i : Instr} {k : ReqKind} {n : Nat} {build : Txn → Txn} {ok : Bool}
    (hexec : exec i s = .next (keepQueue s (peerRequest s p k n build ok))) (htakes : TakesPeer s p) (hbuild : KeepsTarget build)
    (hok : ok = true) (hline : fOff p.hdr.toNat % 128 + n ≤ 128) :
    (∀ w e, exportCheck s p.hdr.toNat n (needOf k) = .inl w → saEntry s w.ctx (fOff p.hdr.toNat) = some e →
      (waitsBehind s p.port.val (build (peerTxn s p k n)) = false →
        rangeHit s (linkDie p.port.val) w.ctx (entryPage e (fOff p.hdr.toNat)) = true →
        hasRight e (needOf k) = true → admitting s = true →
        exec i s = .next (keepQueue s (peerToHome
          (touchCva s w.ctx (entryPage e (fOff p.hdr.toNat) * 4096 + fOff p.hdr.toNat % 4096))
          { build (peerTxn s p k n) with ctx := w.ctx, epoch := some (epochOf s w.ctx) }))) ∧
      (waitsBehind s p.port.val (build (peerTxn s p k n)) = true ∨
          rangeHit s (linkDie p.port.val) w.ctx (entryPage e (fOff p.hdr.toNat)) = false →
        exec i s = .next (keepQueue s (rangeMiss s (linkDie p.port.val) w.ctx (entryPage e (fOff p.hdr.toNat))
          (.request { build (peerTxn s p k n) with ctx := w.ctx } none))))) ∧
    (∀ st, exportCheck s p.hdr.toNat n (needOf k) = .inr st →
      exec i s = .next (keepQueue s (refusePeer s p.port.val p.hdr.toNat st))) := by
  rw [hexec]
  refine ⟨fun w e hcheck hentry => ⟨fun hfirst hhit hright hadmits => ?hits, fun hwaits => ?walks⟩, fun st hcheck => ?refused⟩
  case hits => rw [peerRequest_hits htakes hline hok hbuild hcheck hentry hfirst hhit hright hadmits]
  case walks => rw [peerRequest_walks htakes hline hok hbuild hcheck hentry hwaits]
  case refused => rw [peerRequest_refused htakes hline hok hbuild hcheck]

/-! ## Answers of peers and of hosts (R443, R445, R448, R453, R484, R485) -/

section
variable {s : State} {p : FabIn} {r : PeerReq} (hpeer : tblFind s.fab.peers (fTag p.hdr.toNat) = some r) (hopen : fabOpen s p = true)
include hpeer hopen

/-- An answer reaches who asked only where its type is its request's, 0x10 higher. -/
theorem peerResponse_answers {ptype : Nat} (data : Bytes) (result : Nat) (hkind : r.ptype = ptype)
    (htype : fType p.hdr.toNat = ptype + 0x10) (hnode : fDnode p.hdr.toNat = nodeNo s) :
    peerResponse s p ptype data result = peerAnswered s (fTag p.hdr.toNat) r (fStatus p.hdr.toNat) data result := by
  simp [peerResponse, hpeer, hopen, hkind, htype, hnode]

theorem exec_prdData_of_peer (hkind : r.ptype = 1) (htype : fType p.hdr.toNat = 0x11) (hnode : fDnode p.hdr.toNat = nodeNo s) :
    exec (.prdData p) s =
      .next (keepQueue s (peerAnswered s (fTag p.hdr.toNat) r (fStatus p.hdr.toNat) (padTo r.len p.data) 0)) := by
  change execPrdData p s = _
  rw [execPrdData, effectOn_on (fabOpen_on hopen)]
  simp only [hpeer]
  rw [peerResponse_answers hpeer hopen _ _ hkind htype hnode]

theorem exec_pwrDone_of_peer (hkind : r.ptype = 2) (htype : fType p.hdr.toNat = 0x12) (hnode : fDnode p.hdr.toNat = nodeNo s) :
    exec (.pwrDone p) s = .next (keepQueue s (peerAnswered s (fTag p.hdr.toNat) r (fStatus p.hdr.toNat) [] 0)) := by
  change execPwrDone p s = _
  rw [execPwrDone, effectOn_on (fabOpen_on hopen), peerResponse_answers hpeer hopen _ _ hkind htype hnode]

theorem exec_patomDone_of_peer (hkind : r.ptype = 3) (htype : fType p.hdr.toNat = 0x13) (hnode : fDnode p.hdr.toNat = nodeNo s) :
    exec (.patomDone p) s =
      .next (keepQueue s (peerAnswered s (fTag p.hdr.toNat) r (fStatus p.hdr.toNat) [] (if p.data = [] then 0 else leAt p.data 0 8))) := by
  change execPatomDone p s = _
  rw [execPatomDone, effectOn_on (fabOpen_on hopen), peerResponse_answers hpeer hopen _ _ hkind htype hnode]

/-- R453: the answer of a SEND carries the MSEQ that its request keeps. -/
theorem exec_msgDone_of_peer (hkind : r.ptype = 0x20) (htype : fType p.hdr.toNat = 0x21) :
    exec (.msgDone p) s = .next (keepQueue s (peerAnswered s (fTag p.hdr.toNat) r (fStatus p.hdr.toNat) [] r.len)) := by
  change execMsgDone p s = _
  rw [execMsgDone, effectOn_on (fabOpen_on hopen)]
  simp only [hpeer]
  rw [if_pos ⟨hopen, hkind, htype⟩]

end

section
variable {s : State} (hon : s.power.on = true)
include hon

/-- R448: a timeout is for every request but an acquire of ownership (0x45), which OWN_TIMEOUT gives up (R617). -/
theorem exec_peerTimeout_of_peer {tag : BitVec 16} {r : PeerReq} (hpeer : tblFind s.fab.peers tag.toNat = some r)
    (hkind : r.ptype ≠ 0x45) : exec (.peerTimeout tag) s = .next (keepQueue s (peerAnswered s tag.toNat r .poison [] 0)) := by
  change execPeerTimeout tag s = _
  rw [execPeerTimeout, effectOn_on hon]
  simp only [hpeer, hkind, if_false]

theorem exec_t3Data_of_up {port : Fin 8} (tag : BitVec 16) (hup : urzenState s port.val = 2) (poison : Bool) (data : Bytes) :
    exec (.t3Data port tag poison data) s =
      .next (keepQueue s (t3Answered s port.val tag.toNat (if poison then .poison else .ok) data)) := by
  change execT3Data port tag poison data s = _
  rw [execT3Data, effectOn_on hon, if_pos hup]

theorem exec_t3Done_of_up {port : Fin 8} (tag : BitVec 16) (hup : urzenState s port.val = 2) (poison : Bool) :
    exec (.t3Done port tag poison) s =
      .next (keepQueue s (t3Answered s port.val tag.toNat (if poison then .poison else .ok) [])) := by
  change execT3Done port tag poison s = _
  rw [execT3Done, effectOn_on hon, if_pos hup]

theorem exec_t3Timeout_of_on (port : Fin 8) (tag : BitVec 16) :
    exec (.t3Timeout port tag) s = .next (keepQueue s (t3Answered s port.val tag.toNat .poison [])) := effectOn_on hon

end

/-! ## Messages (R452, R453) -/

section
variable {s : State} {p : FabIn} (hopen : fabOpen s p = true) (htype : fType p.hdr.toNat = 0x20)
  (hnode : fDnode p.hdr.toNat = nodeNo s) (hctx : ctxState s (fWid p.hdr.toNat) ≠ 2)
include hopen htype hnode hctx

/-- A message to no mailbox is refused at its first packet. -/
theorem exec_msg_of_no_mailbox (hbox : tblFind s.fab.mailboxes (mboxKey (fWid p.hdr.toNat) (fMbx p.hdr.toNat)) = none)
    (hfirst : fOff p.hdr.toNat = 0) :
    exec (.msg p) s = .next (keepQueue s (msgDone s p.port.val p.hdr.toNat .range)) := by
  change execMsg p s = _
  rw [execMsg, effectOn_on (fabOpen_on hopen)]
  simp [hopen, htype, hnode, hctx, hbox, hfirst]

theorem exec_msg_of_mailbox {m : Mailbox}
    (hbox : tblFind s.fab.mailboxes (mboxKey (fWid p.hdr.toNat) (fMbx p.hdr.toNat)) = some m)
    (hkey : odGet s (odCtx 0x6200 (fWid p.hdr.toNat)) = field p.hdr.toNat 224 32) (hlen : fLen p.hdr.toNat ≤ 4096)
    (hpart : fOff p.hdr.toNat < fLen p.hdr.toNat) (hcut : cutOver s = false)
    (hring : cvaFree s (fWid p.hdr.toNat) m.ring 4 = true) :
    exec (.msg p) s = .next (keepQueue s (msgArrives s p.port.val p.hdr.toNat (fWid p.hdr.toNat) p.data m)) := by
  change execMsg p s = _
  rw [execMsg, effectOn_on (fabOpen_on hopen)]
  simp [hopen, htype, hnode, hctx, hbox, hkey, Nat.not_lt.2 hlen, Nat.not_le.2 hpart, hcut, hring]

end

/-! ## O53 -/

/-- Settles O53: the three peer requests share one path, on which the window's check, then the die's range cache decide; an answer is
taken by the type of the request that it names; a message by its mailbox. -/
theorem packetsAreTaken : Obligations.PacketsAreTaken := by
  unfold Obligations.PacketsAreTaken
  intro s p hon h port
  refine ⟨fun hopen hcut hstate hnode => ?requests, fun r hpeer hopen => ⟨exec_prdData_of_peer hpeer hopen,
    exec_pwrDone_of_peer hpeer hopen, exec_patomDone_of_peer hpeer hopen, exec_msgDone_of_peer hpeer hopen⟩,
    fun tag r hpeer hkind => exec_peerTimeout_of_peer hon hpeer hkind, fun hopen htype hcut hnode hctx => ?messages,
    fun q tag a _ => ⟨fun hup poison data => ⟨exec_t3Data_of_up hon tag hup poison data, exec_t3Done_of_up hon tag hup poison⟩,
      exec_t3Timeout_of_on hon q tag⟩⟩
  case requests =>
    have htakes : TakesPeer s p := ⟨hopen, hcut, hstate, hnode⟩
    refine ⟨fun htype => ?_, fun htype hdata => ?_, fun htype hlo hhi hwidth haligned hdata => ?_⟩
    · exact exec_peerRequest_outcomes (exec_prd_of_type hon htype) htakes id_keepsTarget rfl
    · exact exec_peerRequest_outcomes (exec_pwr_of_type hon htype) htakes (withWrite_keepsTarget p) (decide_eq_true hdata)
    · exact exec_peerRequest_outcomes (exec_patom_of_type hon htype) htakes (withAtomic_keepsTarget p)
        (atomicFieldsOk_of hlo hhi hwidth haligned hdata)
  case messages =>
    exact ⟨fun hbox hfirst => exec_msg_of_no_mailbox hopen htype hnode hctx hbox hfirst,
      fun m hbox hkey hlen hpart hring => exec_msg_of_mailbox hopen htype hnode hctx hbox hkey hlen hpart hcut hring⟩

end Sys2Proof.Laws
end

section
/-! PROOFS. A host's accesses to its context windows: what a read is answered, what a write leaves, when a doorbell or a flag clear
waits (R482), and O20. -/

namespace Sys2Proof.Laws

open Sys2Proof Sys2Proof.Machine

/-! ## Windows, flags and queues after a write -/

@[simp] theorem windowOfPort_setDictWindow (s : State) (p x : Nat) (w : DictWindow) :
    windowOfPort (setDictWindow s p w) x = if x = p then w else windowOfPort s x := by
  simp only [windowOfPort, setDictWindow, tblGet, tblFind_tblSet]
  split <;> rfl

/-- R343: the count that matches becomes the acknowledged count. -/
theorem flagGet_flagClearAt_of_match {s : State} {c n v : Nat} (hmatch : (flagGet s c n).count = v) :
    flagGet (flagClearAt s c n v) c n = ⟨(flagGet s c n).count, (flagGet s c n).count, (flagGet s c n).last⟩ := by
  rw [flagClearAt, if_pos hmatch, flagGet, tblGet, tblFind_tblSet, if_pos rfl, hmatch, Option.getD_some]

/-- R345: a count that an event has left behind clears nothing. -/
theorem flagClearAt_of_mismatch {s : State} {c n v : Nat} (hmiss : (flagGet s c n).count ≠ v) : flagClearAt s c n v = s :=
  if_neg hmiss

theorem flagClearAt_frame (s : State) (c n v : Nat) :
    (flagClearAt s c n v).out = s.out ∧ (flagClearAt s c n v).od = s.od ∧ (flagClearAt s c n v).mem = s.mem := by
  by_cases hmatch : (flagGet s c n).count = v
  · rw [flagClearAt, if_pos hmatch]
    exact ⟨rfl, rfl, rfl⟩
  · rw [flagClearAt_of_mismatch hmatch]
    exact ⟨rfl, rfl, rfl⟩

/-- Two tails of 32 bits that differ lie at a distance that is not zero. -/
theorem tailDistance_ne_zero {old new : Nat} (hold : old < 2 ^ 32) (hnew : new < 2 ^ 32) (hne : old ≠ new) :
    (new + 2 ^ 32 - old) % 2 ^ 32 ≠ 0 := by
  omega

/-- R480: a doorbell that is neither behind the tail nor beyond the ring moves the tail, and the queue is taken up. -/
theorem ringDoorbell_of_ahead {s : State} {c q tail : Nat} {x : Queue} (hq : queueOf s c q = some x)
    (hmoves : (tail + 2 ^ 32 - x.tail) % 2 ^ 32 ≠ 0) (hahead : (tail + 2 ^ 32 - x.tail) % 2 ^ 32 < 2 ^ 31)
    (hfits : (tail + 2 ^ 32 - x.head) % 2 ^ 32 ≤ 2 ^ x.log2) :
    ringDoorbell s c q tail = queuePoll (acquireIn
      (setQueue s c q { x with tail := tail, stamps := addStamp s x tail }) (locProc s x.scribe) 4) c q := by
  simp only [ringDoorbell, hq, if_neg hmoves, if_neg (Nat.not_le.2 hahead), if_neg (Nat.not_lt.2 hfits)]

/-! ## The order of a function's writes (R482) -/

theorem cwWrite_of_ordered {s : State} {port c : Nat} (hfree : hostWaits s port c = []) (off value : Nat) :
    cwWrite s port c off value = cwApply s c off value :=
  if_pos hfree

theorem cwWrite_of_waits {s : State} {port c : Nat} (hwaits : hostWaits s port c ≠ []) (off value : Nat) :
    cwWrite s port c off value = { s with fab.heldCw := s.fab.heldCw ++ [⟨port, c, off, value, hostWaits s port c⟩] } :=
  if_neg hwaits

/-- Of a context's registers, those that are not CW_DOORBELL are the flags' counts. -/
theorem cwApply_flag {off : Nat} (hflag : 0x80 ≤ off) (s : State) (c value : Nat) :
    cwApply s c off value = flagClearAt s c ((off - 0x80) / 4) value :=
  if_neg (by omega)

/-! ## The accesses -/

section
variable {s : State} {a : CwAccess} (hon : s.power.on = true)
include hon

section
variable (hadm : cwAdmitted s a = true)
include hadm

/-- R478: an access that is admitted and has a size its page takes is answered with what its page holds. -/
theorem exec_cwRd_of_sized (hsize : cwSized a false = true) :
    exec (.cwRd a) s = .next (keepQueue s
      (sendUrzen s a.port.val 0x2C (statusCode .ok) a.ctx.toNat a.tag.toNat a.addr.toNat (cwLen a - 1) 0 0
        (if cwPage a = 0 then dwRead (windowOfPort s a.port.val) (cwOff a) (cwLen a)
          else natLe (cwLen a) (cwRead s (cwPage a) (cwOff a))))) := by
  change execCwRd a s = _
  rw [execCwRd, effectOn_on hon]
  simp [hon, hadm, hsize]

section
variable {data : Bytes} (hsize : cwSized a true = true) (hpage : cwPage a = 0) (hlen : data.length = cwLen a)
include hsize hpage hlen

/-- R76: a write within the request buffer exchanges its bytes. -/
theorem exec_registerWrite_of_buffer (hlo : 0x100 ≤ cwOff a) (hhi : cwOff a + cwLen a ≤ 0x6A0) :
    exec (.registerWrite a data) s = .next (keepQueue s (setDictWindow s a.port.val { windowOfPort s a.port.val with
      req := spliceBytes (padTo 1440 (windowOfPort s a.port.val).req) (cwOff a - 0x100) data })) := by
  have hnotControl : ¬(cwOff a = 0 ∧ cwLen a = 4) := by omega
  change execRegisterWrite a data s = _
  rw [execRegisterWrite, effectOn_on hon]
  simp [hadm, hsize, hpage, hlen, hnotControl, hlo, hhi]

/-- R76: a write of DW_CTRL. -/
theorem exec_registerWrite_of_control (hoff : cwOff a = 0) (hfour : cwLen a = 4) (hup : dictUp s = true) :
    exec (.registerWrite a data) s = .next (keepQueue s (windowControl s a.port (leNat data))) := by
  change execRegisterWrite a data s = _
  rw [execRegisterWrite, effectOn_on hon]
  simp [hadm, hsize, hpage, hlen.trans hfour, hoff, hfour, hup]

end

theorem exec_doorbell_of_admitted (hpage : cwPage a ≠ 0) (hoff : cwOff a = 0) (height : cwLen a = 8) (v : BitVec 64) :
    exec (.doorbell a v) s = .next (keepQueue s (cwWrite s a.port.val (cwPage a) 0 v.toNat)) := by
  change execDoorbell a v s = _
  rw [execDoorbell, effectOn_on hon]
  simp [hadm, hpage, hoff, height]

theorem exec_flagClear_of_admitted (hpage : cwPage a ≠ 0) (hlo : 0x80 ≤ cwOff a) (hhi : cwOff a < 0xC0) (halign : cwOff a % 4 = 0)
    (hfour : cwLen a = 4) (v : BitVec 32) :
    exec (.flagClear a v) s = .next (keepQueue s (cwWrite s a.port.val (cwPage a) (cwOff a) v.toNat)) := by
  change execFlagClear a v s = _
  rw [execFlagClear, effectOn_on hon]
  simp [hadm, hpage, hlo, hhi, halign, hfour]

end

/-- R659: any other read is answered with RANGE and zeros. -/
theorem exec_cwRd_of_refused (hrefused : cwAdmitted s a = false ∨ cwSized a false = false) :
    exec (.cwRd a) s = .next (keepQueue s (sendUrzen s a.port.val 0x2C (statusCode .range) a.ctx.toNat a.tag.toNat a.addr.toNat
      (cwLen a - 1) 0 0 (natLe (cwLen a) 0))) := by
  have hnot : (cwAdmitted s a && cwSized a false) = false := Bool.and_eq_false_iff.2 hrefused
  change execCwRd a s = _
  rw [execCwRd, effectOn_on hon]
  simp [hon, hnot]

section
variable (hadm : cwAdmitted s a = false)
include hadm

theorem exec_registerWrite_of_not_admitted (data : Bytes) : exec (.registerWrite a data) s = .next s := by
  change execRegisterWrite a data s = _
  rw [execRegisterWrite, effectOn_on hon]
  simp [hadm]

theorem exec_doorbell_of_not_admitted (v : BitVec 64) : exec (.doorbell a v) s = .next s := by
  change execDoorbell a v s = _
  rw [execDoorbell, effectOn_on hon]
  simp [hadm]

theorem exec_flagClear_of_not_admitted (v : BitVec 32) : exec (.flagClear a v) s = .next s := by
  change execFlagClear a v s = _
  rw [execFlagClear, effectOn_on hon]
  simp [hadm]

end
end

/-! ## O20 -/

/-- Settles O20: a read and a write of page 0x000 are what their page and offset say; a doorbell and a flag clear share one path, on which
the order of the function's writes decides first, then the tail or the count. -/
theorem contextWindowAccesses : Obligations.ContextWindowAccesses := by
  unfold Obligations.ContextWindowAccesses
  intro s a hon
  refine ⟨fun hadm hsize => ?reads, exec_cwRd_of_refused hon, fun data hadm hsize hpage hlen => ?writes,
    fun v hadm hpage hoff height => ?doorbells, fun v hadm hpage hlo hhi halign hfour => ?flags,
    fun hadm v u data => ⟨exec_registerWrite_of_not_admitted hon hadm data, exec_doorbell_of_not_admitted hon hadm v,
      exec_flagClear_of_not_admitted hon hadm u⟩⟩
  case reads =>
    rw [exec_cwRd_of_sized hon hadm hsize]
    exact ⟨fun hpage => by rw [if_pos hpage], fun hpage => by rw [if_neg hpage]⟩
  case writes =>
    refine ⟨fun hlo hhi => ⟨_, exec_registerWrite_of_buffer hon hadm hsize hpage hlen hlo hhi, ?_, rfl, rfl, rfl, rfl⟩,
      exec_registerWrite_of_control hon hadm hsize hpage hlen⟩
    change (windowOfPort (setDictWindow s _ _) _).req = _
    rw [windowOfPort_setDictWindow, if_pos rfl]
  case doorbells =>
    have hexec := exec_doorbell_of_admitted hon hadm hpage hoff height v
    refine ⟨fun hwaits => ?_, fun hordered => ?_⟩
    · rw [hexec, cwWrite_of_waits hwaits]
      rfl
    · have hring : exec (.doorbell a v) s =
          .next (keepQueue s (ringDoorbell s (cwPage a) (v.toNat % 16) (field v.toNat 32 32))) := by
        rw [hexec, cwWrite_of_ordered hordered]
        rfl
      refine ⟨hring, fun x hq hne hahead hfits hold => ?_⟩
      have hnew : field v.toNat 32 32 < 2 ^ 32 := Nat.mod_lt _ (by decide)
      rw [hring, ringDoorbell_of_ahead hq (tailDistance_ne_zero hold hnew hne) hahead hfits]
  case flags =>
    have hexec := exec_flagClear_of_admitted hon hadm hpage hlo hhi halign hfour v
    refine ⟨fun hwaits => ?_, fun hordered => ?_⟩
    · rw [hexec, cwWrite_of_waits hwaits]
      rfl
    · rw [hexec, cwWrite_of_ordered hordered, cwApply_flag hlo]
      refine ⟨fun hmatch => ⟨_, rfl, ?_, flagClearAt_frame s _ _ _⟩, fun hmiss => ?_⟩
      · exact flagGet_flagClearAt_of_match hmatch
      · rw [flagClearAt_of_mismatch hmiss, keepQueue_self]

end Sys2Proof.Laws
end

section
/-! PROOFS. The block: what every command answers, how the queue of waiting commands drains, and what a device without power does:
O1 to O7. -/

namespace Sys2Proof.Laws

open Sys2Proof Sys2Proof.Machine

/-! ## Conditionals on a Bool that is known -/

theorem and_of_true {a b : Bool} (ha : a = true) (hb : b = true) : (a && b) = true := Bool.and_eq_true_iff.2 ⟨ha, hb⟩

theorem or_of_false {a b : Bool} (ha : a = false) (hb : b = false) : (a || b) = false := Bool.or_eq_false_iff.2 ⟨ha, hb⟩

section
variable {α : Type} {b : Bool} {x y : α}

theorem if_of_false (h : b = false) : (if b then x else y) = y := if_neg (ne_true_of_eq_false h)

theorem if_not_of_true (h : b = true) : (if !b then x else y) = y := if_of_false (congrArg not h)

theorem if_not_of_false (h : b = false) : (if !b then x else y) = x := if_pos (congrArg not h)

end

/-! ## What every command answers -/

/-- The state that an outcome goes on in, the one before where it stops. -/
def outcomeState (s : State) (o : Host.Outcome State Fault Refusal) : State :=
  o.casesOn (fun t => t) (fun _ => s) fun _ => s

set_option tactic.hygienic false in
/-- Each arm of the model answers through `effect`, so that no command stops the machine (log entry 76). -/
theorem exec_eq_effect (c : Instr) (s : State) : exec c s = effect s (outcomeState s (exec c s)) := by
  induction c <;> rfl

/-- The state with its rails on or off. -/
def withRails (s : State) (on : Bool) : State := { s with power.on := on }

set_option tactic.hygienic false in
/-- But for the pins, the supply and the cartridge slots, each arm answers through `effectOn` (log entry 3). -/
theorem exec_withoutRails (c : Instr) (s : State) :
    exec c (withRails s false) = bif actsUnpowered c then exec c (withRails s false) else .next (withRails s false) := by
  induction c <;> rfl

/-- A command that needs power does nothing without it. -/
theorem exec_of_off {c : Instr} {s : State} (hc : actsUnpowered c = false) (hoff : s.power.on = false) : exec c s = .next s := by
  have hsame : withRails s s.power.on = s := rfl
  rw [hoff] at hsame
  exact hsame ▸ (exec_withoutRails c s).trans (congrArg (cond · _ _) hc)

theorem next_keepQueue_congr {s t u : State} (h : t = u) :
    (.next (keepQueue s t) : Host.Outcome State Fault Refusal) = .next (keepQueue s u) := h ▸ rfl

/-- With power an effect is the next state, whatever is known to equal it. -/
theorem effectOn_of_eq {s t u : State} (hon : s.power.on = true) (h : t = u) : effectOn s t = .next (keepQueue s u) :=
  h ▸ effectOn_on hon

/-! ## One step -/

theorem step_cons (c : Instr) (rest : List Instr) (s : State) :
    step { s with pending := c :: rest } = exec c { s with pending := rest } := rfl

theorem step_of_pending_nil {s : State} (h : s.pending = []) : step s = .next { s with now := s.now + 1 } := by
  delta step
  exact h.symm ▸ rfl

theorem step_of_pending_cons {s : State} {c : Instr} {rest : List Instr} (h : s.pending = c :: rest) :
    step s = exec c { s with pending := rest } := by
  delta step
  exact h.symm ▸ rfl

/-- A command that is carried out takes itself from the queue and leaves the count. -/
def frontTaken (s : State) (c : Instr) (rest : List Instr) : State :=
  keepQueue { s with pending := rest } (outcomeState { s with pending := rest } (exec c { s with pending := rest }))

theorem step_takes_front {s : State} {c : Instr} {rest : List Instr} (h : s.pending = c :: rest) : step s = .next (frontTaken s c rest) :=
  (step_of_pending_cons h).trans (exec_eq_effect c _)

section
variable {n : Nat} {s t : State} (h : step s = .next t)
include h

theorem safeFor_succ : safeFor (n + 1) s = safeFor n t := by
  with_unfolding_all exact (congrArg (fun o : Host.Outcome State Fault Refusal => match o with
    | .next t => safeFor n t
    | .fault _ => false
    | .refused _ => false) h :)

theorem after_succ : after (n + 1) s = after n t := by
  with_unfolding_all exact (congrArg (fun o : Host.Outcome State Fault Refusal => match o with
    | .next t => after n t
    | .fault _ => s
    | .refused _ => s) h :)

end

/-! ## O1 to O4 -/

/-- Settles O1: a step's own equation on a queue that is not empty. -/
theorem stepRunsFrontCommand : Obligations.StepRunsFrontCommand := step_cons

/-- Settles O2: a step's own equation on an empty queue. -/
theorem emptyQueueTicks : Obligations.EmptyQueueTicks := fun _ => step_of_pending_nil

/-- Settles O3: an effect takes the queue and the count from the state before the command. -/
theorem commandsCompleteAndKeepQueue : Obligations.CommandsCompleteAndKeepQueue :=
  fun c s => ⟨_, exec_eq_effect c s, rfl, rfl⟩

/-- The steps after the first drain what it leaves. -/
theorem drains_succ {n : Nat} {s : State} {c : Instr} {rest : List Instr} (hp : s.pending = c :: rest)
    (ih : safeFor n (frontTaken s c rest) = true ∧ (after n (frontTaken s c rest)).pending = rest.drop n ∧
      (after n (frontTaken s c rest)).now = s.now) :
    safeFor (n + 1) s = true ∧ (after (n + 1) s).pending = s.pending.drop (n + 1) ∧ (after (n + 1) s).now = s.now :=
  have hstep := step_takes_front hp
  ⟨(safeFor_succ hstep).trans ih.1,
    (congrArg State.pending (after_succ hstep)).trans (ih.2.1.trans (congrArg (List.drop (n + 1)) hp).symm),
    (congrArg State.now (after_succ hstep)).trans ih.2.2⟩

/-- Settles O4, by induction on the number of steps: the first takes the front command, the others drain what it leaves. -/
theorem queueDrainsInOrder : Obligations.QueueDrainsInOrder := by
  intro n
  induction n with
  | zero => exact fun s _ => ⟨rfl, rfl, rfl⟩
  | succ n ih =>
    exact fun s hn => (List.exists_cons_of_length_pos (Nat.zero_lt_of_lt hn)).elim fun c hc => hc.elim fun rest hp =>
      drains_succ hp (ih _ (Nat.le_of_succ_le_succ (hn.trans_eq (congrArg List.length hp))))

/-! ## A device without power -/

theorem asleep_idles {s₀ s : State} (h : asleep s₀ s) : asleep s₀ { s with now := s.now + 1 } := ⟨h.1, h.2.1, h.2.2⟩

theorem asleep_drains {s₀ s : State} {c : Instr} {rest : List Instr} (hp : s.pending = c :: rest) (h : asleep s₀ s) :
    step s = .next { s with pending := rest } ∧ asleep s₀ { s with pending := rest } :=
  have hsleep : ∀ c' ∈ c :: rest, actsUnpowered c' = false := hp ▸ h.2.1
  ⟨(step_of_pending_cons hp).trans (exec_of_off (hsleep c List.mem_cons_self) h.1), h.1, fun c' hc' => hsleep c' (List.mem_cons_of_mem c hc'), h.2.2⟩

/-- Settles O5: an empty queue only counts a nanosecond; a command that needs power does nothing. -/
theorem unpoweredDeviceSleeps : Obligations.UnpoweredDeviceSleeps := fun _ s _ h hstep =>
  (eq_or_ne s.pending []).elim
    (fun hp => Host.Outcome.next.inj ((step_of_pending_nil hp).symm.trans hstep) ▸ asleep_idles h)
    fun hp => (List.exists_cons_of_ne_nil hp).elim fun _ hc => hc.elim fun _ hp =>
      Host.Outcome.next.inj ((asleep_drains hp h).1.symm.trans hstep) ▸ (asleep_drains hp h).2

/-- Settles O6: after reset the rails are off and no command waits. -/
theorem resetIsAsleep : Obligations.ResetIsAsleep :=
  ⟨rfl, fun c hc => absurd hc (List.not_mem_nil (a := c)), rfl⟩

/-- Refutes O7: the statement does not bound the context's number by its 12 bits, and the key of the state of context 0x111003 is that of
OD 0xA210.03, whose default is 255. -/
theorem not_resetLeaves : ¬ Obligations.ResetLeaves := by
  rintro ⟨-, -, -, hctx, -⟩
  have hstate : ctxState State.reset 0x111003 = 255 := by decide +kernel
  exact absurd (hstate.symm.trans (hctx 0x111003)) (by decide)

end Sys2Proof.Laws
end

section
/-! PROOFS. The dictionary's front end: the codec of items, how a request comes to be taken, and how it is
answered: O8, O13 and O16. -/

namespace Sys2Proof.Laws

open Sys2Proof Sys2Proof.Machine

/-! ## Numbers and items (R56, R65) -/

theorem judgeNum_bool {r : OdRow} {l : List (Nat × Nat)} (hc : r.check = .ivs l) (ht : r.ty = .bool) (n : Nat) :
    judgeNum r n = if 1 < n then .stored (.num 1) .clamped else .stored (.num n) .ok := by
  simp [judgeNum, hc, ht]

theorem judgeNum_codes {r : OdRow} {l : List Nat} (hc : r.check = .codes l) (n : Nat) :
    judgeNum r n = if n ∈ l then .stored (.num n) .ok else .refused .range .enumValue := by
  simp [judgeNum, hc]

theorem judgeNum_mask {r : OdRow} {m : Nat} (hc : r.check = .mask m) (n : Nat) : judgeNum r n = .stored (.num (n &&& m)) .ok := by
  simp [judgeNum, hc]

/-- Settles O8: below the one interval, above it and within it, then the three other checks of a number. -/
theorem numbersAreClamped : Obligations.NumbersAreClamped := by
  intro r n
  refine ⟨fun lo hi hc ht _ => ?_, fun l hc ht => judgeNum_bool hc ht n, fun l hc => judgeNum_codes hc n,
    fun m hc => judgeNum_mask hc n⟩
  by_cases hin : lo ≤ n ∧ n ≤ hi
  · exact (judgeNum_of_mem_ivs hc ht ⟨_, List.mem_singleton_self _, hin⟩).trans
      ((if_neg (Nat.not_lt.2 hin.1)).trans (if_neg (Nat.not_lt.2 hin.2))).symm
  · have hside : n < lo ∨ hi < n := (not_and_or.1 hin).imp Nat.not_le.1 Nat.not_le.1
    have hout : ∀ i ∈ [(lo, hi)], n < i.1 ∨ i.2 < n := List.forall_mem_singleton.2 hside
    refine (judgeNum_of_not_mem_ivs (lo := (lo, hi)) (hi := (lo, hi)) hc ht rfl rfl hout).trans (ite_congr rfl (fun _ => rfl) fun hlo => ?_)
    have hhi := hside.resolve_left hlo
    exact (if_pos hhi).trans (if_pos hhi).symm

/-- Settles O13, by induction on the items: the first item's bytes are read back before the others'. -/
theorem vervoItemsRoundTrip : Obligations.VervoItemsRoundTrip := by
  intro l hl
  induction l with
  | nil => rfl
  | cons i t ih =>
    simp only [List.map_cons, List.flatten_cons, List.length_cons]
    exact parseItems_cons i _ (hl i List.mem_cons_self) _ _ (ih fun j hj => hl j (List.mem_cons_of_mem i hj))

/-! ## Taking operations in turn (R78) -/

@[simp] theorem effectOn_self (s : State) : effectOn s s = .next s :=
  congrArg (fun t => Host.Outcome.next (keepQueue s t)) (ite_self s)

/-- Where nothing waits, nothing is taken. -/
theorem drainOps_of_waiting_nil {s : State} (h : s.dict.waiting = []) : ∀ n, drainOps n s = s
  | 0 => rfl
  | n + 1 => by
    change (if s.dict.ink.isSome then s else match s.dict.waiting with | [] => s | o :: l => drainOps n (runOp { s with dict.waiting := l } o)) = s
    rw [h]
    exact ite_self s

theorem takeOps_of_waiting_nil {s : State} (h : s.dict.waiting = []) : takeOps s = s := drainOps_of_waiting_nil h _

/-- An operation that finds none before it is taken at once. -/
theorem submitOp_of_idle {s : State} (h : idleDict s) (src : Src) (op : Nat) (r : VReq) :
    submitOp s src op r = drainOps 1 (runOp { s with dict.waiting := [] } ⟨src, op, r, s.now⟩) := by
  obtain ⟨hink, hwaiting⟩ := h
  have htake : submitOp s src op r = takeOps { s with dict.waiting := [⟨src, op, r, s.now⟩] } := by rw [submitOp, hwaiting, List.nil_append]
  exact htake.trans (if_neg (by rw [hink]; exact Bool.false_ne_true))

theorem clearWaiting_of_idle {s : State} (h : idleDict s) : { s with dict.waiting := [] } = s :=
  congrArg (fun l => { s with dict.waiting := l }) h.2.symm

/-! ## Requests of stations (R61, R62, R71, R73) -/

theorem stationOp_of_not_datagramOk {s : State} {st : Station} (h : datagramOk s st = false) (op : Nat) (r : VReq) :
    stationOp op st r s = s := if_pos (congrArg not h)

/-- A request that is no repeat and within its source's measure is submitted, once it has been counted. -/
theorem stationOp_of_fresh {s : State} {st : Station} {r : VReq} (h : freshRequest s st r) (op : Nat) :
    stationOp op st r s = submitOp (counted s st.addr) (.station st.addr) op r := by
  obtain ⟨-, hok, hprogress, haccepted, hkept⟩ := h
  have hprogress' : ¬inProgress (odBump s (odKey 0xF001 1) 1) st.addr r.seq.toNat = true := ne_true_of_eq_false hprogress
  refine (if_neg (ne_true_of_eq_false (congrArg not hok))).trans ((if_neg hprogress').trans ((if_neg (Nat.not_le.2 haccepted)).trans ?_))
  change (match keptFor s st.addr r.seq.toNat with | some b => _ | none => _) = _
  rw [hkept]
  rfl

theorem datagramOk_of_foreign {s : State} {st : Station}
    (h : linkLocal st.addr = false ∨ st.hop ≠ 255 ∨ st.port ≠ 48816 ∨ st.sumOk = false) : datagramOk s st = false := by
  refine Bool.eq_false_iff.2 fun hok => ?_
  obtain ⟨hok, hsum⟩ := Bool.and_eq_true_iff.1 hok
  obtain ⟨hok, hport⟩ := Bool.and_eq_true_iff.1 hok
  obtain ⟨hok, hhop⟩ := Bool.and_eq_true_iff.1 hok
  obtain ⟨-, hlink⟩ := Bool.and_eq_true_iff.1 hok
  rcases h with h | h | h | h
  · exact Bool.false_ne_true (h.symm.trans hlink)
  · exact h (BitVec.eq_of_toNat_eq (of_decide_eq_true hhop))
  · exact h (BitVec.eq_of_toNat_eq (of_decide_eq_true hport))
  · exact Bool.false_ne_true (h.symm.trans hsum)

/-- Settles O16: nine of the ten operations are one shared path, and NOTIFY_ACK tests the datagram itself. -/
theorem foreignDatagramsAreDropped : Obligations.ForeignDatagramsAreDropped := by
  intro s st r c hforeign
  have hok : datagramOk s st = false := datagramOk_of_foreign hforeign
  have hop (op : Nat) : effectOn s (stationOp op st r s) = .next s :=
    (congrArg (effectOn s) (stationOp_of_not_datagramOk hok op r)).trans (effectOn_self s)
  have hack : exec (.notifyAck st r) s = .next s :=
    (congrArg (effectOn s) (if_neg (ne_true_of_eq_false hok))).trans (effectOn_self s)
  revert c
  exact List.forall_mem_cons.2 ⟨hop 1, List.forall_mem_cons.2 ⟨hop 2, List.forall_mem_cons.2 ⟨hop 3, List.forall_mem_cons.2 ⟨hop 4,
    List.forall_mem_cons.2 ⟨hop 5, List.forall_mem_cons.2 ⟨hop 6, List.forall_mem_cons.2 ⟨hop 7, List.forall_mem_cons.2 ⟨hop 8,
      List.forall_mem_cons.2 ⟨hop 0x20, List.forall_mem_singleton.2 hack⟩⟩⟩⟩⟩⟩⟩⟩⟩

/-- The state in which a station's request is taken: it has been counted, and nothing waits. -/
def taken (s : State) (a : Ip6) : State := { counted s a with dict.waiting := [] }

/-- A fresh request of a station, where no operation is under way, is run at once. -/
theorem effectOn_stationOp {s : State} {st : Station} {r : VReq} (hfresh : freshRequest s st r) (hidle : idleDict s) {op : Nat}
    (hop : op < opRestore) :
    effectOn s (stationOp op st r s) = .next (keepQueue s (drainOps 1 (runRequest (taken s st.addr) ⟨.station st.addr, op, r, s.now⟩))) := by
  have hsubmit := (stationOp_of_fresh hfresh op).trans (submitOp_of_idle (s := counted s st.addr) hidle _ op r)
  have hrun : runOp (taken s st.addr) ⟨.station st.addr, op, r, s.now⟩ = runRequest (taken s st.addr) ⟨.station st.addr, op, r, s.now⟩ :=
    (if_neg (Nat.ne_of_lt hop)).trans (if_neg (Nat.not_le.2 (Nat.lt_of_lt_of_le hop (by decide))))
  exact (effectOn_on hfresh.1).trans (congrArg (fun t => Host.Outcome.next (keepQueue s t)) (hsubmit.trans (congrArg (drainOps 1) hrun)))

/-! ## What an answer leaves -/

/-- The state `s` with the front end of `t`, in which nothing is under way and the drafts are as given. -/
def answeringState (s t : State) (drafts : List Draft) : State :=
  { s with od := t.od, free := t.free, dict := { t.dict with kept := s.dict.kept, ink := none, waiting := [], drafts := drafts } }

/-- No answer has left yet, and only the front end of the dictionary and its counters, OD 0xF001, differ: a state in which an operation is
about to be answered. -/
def Answering (s t : State) (drafts : List Draft) : Prop :=
  t = answeringState s t drafts ∧ ∀ k, k / 256 ≠ 0xF001 → odGet t k = odGet s k

/-- A count of OD 0xF001 is no other entry. -/
theorem odGet_odBump_counter {s : State} {key k n : Nat} (hkey : key / 256 = 0xF001) (hk : k / 256 ≠ 0xF001) :
    odGet (odBump s key n) k = odGet s k := (odGet_odBump ..).trans (if_neg fun heq : k = key => hk (heq ▸ hkey))

/-- The drafts stand as given. -/
def withDrafts (s : State) (drafts : List Draft) : State := { s with dict.drafts := drafts }

section
variable {s t : State} {ds : List Draft} (h : Answering s t ds)
include h

theorem Answering.generation : generation t = generation s := h.2 _ (by decide)

theorem Answering.waiting : t.dict.waiting = [] := (congrArg (fun u : State => u.dict.waiting) h.1 :)

theorem Answering.odBump {key : Nat} (hkey : key / 256 = 0xF001) (n : Nat) : Answering s (odBump t key n) ds :=
  ⟨congrArg (Machine.odBump · key n) h.1, fun k hk => (odGet_odBump_counter hkey hk).trans (h.2 k hk)⟩

theorem Answering.countItems (l : List VItem) : Answering s (countItems t l) ds := (h.odBump rfl _).odBump rfl _

theorem Answering.withDrafts (ds' : List Draft) : Answering s (withDrafts t ds') ds' :=
  ⟨congrArg (Laws.withDrafts · ds') h.1, h.2⟩

/-- A draft put back stays among the drafts of a state about to answer. -/
theorem Answering.setDraft (d : Draft) : Answering s (setDraft t d) (setDraft t d).dict.drafts := h.withDrafts _

theorem Answering.closeDraft (n : Nat) : Answering s (closeDraft t n) (t.dict.drafts.filter fun e => decide (e.handle ≠ n)) :=
  h.withDrafts _

end

/-- The state in which a fresh request of a station is taken, where no operation is under way. -/
theorem answering_counted {s : State} (hidle : idleDict s) (a : Ip6) : Answering s (taken s a) s.dict.drafts :=
  ⟨congrArg (fun i => { taken s a with dict.ink := i }) hidle.1, fun _ hk => odGet_odBump_counter rfl hk⟩

/-! ## Responses to a source, a station or a window -/

section
variable (s : State) (src : Src) (seq : Nat) (keep : Bool) (b : Bytes)

theorem sendResponse_frame : (sendResponse s src seq keep b).od = s.od ∧ (sendResponse s src seq keep b).blobs = s.blobs ∧
    (sendResponse s src seq keep b).dict.drafts = s.dict.drafts ∧ (sendResponse s src seq keep b).dict.ink = s.dict.ink ∧
    (sendResponse s src seq keep b).dict.waiting = s.dict.waiting := by
  induction src <;> induction keep <;> exact ⟨rfl, rfl, rfl, rfl, rfl⟩

@[simp] theorem sendResponse_od : (sendResponse s src seq keep b).od = s.od := (sendResponse_frame s src seq keep b).1

@[simp] theorem sendResponse_blobs : (sendResponse s src seq keep b).blobs = s.blobs := (sendResponse_frame s src seq keep b).2.1

@[simp] theorem sendResponse_drafts : (sendResponse s src seq keep b).dict.drafts = s.dict.drafts :=
  (sendResponse_frame s src seq keep b).2.2.1

@[simp] theorem sendResponse_ink : (sendResponse s src seq keep b).dict.ink = s.dict.ink := (sendResponse_frame s src seq keep b).2.2.2.1

@[simp] theorem sendResponse_waiting : (sendResponse s src seq keep b).dict.waiting = s.dict.waiting :=
  (sendResponse_frame s src seq keep b).2.2.2.2

/-- What a station is sent is its response; a window keeps it in its buffer. -/
theorem sendResponse_station_out (a : Ip6) : (sendResponse s (.station a) seq keep b).out = s.out ++ [datagram a b] := by
  induction keep <;> rfl

end

/-! ## A station's answer (R64, R71) -/

/-- A command answers a station: the response leaves and is kept, the drafts stand as given, nothing of the front end is under way, and
nothing else of the device has changed. -/
def stationAnswer (s : State) (st : Station) (r : VReq) (c : Instr) (op draft : Nat) (stat : Status) (rsn : Reason) (items : List VItem)
    (drafts : List Draft) : Prop :=
  let b := vervoResponse op r.seq.toNat (generation s) draft stat rsn items
  ∃ t, exec c s = .next t ∧ t.out = s.out ++ [datagram st.addr b] ∧ t.dict.drafts = drafts ∧
    t.dict.kept = ((st.addr, r.seq.toNat, b) :: s.dict.kept).take 64 ∧ t.dict.ink = none ∧ t.dict.waiting = [] ∧
    (∀ k, k / 256 ≠ 0xF001 → odGet t k = odGet s k) ∧ t.blobs = s.blobs ∧
    t.mem = s.mem ∧ t.tier = s.tier ∧ t.xlat = s.xlat ∧ t.feed = s.feed ∧ t.coh = s.coh ∧ t.q = s.q ∧ t.cart = s.cart ∧ t.fab = s.fab ∧
    t.iso = s.iso ∧ t.fw = s.fw ∧ t.boot = s.boot ∧ t.step = s.step ∧ t.power = s.power

theorem stationAnswer_of_answering {s u : State} {st : Station} {r : VReq} {c : Instr} {op draft : Nat} {stat : Status} {rsn : Reason}
    {items : List VItem} {ds : List Draft} (hu : Answering s u ds)
    (hexec : exec c s = .next (keepQueue s (drainOps 1 (answerOp u ⟨.station st.addr, op, r, s.now⟩ draft stat rsn items)))) :
    stationAnswer s st r c op draft stat rsn items ds := by
  have hgen := hu.generation
  obtain ⟨hstate, hod⟩ := hu
  have hwaiting : (answerOp u ⟨.station st.addr, op, r, s.now⟩ draft stat rsn items).dict.waiting = [] :=
    (congrArg (fun u : State => u.dict.waiting) hstate :)
  exact ⟨_, hexec.trans (next_keepQueue_congr (drainOps_of_waiting_nil hwaiting 1)),
    (congrArg₂ (fun o g => o ++ [datagram st.addr (vervoResponse op r.seq.toNat g draft stat rsn items)]) (congrArg State.out hstate) hgen :),
    (congrArg (fun u : State => u.dict.drafts) hstate :),
    (congrArg₂ (fun k g => ((st.addr, r.seq.toNat, vervoResponse op r.seq.toNat g draft stat rsn items) :: k).take 64)
      (congrArg (fun u : State => u.dict.kept) hstate) hgen :),
    (congrArg (fun u : State => u.dict.ink) hstate :), hwaiting, hod,
    (congrArg State.blobs hstate :), (congrArg State.mem hstate :), (congrArg State.tier hstate :), (congrArg State.xlat hstate :),
    (congrArg State.feed hstate :), (congrArg State.coh hstate :), (congrArg State.q hstate :), (congrArg State.cart hstate :),
    (congrArg State.fab hstate :), (congrArg State.iso hstate :), (congrArg State.fw hstate :), (congrArg State.boot hstate :),
    (congrArg State.step hstate :), (congrArg State.power hstate :)⟩

section
variable {s u : State} {st : Station} {r : VReq} {c : Instr} {op : Nat} {ds : List Draft} (hu : Answering s u ds)
include hu

theorem stationAnswer_of_answerCounted {l : List VItem}
    (hexec : exec c s = .next (keepQueue s (drainOps 1 (answerCounted u ⟨.station st.addr, op, r, s.now⟩ l)))) :
    stationAnswer s st r c op r.draft.toNat (statusOf (l.map (·.st))) .none l ds :=
  stationAnswer_of_answering (hu.countItems l) hexec

theorem stationAnswer_of_refuseOp {stat : Status} {rsn : Reason}
    (hexec : exec c s = .next (keepQueue s (drainOps 1 (refuseOp u ⟨.station st.addr, op, r, s.now⟩ stat rsn)))) :
    stationAnswer s st r c op r.draft.toNat stat rsn [] ds := by
  by_cases hstat : stat = .range
  · have hrefuse : refuseOp u ⟨.station st.addr, op, r, s.now⟩ stat rsn = answerOp (odBump u (odKey 0xF001 3) 1) _ _ _ _ _ :=
      congrArg (fun v => answerOp v _ _ _ _ _) (if_pos hstat)
    exact stationAnswer_of_answering (hu.odBump rfl 1) (hrefuse ▸ hexec)
  · have hrefuse : refuseOp u ⟨.station st.addr, op, r, s.now⟩ stat rsn = answerOp u _ _ _ _ _ :=
      congrArg (fun v => answerOp v _ _ _ _ _) (if_neg hstat)
    exact stationAnswer_of_answering hu (hrefuse ▸ hexec)

end

/-! ## A new draft's handle (R80) -/

/-- Of nine candidates, one is free while fewer than nine drafts are open. -/
theorem exists_free_handle {s : State} (hroom : s.dict.drafts.length < 9) (n : Nat) :
    ∃ h ∈ (List.range 9).map (fun i => 1 + (n + i) % 65535), s.dict.drafts.all (fun d => decide (d.handle ≠ h)) = true := by
  by_contra hnone
  have hnodup : ((List.range 9).map (fun i => 1 + (n + i) % 65535)).Nodup :=
    List.Nodup.map_on (fun i hi j hj hij => (Nat.ModEq.add_left_cancel' n (Nat.add_left_cancel hij)).eq_of_lt_of_lt
      (Nat.lt_trans (List.mem_range.1 hi) (by decide)) (Nat.lt_trans (List.mem_range.1 hj) (by decide))) List.nodup_range
  have hsub : (List.range 9).map (fun i => 1 + (n + i) % 65535) ⊆ s.dict.drafts.map (·.handle) := fun h hh => by
    by_contra hfree
    exact hnone ⟨h, hh, List.all_eq_true.2 fun d hd => decide_eq_true fun heq => hfree (heq ▸ List.mem_map_of_mem hd)⟩
  have hlen := (hnodup.subperm hsub).length_le
  rw [List.length_map, List.length_map, List.length_range] at hlen
  exact Nat.not_le.2 hroom hlen

theorem newHandle_spec {s : State} (hroom : s.dict.drafts.length < 9) (n : Nat) :
    newHandle s n ≠ 0 ∧ newHandle s n < 2 ^ 16 ∧ ∀ d ∈ s.dict.drafts, d.handle ≠ newHandle s n := by
  obtain ⟨h, hmem, hfree⟩ := exists_free_handle hroom n
  obtain ⟨k, hk⟩ := Option.isSome_iff_exists.1 (List.find?_isSome (p := fun h => s.dict.drafts.all fun d => decide (d.handle ≠ h)).2
    ⟨h, hmem, hfree⟩)
  have hnew : newHandle s n = k := congrArg (Option.getD · 1) hk
  obtain ⟨i, -, hi⟩ := List.mem_map.1 (List.mem_of_find?_eq_some hk)
  have hlt : 1 + (n + i) % 65535 < 1 + 65535 := Nat.add_lt_add_left (Nat.mod_lt _ (by decide)) 1
  rw [hnew]
  exact ⟨hi ▸ Nat.ne_of_gt (Nat.add_pos_left Nat.one_pos _), hi ▸ hlt,
    fun d hd => of_decide_eq_true (List.all_eq_true.1 (List.find?_some (p := fun h => s.dict.drafts.all fun d => decide (d.handle ≠ h)) hk) d hd)⟩

end Sys2Proof.Laws
end

section
/-! PROOFS. The operations of a station: O14. -/

namespace Sys2Proof.Laws

open Sys2Proof Sys2Proof.Machine

/-! ## What each operation answers (R66, R80-R84, R649, R651) -/

section
variable {s : State} {o : DictOp} {l : List VItem}

theorem runRequest_malformed (hitems : opItems o = none) : runRequest s o = refuseOp s o .range .frame := by
  rw [runRequest, hitems]

/-- What a request comes to whose items are well formed. -/
def runItems (s : State) (o : DictOp) (l : List VItem) : State :=
  if o.op = 1 then answerCounted s o (fitItems (readItem s o.src) 16 l)
  else if o.op = 2 then answerCounted (writeItems o s l).2 o (writeItems o s l).1
  else if o.op = 3 then openDraft s o
  else if o.op = 0x20 then answerCounted s o (fitItems (describeItem s) 16 l)
  else runDraft s o l

/-- A request whose items are well formed is carried out by its OP. -/
theorem runRequest_of_items (hitems : opItems o = some l) : runRequest s o = runItems s o l := by
  rw [runRequest, hitems]
  rfl

theorem runRequest_draftOpen (hitems : opItems o = some l) (hop : o.op = 3) : runRequest s o = openDraft s o :=
  (runRequest_of_items hitems).trans ((if_neg (ne_of_eq_of_ne hop (by decide))).trans ((if_neg (ne_of_eq_of_ne hop (by decide))).trans (if_pos hop)))

theorem runRequest_draft (hitems : opItems o = some l) (hlo : 4 ≤ o.op) (hhi : o.op ≤ 8) : runRequest s o = runDraft s o l :=
  (runRequest_of_items hitems).trans ((if_neg (Nat.ne_of_gt (Nat.lt_of_lt_of_le (by decide) hlo))).trans
    ((if_neg (Nat.ne_of_gt (Nat.lt_of_lt_of_le (by decide) hlo))).trans ((if_neg (Nat.ne_of_gt (Nat.lt_of_lt_of_le (by decide) hlo))).trans
      (if_neg (Nat.ne_of_lt (Nat.lt_of_le_of_lt hhi (by decide)))))))

/-- A draft has been opened under the handle h. -/
def draftOpened (s : State) (src : Src) (h : Nat) : State :=
  { (draw s).2 with dict.drafts := s.dict.drafts ++ [⟨h, (s.dict.openCounter + 1) % 65536, src, [], s.now⟩],
                    dict.openCounter := (s.dict.openCounter + 1) % 65536 }

/-- A new draft takes the next count of openings, and a handle that no draft has. -/
theorem openDraft_room (hroom : s.dict.drafts.length < 8) :
    openDraft s o = answerOp (draftOpened s o.src (newHandle (draw s).2 (draw s).1)) o (newHandle (draw s).2 (draw s).1) .ok .none [] :=
  if_neg (Nat.not_le.2 hroom)

theorem runDraft_noDraft (hdraft : draftOf s o = none) : runDraft s o l = refuseOp s o .range .noDraft := by
  rw [runDraft, hdraft]

/-- What a request comes to on a draft of its source, the draft being put last of all. -/
def runOnDraft (s : State) (o : DictOp) (l : List VItem) (d : Draft) : State :=
  let v := setDraft s d
  let bad := crossFields v d.staged
  if o.op = 4 then answerCounted (setDraft v (stageItems v d l).2) o (stageItems v d l).1
  else if o.op = 5 then answerCheck v o bad
  else if o.op = 6 then if bad ≠ [] then answerCheck v o bad else { v with dict.ink := some o, dict.inkDone := false }
  else if o.op = 7 then answerOp (closeDraft v d.handle) o o.req.draft.toNat .ok .none []
  else answerDraft v o d

/-- A request on a draft of its source is carried out by its OP. -/
theorem runRequest_of_draft {d : Draft} (hitems : opItems o = some l) (hlo : 4 ≤ o.op) (hhi : o.op ≤ 8) (hdraft : draftOf s o = some d) :
    runRequest s o = runOnDraft s o l d := by
  rw [runRequest_draft hitems hlo hhi, runDraft, hdraft]
  rfl

end

/-! ## O14 -/

/-- The operations of a station, by their OP (R66). -/
def stationOps (st : Station) (r : VReq) : List (Instr × Nat) :=
  [(.read st r, 1), (.write st r, 2), (.draftOpen st r, 3), (.draftWrite st r, 4), (.check st r, 5), (.ink st r, 6),
    (.discard st r, 7), (.draftRead st r, 8), (.describe st r, 0x20)]

theorem exec_stationOps {st : Station} {r : VReq} (s : State) :
    ∀ e ∈ stationOps st r, exec e.1 s = effectOn s (stationOp e.2 st r s) ∧ e.2 < opRestore :=
  List.forall_mem_cons.2 ⟨⟨rfl, (by decide : 1 < opRestore)⟩, List.forall_mem_cons.2 ⟨⟨rfl, (by decide : 2 < opRestore)⟩, List.forall_mem_cons.2 ⟨⟨rfl, (by decide : 3 < opRestore)⟩,
    List.forall_mem_cons.2 ⟨⟨rfl, (by decide : 4 < opRestore)⟩, List.forall_mem_cons.2 ⟨⟨rfl, (by decide : 5 < opRestore)⟩, List.forall_mem_cons.2 ⟨⟨rfl, (by decide : 6 < opRestore)⟩,
      List.forall_mem_cons.2 ⟨⟨rfl, (by decide : 7 < opRestore)⟩, List.forall_mem_cons.2 ⟨⟨rfl, (by decide : 8 < opRestore)⟩,
        List.forall_mem_singleton.2 ⟨rfl, (by decide : 0x20 < opRestore)⟩⟩⟩⟩⟩⟩⟩⟩⟩

section
variable {s : State} {st : Station} {r : VReq} (hfresh : freshRequest s st r) (hidle : idleDict s) {i : Instr} {op : Nat}
  (hexec : exec i s = effectOn s (stationOp op st r s)) (hop : op < opRestore)
include hfresh hidle hexec hop

/-- A command of a station answers what its request comes to. -/
theorem exec_of_request {t : State} (ht : runRequest (taken s st.addr) ⟨.station st.addr, op, r, s.now⟩ = t) :
    exec i s = .next (keepQueue s (drainOps 1 t)) :=
  ht ▸ hexec.trans (effectOn_stationOp hfresh hidle hop)

end

theorem draftOpen_answers {s : State} {st : Station} {r : VReq} (hfresh : freshRequest s st r) (hidle : idleDict s)
    (hl : opItems ⟨.station st.addr, 3, r, s.now⟩ = some []) (hroom : s.dict.drafts.length < 8) :
    ∃ h, h ≠ 0 ∧ h < 2 ^ 16 ∧ (∀ d ∈ s.dict.drafts, d.handle ≠ h) ∧ stationAnswer s st r (.draftOpen st r) 3 h .ok .none []
      (s.dict.drafts ++ [⟨h, (s.dict.openCounter + 1) % 65536, .station st.addr, [], s.now⟩]) := by
  have hnew := newHandle_spec (s := (draw (taken s st.addr)).2) (Nat.lt_succ_of_lt hroom) (draw (taken s st.addr)).1
  have hopen := (runRequest_draftOpen hl rfl).trans (openDraft_room (s := taken s st.addr) hroom)
  refine ⟨_, hnew.1, hnew.2.1, hnew.2.2, stationAnswer_of_answering ?_ (exec_of_request hfresh hidle rfl (by decide) hopen)⟩
  have hw := answering_counted hidle st.addr
  exact ⟨congrArg (draftOpened · _ _) hw.1, hw.2⟩

/-- Settles O14: every operation of a fresh request is run at once, in a state that is about to answer; each operation's own equation
says what it answers. -/
theorem stationRequestsAreAnswered : Obligations.StationRequestsAreAnswered := by
  intro s st r hfresh hidle w o answered items
  refine ⟨fun l hl => ?read, fun l hl => ?describe, fun hl hroom => ?opens, fun hl hfull => ?full, fun op l d hl hd => ?draft,
    fun e he => ⟨fun hl => ?malformed, fun l hl hlo hhi hd => ?noDraft⟩⟩
  case read =>
    exact stationAnswer_of_answerCounted (answering_counted hidle _)
      (exec_of_request hfresh hidle rfl (by decide) ((runRequest_of_items (o := o 1) hl).trans (if_pos rfl)))
  case describe =>
    exact stationAnswer_of_answerCounted (answering_counted hidle _) (exec_of_request hfresh hidle rfl (by decide)
      ((runRequest_of_items (o := o 0x20) hl).trans rfl))
  case opens => exact draftOpen_answers hfresh hidle hl hroom
  case full =>
    exact stationAnswer_of_refuseOp (answering_counted hidle _)
      (exec_of_request hfresh hidle rfl (by decide) ((runRequest_draftOpen hl rfl).trans (if_pos hfull)))
  case draft =>
    intro v
    refine ⟨fun hop => ?write, fun hop => ?check, fun hop => ?discard, ?draftRead⟩
    case write =>
      subst hop
      exact stationAnswer_of_answerCounted (((answering_counted hidle _).setDraft d).setDraft _) (exec_of_request hfresh hidle rfl (by decide)
        ((runRequest_of_draft (o := o 4) hl (by decide : 4 ≤ 4) (by decide : 4 ≤ 8) hd).trans rfl))
    case check =>
      subst hop
      exact stationAnswer_of_answerCounted ((answering_counted hidle _).setDraft d) (exec_of_request hfresh hidle rfl (by decide)
        ((runRequest_of_draft (o := o 5) hl (by decide : 4 ≤ 5) (by decide : 5 ≤ 8) hd).trans rfl))
    case discard =>
      subst hop
      exact stationAnswer_of_answering (((answering_counted hidle _).setDraft d).closeDraft d.handle) (exec_of_request hfresh hidle rfl (by decide)
        ((runRequest_of_draft (o := o 7) hl (by decide : 4 ≤ 7) (by decide : 7 ≤ 8) hd).trans rfl))
    case draftRead =>
      intro hop rest l'
      subst hop
      exact stationAnswer_of_answering ((answering_counted hidle _).setDraft d) (exec_of_request hfresh hidle rfl (by decide)
        ((runRequest_of_draft (o := o 8) hl (by decide : 4 ≤ 8) (by decide : 8 ≤ 8) hd).trans rfl))
  case malformed =>
    exact stationAnswer_of_refuseOp (answering_counted hidle _) (exec_of_request hfresh hidle (exec_stationOps s e he).1 (exec_stationOps s e he).2
      (runRequest_malformed hl))
  case noDraft =>
    exact stationAnswer_of_refuseOp (answering_counted hidle _) (exec_of_request hfresh hidle (exec_stationOps s e he).1 (exec_stationOps s e he).2
      ((runRequest_draft hl hlo hhi).trans (runDraft_noDraft hd)))

end Sys2Proof.Laws
end

section
/-! PROOFS. The ends of an ink: O17. -/

namespace Sys2Proof.Laws

open Sys2Proof Sys2Proof.Machine

/-! ## Answers that name failed rules (R20, R84) -/

theorem foldl_statusFirst_range (n : Nat) : (List.replicate n Status.range).foldl statusFirst .range = .range := by
  induction n with
  | zero => rfl
  | succ n ih => exact ih

theorem statusOf_range {l : List Status} (hne : l ≠ []) (hall : ∀ x ∈ l, x = .range) : statusOf l = .range := by
  obtain ⟨x, t, rfl⟩ := List.exists_cons_of_ne_nil hne
  obtain ⟨rfl, ht⟩ := List.forall_mem_cons.1 hall
  rw [List.eq_replicate_of_mem ht]
  exact foldl_statusFirst_range _

/-- Each entry of a failed rule is answered RANGE, and so is the whole. -/
theorem statusOf_crossItems {bad : List Nat} (hbad : bad ≠ []) : statusOf ((crossItems bad).map (·.st)) = .range := by
  refine statusOf_range (fun hnil => ?_) fun x hx => ?_
  · obtain ⟨k, l, rfl⟩ := List.exists_cons_of_ne_nil hbad
    cases hnil
  · obtain ⟨i, hi, rfl⟩ := List.mem_map.1 hx
    obtain ⟨k, -, rfl⟩ := List.mem_map.1 hi
    rfl

/-! ## The ends of an ink (R85, R91) -/

/-- The state from whose front end the ink has been taken. -/
def inkTaken (s : State) : State := { s with dict.ink := none }

section
variable {s : State} {o : DictOp} {d : Draft} (hdraft : draftOf s o = some d)
include hdraft

theorem commitInk_of_holds (hcheck : crossFields s d.staged = []) :
    commitInk s o = composeAnswer (inkValues o.src o.since
      (odSet (closeDraft { s with dict.inkDone := true } d.handle) (odKey 0xE000 2) (draftId d)) d.staged) := by
  rw [commitInk, hdraft]
  exact if_neg (not_not.2 hcheck)

theorem commitInk_of_fails (hcheck : crossFields s d.staged ≠ []) :
    commitInk s o = answerOp (countItems (inkTaken s) (crossItems (crossFields s d.staged))) o o.req.draft.toNat .range .none
      (crossItems (crossFields s d.staged)) := by
  rw [commitInk, hdraft, ← statusOf_crossItems hcheck]
  exact if_pos hcheck

end

section
variable {s : State} {o : DictOp} (hon : s.power.on = true) (hink : s.dict.ink = some o) (hdone : s.dict.inkDone = false)
include hon hink hdone

theorem exec_inkCommit_of_ink : exec .inkCommit s = .next (keepQueue s (takeOps (commitInk s o))) := by
  refine effectOn_of_eq hon ?_
  rw [hink]
  exact if_neg (ne_true_of_eq_false hdone)

theorem exec_inkAborted_of_ink :
    exec .inkAborted s = .next (keepQueue s (takeOps (refuseOp (inkTaken s) o .throttled .inkAborted))) := by
  refine effectOn_of_eq hon ?_
  rw [hink]
  exact if_neg (ne_true_of_eq_false hdone)

end

/-- R83: a draft that is not being inked is discarded. -/
theorem exec_draftIdleTimeout_of_not_inked {s : State} {h : BitVec 16} (hon : s.power.on = true)
    (hfree : ∀ o, s.dict.ink = some o → o.req.draft ≠ h) :
    exec (.draftIdleTimeout h) s = .next (keepQueue s (closeDraft s h.toNat)) := by
  refine effectOn_of_eq hon ?_
  cases hink : s.dict.ink with
  | none => rfl
  | some o => exact if_neg fun hd => hfree o hink (of_decide_eq_true hd)

theorem refuseOp_of_ne_range {stat : Status} (h : stat ≠ .range) (s : State) (o : DictOp) (rsn : Reason) :
    refuseOp s o stat rsn = answerOp s o o.req.draft.toNat stat rsn [] := by
  exact congrArg (fun t => answerOp t o o.req.draft.toNat stat rsn []) (if_neg h)

theorem answerOp_station_out {o : DictOp} {a : Ip6} (ha : o.src = .station a) (u : State) (draft : Nat) (stat : Status) (rsn : Reason) (items : List VItem) :
    (answerOp u o draft stat rsn items).out =
      u.out ++ [datagram a (vervoResponse o.op o.req.seq.toNat (generation u) draft stat rsn items)] := by
  delta answerOp
  exact ha.symm ▸ sendResponse_station_out ..

/-- What an answer leaves, whoever asked: a station is sent it. -/
theorem Answering.answerOp {s u : State} {ds : List Draft} (hu : Answering s u ds) (o : DictOp) (draft : Nat) (stat : Status) (rsn : Reason)
    (items : List VItem) :
    let t := takeOps (answerOp u o draft stat rsn items)
    t.dict.ink = none ∧ t.dict.drafts = ds ∧ t.blobs = s.blobs ∧ t.od = u.od ∧ ∀ a, o.src = .station a →
      t.out = s.out ++ [datagram a (vervoResponse o.op o.req.seq.toNat (Machine.generation s) draft stat rsn items)] := by
  have hwaiting : (Machine.answerOp u o draft stat rsn items).dict.waiting = [] := (sendResponse_waiting ..).trans hu.waiting
  exact (takeOps_of_waiting_nil hwaiting).symm ▸ ⟨(sendResponse_ink ..).trans (congrArg (fun u : State => u.dict.ink) hu.1),
    (sendResponse_drafts ..).trans (congrArg (fun u : State => u.dict.drafts) hu.1), (sendResponse_blobs ..).trans (congrArg State.blobs hu.1 :),
    sendResponse_od .., fun a ha => (answerOp_station_out ha u ..).trans
      (congrArg₂ (fun l g => l ++ [datagram a (vervoResponse o.op o.req.seq.toNat g draft stat rsn items)]) (congrArg State.out hu.1) hu.generation :)⟩

/-- An ink that is taken from the front end, where no operation waits, is about to be answered. -/
theorem answering_inkTaken {s : State} (hwaiting : s.dict.waiting = []) :
    Answering s (inkTaken s) s.dict.drafts :=
  ⟨congrArg (fun l => { inkTaken s with dict.waiting := l }) hwaiting, fun _ _ => rfl⟩

/-- Settles O17: the CHECK at the instant of commitment decides what INK_COMMIT does; an ink that ends without applying leaves a state
that has only answered. -/
theorem inksEnd : Obligations.InksEnd := by
  intro s hon
  refine ⟨fun o d hink hdone hdraft => ⟨fun hcheck => ?applies, fun hcheck hwaiting => ?fails⟩, fun o hink hdone hwaiting => ?aborted,
    fun h hfree => ⟨_, exec_draftIdleTimeout_of_not_inked hon hfree, rfl, rfl⟩, effectOn_on hon⟩
  case applies =>
    exact (exec_inkCommit_of_ink hon hink hdone).trans (next_keepQueue_congr (congrArg takeOps (commitInk_of_holds hdraft hcheck)))
  case fails =>
    have hu := (answering_inkTaken hwaiting).countItems (crossItems (crossFields s d.staged))
    have hleft := hu.answerOp o o.req.draft.toNat .range .none (crossItems (crossFields s d.staged))
    have hexec := (exec_inkCommit_of_ink hon hink hdone).trans
      (next_keepQueue_congr (congrArg takeOps (commitInk_of_fails hdraft hcheck)))
    exact ⟨_, hexec, hleft.1, hleft.2.1, hleft.2.2.1, fun k hk => (odGet_congr _ _ hleft.2.2.2.1 k).trans (hu.2 k hk), hleft.2.2.2.2⟩
  case aborted =>
    have hleft := (answering_inkTaken hwaiting).answerOp o o.req.draft.toNat .throttled .inkAborted []
    have hexec := (exec_inkAborted_of_ink hon hink hdone).trans
      (next_keepQueue_congr (congrArg takeOps (refuseOp_of_ne_range (stat := .throttled) nofun _ o .inkAborted)))
    exact ⟨_, hexec, hleft.1, hleft.2.1, hleft.2.2.2.1, hleft.2.2.1, hleft.2.2.2.2⟩

end Sys2Proof.Laws
end

section
/-! PROOFS. The configuration area: what a saved entry reads as (R525). -/

namespace Sys2Proof.Laws

open Sys2Proof Sys2Proof.Machine

/-! ## Tables -/

theorem tblFind_of_forall_ne {α : Type} {t : Tbl α} {k : Nat} (h : ∀ e ∈ t, e.1 ≠ k) : tblFind t k = none := by
  induction t with
  | nil => rfl
  | cons e t ih =>
    rw [tblFind, if_neg (h e List.mem_cons_self), ih fun e' he' => h e' (List.mem_cons_of_mem e he')]

theorem mem_of_tblFind {α : Type} {t : Tbl α} {k : Nat} {v : α} (h : tblFind t k = some v) : (k, v) ∈ t := by
  induction t with
  | nil => cases h
  | cons e t ih =>
    by_cases hk : e.1 = k
    · have he : e = (k, v) := Prod.ext hk (Option.some.inj ((if_pos hk).symm.trans h))
      exact he ▸ List.mem_cons_self
    · exact List.mem_cons_of_mem e (ih ((if_neg hk).symm.trans h))

/-- In a table whose keys rise, an entry is the one that its key finds. -/
theorem tblFind_of_mem {α : Type} {t : Tbl α} (hwf : tblWf t = true) {e : Nat × α} (he : e ∈ t) : tblFind t e.1 = some e.2 := by
  have hrise := (tblWf_iff t).1 hwf
  clear hwf
  induction hrise with
  | nil => cases he
  | cons hd _ ih =>
    rcases List.mem_cons.1 he with rfl | he
    · exact if_pos rfl
    · exact (if_neg (Nat.ne_of_lt (hd e he))).trans (ih he)

/-! ## Fields of a number that is put together from its parts -/

theorem field_add_high (n v : Nat) {lo w k : Nat} (h : lo + w ≤ k) : field (n + v * 2 ^ k) lo w = field n lo w := by
  obtain ⟨j, rfl⟩ := Nat.exists_eq_add_of_le h
  have hhigh : v * 2 ^ (lo + w + j) = 2 ^ lo * (2 ^ w * (v * 2 ^ j)) := by
    rw [Nat.pow_add, Nat.pow_add, Nat.mul_assoc, Nat.mul_left_comm, Nat.mul_left_comm v]
  rw [field, Nat.shiftRight_eq_div_pow, hhigh, Nat.add_mul_div_left _ _ (Nat.two_pow_pos lo), Nat.add_mul_mod_self_left, field,
    Nat.shiftRight_eq_div_pow]

theorem field_add_top {n v lo w : Nat} (hn : n < 2 ^ lo) (hv : v < 2 ^ w) : field (n + v * 2 ^ lo) lo w = v := by
  rw [field, Nat.shiftRight_eq_div_pow, Nat.add_mul_div_right _ _ (Nat.two_pow_pos lo), Nat.div_eq_of_lt hn, Nat.zero_add, Nat.mod_eq_of_lt hv]

theorem field_of_lt {n w : Nat} (hn : n < 2 ^ w) : field n 0 w = n := Nat.mod_eq_of_lt hn

theorem add_top_lt {n v lo w k : Nat} (hn : n < 2 ^ lo) (hv : v < 2 ^ w) (hk : lo + w = k) : n + v * 2 ^ lo < 2 ^ k := by
  rw [← hk, Nat.pow_add']
  exact Nat.lt_of_lt_of_le (Nat.add_lt_add_right hn _) (Nat.add_comm .. ▸ Nat.succ_mul v _ ▸ Nat.mul_le_mul_right _ hv)

/-! ## The configuration area (R525) -/

/-- The type code that an entry's records carry, 0 without a row. -/
def typeCodeAt (key : Nat) : Nat := match odRow key with | some r => tyCode r.ty | none => 0

theorem typeCodeAt_lt (key : Nat) : typeCodeAt key < 2 ^ 8 := by
  unfold typeCodeAt
  induction odRow key with
  | none => decide
  | some r =>
    change tyCode r.ty < 2 ^ 8
    induction r.ty <;> decide

/-- A value that a record can hold for an entry: index and length fit their fields. -/
def RecordFits (e : Nat × Bytes) : Prop := e.1 / 256 < 2 ^ 16 ∧ e.2.length < 2 ^ 16

/-- The fields of a number of five parts, each within its own. -/
theorem field_of_parts {a b c d e n : Nat} (hn : n = a + b * 2 ^ 16 + c * 2 ^ 24 + d * 2 ^ 32 + e * 2 ^ 48) (ha : a < 2 ^ 16) (hb : b < 2 ^ 8)
    (hc : c < 2 ^ 8) (hd : d < 2 ^ 16) (he : e < 2 ^ 16) :
    field n 0 16 = a ∧ field n 16 8 = b ∧ field n 32 16 = d ∧ field n 48 16 = e := by
  have hab := add_top_lt ha hb (k := 24) rfl
  have habc := add_top_lt hab hc (k := 32) rfl
  have habcd := add_top_lt habc hd (k := 48) rfl
  rw [hn]
  exact ⟨(field_add_high _ e (by decide)).trans ((field_add_high _ d (by decide)).trans ((field_add_high _ c (by decide)).trans
      ((field_add_high _ b (by decide)).trans (field_of_lt ha)))),
    (field_add_high _ e (by decide)).trans ((field_add_high _ d (by decide)).trans ((field_add_high _ c (by decide)).trans
      (field_add_top ha hb))),
    (field_add_high _ e (by decide)).trans (field_add_top habc hd), field_add_top habcd he⟩

theorem configRec_fst (key : Nat) (v : Bytes) :
    (configRec key v).1 = key / 256 + key % 256 * 2 ^ 16 + typeCodeAt key * 2 ^ 24 + v.length % 2 ^ 16 * 2 ^ 32 +
      crc32c v % 2 ^ 16 * 2 ^ 48 := by
  unfold configRec typeCodeAt
  rfl

theorem configRec_snd (key : Nat) (v : Bytes) : (configRec key v).2 = v := by
  unfold configRec
  rfl

/-- A record that fits is good, and is its entry's. -/
theorem configRec_good {e : Nat × Bytes} (h : RecordFits e) :
    recGood (configRec e.1 e.2) = true ∧ recEntry (configRec e.1 e.2) = e.1 := by
  obtain ⟨hkey, hv⟩ := h
  obtain ⟨hidx, hsub, hlen, hcrc⟩ := field_of_parts (configRec_fst e.1 e.2) hkey (Nat.mod_lt e.1 (by decide)) (typeCodeAt_lt e.1)
    (Nat.mod_lt e.2.length (by decide)) (Nat.mod_lt (crc32c e.2) (by decide))
  rw [recGood, recEntry, configRec_snd, hidx, hsub, hlen, hcrc]
  exact ⟨Bool.and_eq_true_iff.2 ⟨decide_eq_true (Nat.mod_eq_of_lt hv), decide_eq_true rfl⟩, Nat.div_add_mod' e.1 256⟩

/-- What is read from a good record fits a record again. -/
theorem recordFits_of_recGood {r : Nat × Bytes} (h : recGood r = true) : RecordFits (recEntry r, r.2) := by
  have hlen : field r.1 32 16 = r.2.length := of_decide_eq_true (Bool.and_eq_true_iff.1 h).1
  have hsub : field r.1 16 8 < 256 := Nat.mod_lt _ (Nat.two_pow_pos 8)
  have hidx : recEntry r / 256 = field r.1 0 16 := by
    rw [recEntry, Nat.mul_comm, Nat.mul_add_div (by decide), Nat.div_eq_of_lt hsub, Nat.add_zero]
  exact ⟨hidx ▸ Nat.mod_lt _ (Nat.two_pow_pos 16), hlen ▸ Nat.mod_lt _ (Nat.two_pow_pos 16)⟩

/-- One record after another, as `configValues` takes them. -/
def takeRec (t : Tbl Bytes) (r : Nat × Bytes) : Tbl Bytes := if recGood r then tblSet t (recEntry r) r.2 else t

theorem configValues_eq (h : ConfigHalf) : configValues h = h.recs.foldl takeRec [] := rfl

theorem takeRec_configRec {e : Nat × Bytes} (h : RecordFits e) (t : Tbl Bytes) : takeRec t (configRec e.1 e.2) = tblSet t e.1 e.2 := by
  obtain ⟨hgood, hentry⟩ := configRec_good h
  rw [takeRec, if_pos hgood, hentry, configRec_snd]

/-- The values of a half stand in rising order and fit a record. -/
theorem foldl_takeRec_keeps (l : List (Nat × Bytes)) {t : Tbl Bytes} (hwf : tblWf t = true) (hfits : ∀ e ∈ t, RecordFits e) :
    tblWf (l.foldl takeRec t) = true ∧ ∀ e ∈ l.foldl takeRec t, RecordFits e := by
  induction l generalizing t with
  | nil => exact ⟨hwf, hfits⟩
  | cons r l ih =>
    by_cases hgood : recGood r = true
    · have hstep : takeRec t r = tblSet t (recEntry r) r.2 := if_pos hgood
      rw [List.foldl_cons, hstep]
      refine ih (tblSet_wf _ _ _ hwf) (fun e he => ?_)
      rcases tblSet_mem _ _ _ _ he with rfl | he
      · exact recordFits_of_recGood hgood
      · exact hfits e he
    · have hstep : takeRec t r = t := if_neg hgood
      rw [List.foldl_cons, hstep]
      exact ih hwf hfits

/-- Records of entries whose values agree on one key leave that value there, where one of them is of that key. -/
theorem tblFind_foldl_records {key : Nat} {v : Bytes} (cur : List (Nat × Bytes)) (hfits : ∀ e ∈ cur, RecordFits e)
    (hone : ∀ e ∈ cur, e.1 = key → e.2 = v) (t : Tbl Bytes) :
    tblFind ((cur.map fun e => configRec e.1 e.2).foldl takeRec t) key =
      if ∃ e ∈ cur, e.1 = key then some v else tblFind t key := by
  induction cur generalizing t with
  | nil => exact (if_neg fun ⟨_, he, _⟩ => absurd he List.not_mem_nil).symm
  | cons e cur ih =>
    obtain ⟨hfit, hfits⟩ := List.forall_mem_cons.1 hfits
    obtain ⟨hval, hone⟩ := List.forall_mem_cons.1 hone
    rw [List.map_cons, List.foldl_cons, takeRec_configRec hfit, ih hfits hone, tblFind_tblSet]
    by_cases hkey : e.1 = key
    · rw [if_pos hkey.symm, hval hkey]
      exact (ite_self _).trans (if_pos ⟨e, List.mem_cons_self, hkey⟩).symm
    · rw [if_neg (Ne.symm hkey)]
      exact if_congr ⟨fun ⟨e', he, hk⟩ => ⟨e', List.mem_cons_of_mem e he, hk⟩,
        fun ⟨e', he, hk⟩ => ⟨e', (List.mem_cons.1 he).resolve_left fun heq => hkey (heq ▸ hk), hk⟩⟩ rfl rfl

/-- A half with one record more. -/
def addRec (h : ConfigHalf) (r : Nat × Bytes) : ConfigHalf := { h with recs := h.recs ++ [r] }

/-- The half in use after a record has been appended: it holds the record last, or, where that did not fit, every current value that
differs from its default. -/
theorem configHalf_configAppend (a : ConfigArea) (key : Nat) (v : Bytes) :
    (configHalf (configAppend a key v)).recs = (configHalf a).recs ++ [configRec key v] ∨
      (configHalf (configAppend a key v)).recs = ((tblSet (configValues (configHalf a)) key v).filter
        fun e => decide (e.2 ≠ defaultBytes e.1)).map fun e => configRec e.1 e.2 := by
  by_cases hnew : newerConfig a = 1 <;> by_cases hroom : halfBytes (addRec (configHalf a) (configRec key v)) ≤ 2 ^ 20
  · have happ : configAppend a key v = { a with half1 := addRec (configHalf a) (configRec key v) } := (if_pos hroom).trans (if_pos hnew)
    have hhalf : configHalf a = a.half1 := if_pos hnew
    rw [hhalf] at happ ⊢
    exact .inl (congrArg ConfigHalf.recs ((congrArg configHalf happ).trans (if_pos hnew)))
  · exact .inr (congrArg (fun b => (configHalf b).recs) ((if_neg hroom).trans (if_pos hnew)))
  · have happ : configAppend a key v = { a with half0 := addRec (configHalf a) (configRec key v) } := (if_pos hroom).trans (if_neg hnew)
    have hhalf : configHalf a = a.half0 := if_neg hnew
    rw [hhalf] at happ ⊢
    exact .inl (congrArg ConfigHalf.recs ((congrArg configHalf happ).trans (if_neg hnew)))
  · exact .inr (congrArg (fun b => (configHalf b).recs) ((if_neg hroom).trans (if_neg hnew)))

/-- R525: the value of an entry that has been appended is read back from the area. -/
theorem configValues_configAppend (a : ConfigArea) {key : Nat} {v : Bytes} (hfits : RecordFits (key, v)) :
    (tblFind (configValues (configHalf (configAppend a key v))) key).getD (defaultBytes key) = v := by
  obtain ⟨hwf, hold⟩ := foldl_takeRec_keeps (configHalf a).recs (t := []) rfl (by simp)
  rw [← configValues_eq] at hwf hold
  rw [configValues_eq]
  rcases configHalf_configAppend a key v with hrecs | hrecs
  · rw [hrecs, List.foldl_concat, takeRec_configRec (e := (key, v)) hfits, tblFind_tblSet, if_pos rfl, Option.getD_some]
  · have hmem : ∀ e ∈ tblSet (configValues (configHalf a)) key v, RecordFits e ∧ (e.1 = key → e.2 = v) := fun e he => by
      refine ⟨?_, fun hk => ?_⟩
      · rcases tblSet_mem _ _ _ _ he with rfl | he
        · exact hfits
        · exact hold e he
      · have hfind := tblFind_of_mem (tblSet_wf _ key v hwf) he
        rw [tblFind_tblSet, if_pos hk] at hfind
        exact (Option.some.inj hfind).symm
    rw [hrecs, tblFind_foldl_records (v := v) _ (fun e he => (hmem e (List.mem_of_mem_filter he)).1)
      (fun e he => (hmem e (List.mem_of_mem_filter he)).2)]
    by_cases hdflt : v = defaultBytes key
    · rw [if_neg]
      · exact hdflt.symm
      · rintro ⟨e, he, hk⟩
        obtain ⟨he, hne⟩ := List.mem_filter.1 he
        refine of_decide_eq_true hne ?_
        rw [(hmem e he).2 hk, hk, hdflt]
    · rw [if_pos, Option.getD_some]
      refine ⟨(key, v), List.mem_filter.2 ⟨mem_of_tblFind (by rw [tblFind_tblSet, if_pos rfl]), decide_eq_true hdflt⟩, rfl⟩

/-- R54: a saved entry is read back from the configuration area, whether it was written there or stood there already. -/
theorem configValues_configSaved (s : State) {key : Nat} (hfits : RecordFits (key, entryBytes s key)) :
    (tblFind (configValues (configHalf (configSaved s key).fw.config)) key).getD (defaultBytes key) = entryBytes s key := by
  by_cases h : entryBytes s key = (tblFind (configValues (configHalf s.fw.config)) key).getD (defaultBytes key)
  · have hsaved : configSaved s key = s := if_pos h
    rw [hsaved, ← h]
  · have hsaved : configSaved s key = { s with fw.config := configAppend s.fw.config key (entryBytes s key) } := if_neg h
    rw [hsaved]
    exact configValues_configAppend s.fw.config hfits

end Sys2Proof.Laws
end

section
/-! PROOFS. The dictionary's housekeeping and GO of a window: O18 and O19. -/

namespace Sys2Proof.Laws

open Sys2Proof Sys2Proof.Machine

/-! ## Housekeeping (R54, R55, R61, R74) -/

section
variable {s : State} (hon : s.power.on = true)
include hon

theorem exec_configSave_of_unsaved {i : BitVec 16} {j : BitVec 8} (hunsaved : odKey i.toNat j.toNat ∈ s.dict.unsaved) :
    exec (.configSave i j) s = .next (keepQueue s { configSaved s (odKey i.toNat j.toNat) with
      dict.unsaved := s.dict.unsaved.filter (· != odKey i.toNat j.toNat) }) :=
  effectOn_of_eq hon (if_neg (ne_true_of_eq_false (congrArg not (List.contains_iff_mem.2 hunsaved))))

theorem exec_notifyRepeat_of_found {q : BitVec 32} {n : Notify}
    (hfound : s.dict.notifies.find? (fun n => decide (n.seq = q.toNat)) = some n) :
    ∃ rest, exec (.notifyRepeat q) s = .next (keepQueue s (emit { s with dict.notifies := rest } (datagram allNodes n.body))) := by
  change ∃ rest, execNotifyRepeat q s = _
  rw [execNotifyRepeat, effectOn_on hon, hfound]
  exact ⟨_, rfl⟩

theorem exec_notifyAck_of_ok {st : Station} (hok : datagramOk s st = true) (r : VReq) :
    exec (.notifyAck st r) s =
      .next (keepQueue s { s with dict.notifies := s.dict.notifies.filter (fun n => decide (n.seq ≠ r.seq.toNat)) }) :=
  effectOn_of_eq hon (if_pos hok)

end

section
variable {s : State} (hup : dictUp s = true)
include hup

theorem exec_restoreDefaults_of_dictUp :
    exec .restoreDefaults s = .next (keepQueue s (submitOp s (.window 0) opRestore ⟨1, 0, 0, 0, 0, []⟩)) :=
  effectOn_of_eq (dictUp_on hup) (if_pos hup)

theorem exec_neighborDiscovery_of_dictUp {a : Ip6} (hlocal : linkLocal a = true) :
    exec (.neighborDiscovery a ownAddress) s = .next (keepQueue s (emit s (.neighborAdvert a ownAddress))) :=
  effectOn_of_eq (dictUp_on hup) (if_pos (Bool.and_eq_true_iff.2 ⟨Bool.and_eq_true_iff.2 ⟨hup, hlocal⟩, decide_eq_true rfl⟩))

theorem exec_echo_of_dictUp {a : Ip6} (hlocal : linkLocal a = true) (b : Bytes) :
    exec (.echo a b) s = .next (keepQueue s (emit s (.echoReply a b))) :=
  effectOn_of_eq (dictUp_on hup) (if_pos (Bool.and_eq_true_iff.2 ⟨hup, hlocal⟩))

end

/-- RESTORE_DEFAULTS, taken in its turn, is one ink (log entry 96). -/
theorem runOp_restore (s : State) (src : Src) (r : VReq) (since : Nat) :
    runOp s ⟨src, opRestore, r, since⟩ = inkValues src since s [(odKey 0xE000 5, .num 1)] := if_pos rfl

/-- Whether or not a record is written, saving an entry touches the configuration area only. -/
theorem configSaved_frame (s : State) (key : Nat) : (configSaved s key).od = s.od ∧ (configSaved s key).blobs = s.blobs := by
  by_cases h : entryBytes s key = (tblFind (configValues (configHalf s.fw.config)) key).getD (defaultBytes key)
  · exact ⟨congrArg State.od (if_pos h), congrArg State.blobs (if_pos h)⟩
  · exact ⟨(congrArg State.od (if_neg h)).trans rfl, (congrArg State.blobs (if_neg h)).trans rfl⟩

theorem odKey_div {idx sub : Nat} (hsub : sub < 256) : odKey idx sub / 256 = idx := by
  rw [odKey, Nat.mul_comm, Nat.mul_add_div (by decide), Nat.div_eq_of_lt hsub, Nat.add_zero]

/-- Settles O18: each command's own equation; what a saved entry reads as afterwards is the configuration area's own law. -/
theorem dictionaryHousekeeping : Obligations.DictionaryHousekeeping := by
  intro s hon
  refine ⟨fun i j hunsaved => ?saves, fun hup => ⟨exec_restoreDefaults_of_dictUp hup, fun hidle => ?restores⟩, fun q n hfound => ?repeats,
    fun st r hok => ⟨_, exec_notifyAck_of_ok hon hok r, rfl, rfl, rfl⟩,
    fun a hup hlocal => ⟨exec_neighborDiscovery_of_dictUp hup hlocal, exec_echo_of_dictUp hup hlocal⟩⟩
  case saves =>
    have hleft := configSaved_frame s (odKey i.toNat j.toNat)
    have hkey : odKey i.toNat j.toNat / 256 < 2 ^ 16 := odKey_div j.isLt ▸ i.isLt
    exact ⟨_, exec_configSave_of_unsaved hon hunsaved, fun hmem => absurd rfl (bne_iff_ne.1 (List.mem_filter.1 hmem).2), hleft.1, hleft.2, rfl,
      fun hlen => configValues_configSaved s ⟨hkey, hlen⟩⟩
  case restores =>
    exact (exec_restoreDefaults_of_dictUp hup).trans (next_keepQueue_congr ((submitOp_of_idle hidle ..).trans (congrArg (drainOps 1)
      ((congrArg (runOp · _) (clearWaiting_of_idle hidle)).trans (runOp_restore ..)))))
  case repeats =>
    have hrepeat := exec_notifyRepeat_of_found hon hfound
    exact ⟨_, hrepeat.choose_spec, rfl, rfl, rfl⟩

/-! ## GO of a window (R76-R78) -/

section
variable {s : State} {p : Fin 8} {v : BitVec 32} (hon : s.power.on = true) (hup : dictUp s = true) (hport : urzenState s p.val = 2)
  (hopen : odGet s (odKey 0x7000 1) = 1)
include hon hup hport hopen

theorem exec_go_of_open : exec (.go p v) s = .next (keepQueue s (windowControl s p v.toNat)) :=
  effectOn_of_eq hon (if_pos (Bool.and_eq_true_iff.2 ⟨Bool.and_eq_true_iff.2 ⟨hup, decide_eq_true hport⟩, decide_eq_true hopen⟩))

end

/-- The state in which GO of an open window is submitted: its LENGTH stands, the window is BUSY, and the request is counted. -/
def goTaken (s : State) (p : Fin 8) (len : Nat) : State :=
  odBump (setDictWindow s p.val { windowOfPort s p.val with reqLen := len, busy := true, done := false }) (odKey 0xF001 1) 1

section
variable {s : State} {p : Fin 8} {ctrl : Nat}

theorem windowControl_without_go (hgo : bitOf ctrl 0 = false) :
    windowControl s p ctrl = setDictWindow s p.val { windowOfPort s p.val with reqLen := field ctrl 16 11 } :=
  if_pos (congrArg not hgo)

section
variable (hgo : bitOf ctrl 0 = true)
include hgo

theorem windowControl_busy (hbusy : (windowOfPort s p.val).busy = true) : windowControl s p ctrl = odBump s (odKey 0xF001 4) 1 :=
  (if_neg (ne_true_of_eq_false (congrArg not hgo))).trans (if_pos hbusy)

variable (hfree : (windowOfPort s p.val).busy = false)
include hfree

theorem windowControl_go (hlo : 16 ≤ field ctrl 16 11) (hhi : field ctrl 16 11 ≤ 1440) :
    windowControl s p ctrl = submitOp (goTaken s p (field ctrl 16 11)) (.window p) (leAt (padTo 1440 (windowOfPort s p.val).req) 1 1)
      (bufferReq ((padTo 1440 (windowOfPort s p.val).req).take (field ctrl 16 11))) :=
  (if_neg (ne_true_of_eq_false (congrArg not hgo))).trans ((if_neg (ne_true_of_eq_false hfree)).trans
    (if_neg (not_or.2 ⟨Nat.not_lt.2 hlo, Nat.not_lt.2 hhi⟩)))

theorem windowControl_badLength (hlen : field ctrl 16 11 < 16 ∨ 1440 < field ctrl 16 11) :
    windowControl s p ctrl = submitOp (goTaken s p (field ctrl 16 11)) (.window p)
      (leAt (padTo 1440 (windowOfPort s p.val).req) 1 1 + opBadLength) (bufferReq (padTo 1440 (windowOfPort s p.val).req)) :=
  (if_neg (ne_true_of_eq_false (congrArg not hgo))).trans ((if_neg (ne_true_of_eq_false hfree)).trans (if_pos hlen))

end
end

theorem runOp_badLength (s : State) (src : Src) (op : Nat) (r : VReq) (since : Nat) :
    runOp s ⟨src, op + opBadLength, r, since⟩ = answerBadLength s ⟨src, op + opBadLength, r, since⟩ := by
  have hrestore : op + opBadLength ≠ opRestore := Nat.ne_of_gt (Nat.lt_of_lt_of_le (by decide) (Nat.le_add_left opBadLength op))
  exact (if_neg hrestore).trans (if_pos (Nat.le_add_left _ _))

/-- R77: a request of a LENGTH out of bounds gets a header of 16 bytes with RANGE and FRAME, behind the request's own VER. -/
theorem badLength_response (ver op seq gen : Nat) :
    let b := natLe 1 ver ++ (vervoResponse op seq gen 0 .range .frame []).drop 1
    b.length = 16 ∧ leAt b 10 1 = statusCode .range ∧ leAt b 11 1 = reasonCode .frame :=
  ⟨rfl, rfl, rfl⟩

@[simp] theorem windowOfPort_keepQueue (s t : State) (p : Nat) : windowOfPort (keepQueue s t) p = windowOfPort t p := rfl

theorem sendResponse_window (s : State) (p : Fin 8) (seq : Nat) (keep : Bool) (b : Bytes) :
    sendResponse s (.window p) seq keep b =
      setDictWindow s p.val { windowOfPort s p.val with resp := b, respLen := b.length, busy := false, done := true } := rfl

/-- Settles O19: DW_CTRL's own equations, by GO, BUSY and LENGTH; a LENGTH out of bounds that finds no operation before it is answered at
once in the window's buffer. -/
theorem windowGo : Obligations.WindowGo := by
  intro s p v hon hup hport hopen w len taken buf
  have hexec := exec_go_of_open (v := v) hon hup hport hopen
  refine ⟨fun hgo => ?_, fun hgo hbusy => ?_, fun hgo hfree hlo hhi => ?_, fun hgo hfree hlen => ⟨?_, fun hidle => ?_⟩⟩
  · exact hexec.trans (next_keepQueue_congr (windowControl_without_go hgo))
  · exact hexec.trans (next_keepQueue_congr (windowControl_busy hgo hbusy))
  · exact hexec.trans (next_keepQueue_congr (windowControl_go hgo hfree hlo hhi))
  · exact hexec.trans (next_keepQueue_congr (windowControl_badLength hgo hfree hlen))
  · have hidle' : idleDict (goTaken s p len) := hidle
    have hanswer := hexec.trans (next_keepQueue_congr ((windowControl_badLength hgo hfree hlen).trans ((submitOp_of_idle hidle' ..).trans
      ((congrArg (drainOps 1) (runOp_badLength ..)).trans (drainOps_of_waiting_nil (sendResponse_waiting ..) 1)))))
    have hbytes := badLength_response (bufferReq buf).ver.toNat (leAt buf 1 1 + opBadLength) (bufferReq buf).seq.toNat
      (generation (goTaken s p len))
    refine ⟨_, hanswer, ?_⟩
    rw [windowOfPort_keepQueue, answerBadLength, sendResponse_window, windowOfPort_setDictWindow, if_pos rfl]
    exact ⟨rfl, rfl, hbytes⟩

end Sys2Proof.Laws
end

section
/-! PROOFS. What the atomics and ROLL compute: O41. -/

namespace Sys2Proof.Laws

open Sys2Proof Sys2Proof.Machine

/-- R125: the four words of an amax slot after a ROLL. -/
theorem field_rollNew (old : Nat) :
    field (rollNew old) 0 32 = 0 ∧ field (rollNew old) 32 32 = field old 0 32 ∧
      field (rollNew old) 64 32 = (field old 64 32 + 1) % 2 ^ 32 ∧ field (rollNew old) 96 32 = field old 96 32 := by
  have hcur : field old 0 32 < 2 ^ 32 := Nat.mod_lt _ (Nat.two_pow_pos 32)
  have hrolls : (field old 64 32 + 1) % 2 ^ 32 < 2 ^ 32 := Nat.mod_lt _ (Nat.two_pow_pos 32)
  have hfourth : field old 96 32 < 2 ^ 32 := Nat.mod_lt _ (Nat.two_pow_pos 32)
  have hnew : rollNew old = 0 + field old 0 32 * 2 ^ 32 + (field old 64 32 + 1) % 2 ^ 32 * 2 ^ 64 + field old 96 32 * 2 ^ 96 := by
    rw [rollNew, Nat.zero_add]
  have htwo := add_top_lt (Nat.two_pow_pos 32) hcur (k := 64) rfl
  have hthree := add_top_lt htwo hrolls (k := 96) rfl
  rw [hnew]
  exact ⟨(field_add_high _ _ (by decide)).trans ((field_add_high _ _ (by decide)).trans ((field_add_high _ _ (by decide)).trans rfl)),
    (field_add_high _ _ (by decide)).trans ((field_add_high _ _ (by decide)).trans (field_add_top (Nat.two_pow_pos 32) hcur)),
    (field_add_high _ _ (by decide)).trans (field_add_top htwo hrolls), field_add_top hthree hfourth⟩

/-- Settles O41: on operands of its width each operation is the one that R307 names. -/
theorem atomicsCompute : Obligations.AtomicsCompute := by
  refine ⟨fun w old a b _ ho ha hb => ?_, fun old _ => field_rollNew old⟩
  have hold : old % 2 ^ (8 * w) = old := Nat.mod_eq_of_lt ho
  have hop : a % 2 ^ (8 * w) = a := Nat.mod_eq_of_lt ha
  refine ⟨congrArg₂ (fun o a => (o + a) % 2 ^ (8 * w)) hold hop, congrArg₂ (· &&& ·) hold hop, congrArg₂ (· ||| ·) hold hop,
    congrArg₂ (· ^^^ ·) hold hop, congrArg₂ max hold hop, congrArg₂ min hold hop, ?max, ?min, hop, ?swap⟩
  case max =>
    have hnew : atomicNew 7 w old a b = if toSigned (8 * w) old < toSigned (8 * w) a then a else old :=
      congrArg₂ (fun o a => if toSigned (8 * w) o < toSigned (8 * w) a then a else o) hold hop
    rw [hnew, apply_ite (toSigned (8 * w)), max_def_lt]
  case min =>
    have hnew : atomicNew 8 w old a b = if toSigned (8 * w) a < toSigned (8 * w) old then a else old :=
      congrArg₂ (fun o a => if toSigned (8 * w) a < toSigned (8 * w) o then a else o) hold hop
    rw [hnew, apply_ite (toSigned (8 * w)), min_comm, min_def_lt]
  case swap =>
    exact (congrArg₂ (fun o a => if o = a then b % 2 ^ (8 * w) else o) hold hop).trans (congrArg (ite _ · _) (Nat.mod_eq_of_lt hb))

end Sys2Proof.Laws
end

section
/-! PROOFS. The dispatch of descriptors: which descriptor a queue dispatches and the work that it begins (O21), and NOP (O22). -/

namespace Sys2Proof.Laws

open Sys2Proof Sys2Proof.Machine

/-! ## What a queue dispatches (R147-R157) -/

theorem readSlot_of_clean {s : State} {c i : Nat} {x : Queue} (hpinned : pinnedOk s c (slotCva x i) 64 .read = true)
    (hclean : (cvaBytes s c (slotCva x i) 64).2 = false) : readSlot s c x i = .desc (leNat (cvaBytes s c (slotCva x i) 64).1) :=
  (if_pos hpinned).trans (if_neg (ne_true_of_eq_false hclean))

/-- A queue that may dispatch, whose next slot can be read, is ready with the slot's descriptor where nothing holds it. -/
theorem readyDesc_of_clear {s : State} {c q : Nat} {y : Queue} {d : Nat} (hq : queueOf s c q = some y)
    (hmay : mayDispatch s c q y = true) (hfree : cvaFree s c (slotCva y y.disp) 64 = true) (hslot : readSlot s c y y.disp = .desc d)
    (hfence : fenced y.kind d = true → y.head = y.disp) (hheld : fenceHeld s c d = false) (hheader : headerOk s c y.kind d = true)
    (hwait : dWaitEn d = true → y.wait = .satisfied) (hop : opDefined y.kind d = true) : readyDesc s c q = some (y, d) := by
  have hfence' : ¬((fenced y.kind d && decide (y.head ≠ y.disp)) || fenceHeld s c d) = true := by
    rw [hheld, Bool.or_false, Bool.and_eq_true_iff]
    exact fun h => of_decide_eq_true h.2 (hfence h.1)
  have hwait' : ¬(dWaitEn d && decide (y.wait ≠ .satisfied)) = true := by
    rw [Bool.and_eq_true_iff]
    exact fun h => of_decide_eq_true h.2 (hwait h.1)
  rw [readyDesc, hq]
  refine (if_neg (ne_true_of_eq_false (congrArg not hmay))).trans ((if_neg (ne_true_of_eq_false (congrArg not hfree))).trans ?_)
  rw [hslot]
  exact (if_neg hfence').trans ((if_neg (ne_true_of_eq_false (congrArg not hheader))).trans ((if_neg hwait').trans
    (if_neg (ne_true_of_eq_false (congrArg not hop)))))

/-! ## The work that a dispatched descriptor begins -/

section
variable {s : State} {c q : Nat} {x : Queue} {d : Nat}

/-- A command of one KIND and opcode begins its work on the descriptor that is due. -/
theorem dispatchAs_begins {k op : Nat} (h : due s c q k x d) (hop : dOp d = op) (f : State → Queue → Nat → State) :
    effectOn s (dispatchAs s c q [k] (fun d => dOp d = op) f) = .next (ended s c q x (f (begun s c q x) x d)) :=
  dispatchAs_runs h (List.mem_singleton_self k) (decide_eq_true hop) f

/-- So does a row operation, which SUB tells apart (R162). -/
theorem dispatchAs_begins_sub {n : Nat} (h : due s c q 1 x d) (hop : dOp d = 3) (hsub : field d 140 4 = n)
    (f : State → Queue → Nat → State) :
    effectOn s (dispatchAs s c q [1] (fun d => decide (dOp d = 3) && decide (field d 140 4 = n)) f) =
      .next (ended s c q x (f (begun s c q x) x d)) :=
  dispatchAs_runs h (List.mem_singleton_self 1) (Bool.and_eq_true_iff.2 ⟨decide_eq_true hop, decide_eq_true hsub⟩) f

/-- A descriptor that the active management core executes begins its work where that core is up (R203, R253). -/
theorem dispatchAs_begins_coreUp {k op : Nat} (h : due s c q k x d) (hup : coreUp (begun s c q x) = true) (hop : dOp d = op)
    (f : State → Queue → Nat → State) :
    effectOn s (dispatchAs s c q [k] (fun d => dOp d = op) (fun s x d => if coreUp s then f s x d else s)) =
      .next (ended s c q x (f (begun s c q x) x d)) :=
  (dispatchAs_begins h hop _).trans (congrArg (fun t => Host.Outcome.next (ended s c q x t)) (if_pos hup))

end

section
variable {s : State} {c : Ctx} {q : QNum} {x : Queue} {d : Nat}

/-- STEP_COMMIT begins where the queue carries out no other (R583). -/
theorem exec_stepCommit_of_due (h : due s c.toNat q.val 1 x d) (hop : dOp d = 0xF)
    (hnone : s.q.jobs.find? (fun j => decide (j.ctx = c.toNat) && decide (j.queue = q.val) && (commitOf j).isSome) = none)
    (io : CommitIo) :
    exec (.stepCommit c q io) s = .next (ended s c.toNat q.val x (doCommit (begun s c.toNat q.val x) c.toNat q.val x d io)) := by
  change execStepCommit c q io s = _
  rw [execStepCommit, hnone]
  exact dispatchAs_begins h hop _

/-- STALE_SCAN begins unless a flush has cut the device over. -/
theorem exec_staleScan_of_due (h : due s c.toNat q.val 6 x d) (hop : dOp d = 0x61) (hcut : cutOver s = false) :
    exec (.staleScan c q) s = .next (ended s c.toNat q.val x (doStaleScan (begun s c.toNat q.val x) c.toNat q.val x d)) := by
  change execStaleScan c q s = _
  rw [execStaleScan, hcut]
  exact dispatchAs_begins h hop _

end

/-- Settles O21: the checks of a dispatch leave the queue ready as it stands; each opcode's command then begins its own work. -/
theorem descriptorsBegin : Obligations.DescriptorsBegin := by
  intro s c q x d w begins
  refine ⟨?dispatches, fun h => ?nib, fun h hup => ?tier, fun h => ?feed, fun h => ?quill, fun h => ?fabric⟩
  case dispatches =>
    intro y hon hq hctx hadmit hproc htail hstep hpinned hfree hclean hd hfence hheld hheader hwait hop hx
    have hready : readyDesc s c.toNat q.val = some (y, d) :=
      readyDesc_of_clear hq (by simp [mayDispatch, admitting, hon, hctx, hadmit, hproc, htail, hstep]) hfree
        (by rw [readSlot_of_clean hpinned hclean, hd]) hfence hheld hheader hwait hop
    exact ⟨⟨hon, ⟨y, by rwa [queuePoll_ready hready], rfl⟩, by rwa [workState_ready hready]⟩, workState_ready hready⟩
  case nib =>
    refine ⟨fun hop => dispatchAs_begins h hop _, fun hop => dispatchAs_begins h hop _, fun hop hsub => dispatchAs_begins_sub h hop hsub _,
      fun hop hsub => dispatchAs_begins_sub h hop hsub _, fun hop hsub => dispatchAs_begins_sub h hop hsub _,
      fun hop => dispatchAs_begins h hop _, fun hop => dispatchAs_begins h hop _,
      fun hop hnone io => exec_stepCommit_of_due h hop (List.find?_eq_none.2 fun j hj => ?_) io⟩
    simpa [and_assoc] using hnone j hj
  case tier =>
    exact ⟨fun hop => dispatchAs_begins_coreUp h hup hop fun s x d => doAlloc s c.toNat q.val x d,
      fun hop => dispatchAs_begins_coreUp h hup hop fun s x d => doFree s c.toNat q.val x d,
      fun hop => dispatchAs_begins_coreUp h hup hop fun s x d => doPin s c.toNat q.val x d true,
      fun hop => dispatchAs_begins_coreUp h hup hop fun s x d => doPin s c.toNat q.val x d false,
      fun hop => dispatchAs_begins_coreUp h hup hop fun s x d => doPlace s c.toNat q.val x d⟩
  case feed => exact ⟨fun hop => dispatchAs_begins h hop _, fun hop => dispatchAs_begins h hop _⟩
  case quill => exact ⟨fun hop => dispatchAs_begins h hop _, fun hop hcut => exec_staleScan_of_due h hop hcut⟩
  case fabric =>
    exact ⟨fun hop => dispatchAs_begins h hop _, fun hop => dispatchAs_begins h hop _, fun hop => dispatchAs_begins h hop _,
      fun hop => dispatchAs_begins h hop _, fun hop => dispatchAs_begins h hop _, fun hop => dispatchAs_begins h hop _⟩

/-! ## NOP (R156) -/

theorem outGen_frame (s : State) (g : Nat) (t : State) : (outGen s g t).q = t.q ∧ (outGen s g t).mem = t.mem ∧
    (outGen s g t).xlat = t.xlat ∧ (outGen s g t).coh = t.coh := by
  unfold outGen
  split <;> exact ⟨rfl, rfl, rfl, rfl⟩

section
variable (s : State) (c q : Nat) (x : Queue) (t : State)

/-- Ending a descriptor's work under its generation touches numbers of the dictionary only. -/
theorem ended_frame : (ended s c q x t).q = t.q ∧ (ended s c q x t).mem = t.mem ∧ (ended s c q x t).xlat = t.xlat ∧
    (ended s c q x t).coh = t.coh := outGen_frame ..

@[simp] theorem ended_q : (ended s c q x t).q = t.q := (ended_frame s c q x t).1

@[simp] theorem ended_mem : (ended s c q x t).mem = t.mem := (ended_frame s c q x t).2.1

@[simp] theorem ended_xlat : (ended s c q x t).xlat = t.xlat := (ended_frame s c q x t).2.2.1

@[simp] theorem ended_coh : (ended s c q x t).coh = t.coh := (ended_frame s c q x t).2.2.2

/-- The numbers it leaves depend on the numbers it finds only. -/
theorem ended_od_congr {t u : State} (h : t.od = u.od) : (ended s c q x t).od = (ended s c q x u).od := by
  by_cases hview : genView (workState s c q) (stampOf (workState s c q) x x.disp) = []
  · exact ((congrArg State.od (if_pos hview)).trans h).trans (congrArg State.od (if_pos hview)).symm
  · exact ((congrArg State.od (if_neg hview)).trans (congrArg (putNums · _) h)).trans (congrArg State.od (if_neg hview)).symm

end

theorem queueOf_of_some {s : State} {c q : Nat} {x : Queue} (h : tblFind s.q.queues (qKey c q) = some x) :
    queueOf s c q = if x.enabled then some x else none := by rw [queueOf, h]

theorem queueOf_of_none {s : State} {c q : Nat} (h : tblFind s.q.queues (qKey c q) = none) : queueOf s c q = none := by rw [queueOf, h]

/-- Adding a job moves the dispatch of its queue on, and leaves the queue enabled. -/
theorem queueOf_addJob {s : State} {c q : Nat} {x : Queue} (hon : x.enabled = true) (d : Nat) (b : JobBody) (r : Option Nat) :
    queueOf (addJob s c q x d b r) c q = some { x with disp := (x.disp + 1) % 2 ^ 32, wait := .unasked } :=
  (queueOf_of_some ((tblFind_tblSet ..).trans (if_pos rfl))).trans (if_pos hon)

theorem queueOf_enabled {s : State} {c q : Nat} {x : Queue} (h : queueOf s c q = some x) : x.enabled = true := by
  cases hfind : tblFind s.q.queues (qKey c q) with
  | none => exact absurd ((queueOf_of_none hfind).symm.trans h) nofun
  | some y =>
    have hy : (if y.enabled then some y else none) = some x := (queueOf_of_some hfind).symm.trans h
    obtain ⟨hon, heq⟩ := Option.ite_none_right_eq_some.1 hy
    exact Option.some.inj heq ▸ hon

theorem queueOf_congr {s t : State} (h : t.q = s.q) (c q : Nat) : queueOf t c q = queueOf s c q := by rw [queueOf, queueOf, h]

/-- Settles O22: NOP's work is to add a job that is complete, which moves its queue's dispatch on and touches nothing else. -/
theorem nopCompletes : Obligations.NopCompletes := by
  intro s c q x d k h hop hlo hhi hk w
  have hkinds : k ∈ [1, 2, 3, 4, 5, 6, 7] := (List.mem_range'_1 (s := 1) (n := 7)).2 ⟨hlo, Nat.lt_succ_of_le hhi⟩
  have hexec : exec (.nop c q) s = .next (ended s c.toNat q.val x (addJob w c.toNat q.val x d .plain (some (plainRecord x.kind .ok d)))) :=
    dispatchAs_runs h hkinds (is := fun d => dOp d = 0) (decide_eq_true hop) _
  have hleft := ended_frame s c.toNat q.val x (addJob w c.toNat q.val x d .plain (some (plainRecord x.kind .ok d)))
  have hqueue := (queueOf_congr hleft.1 c.toNat q.val).trans (queueOf_addJob (queueOf_enabled h.2.2) d .plain _)
  exact ⟨_, hexec, ⟨_, (congrArg QueueSt.jobs hleft.1).trans (addJob_jobs ..), rfl, rfl, rfl, rfl, hk ▸ rfl⟩, ⟨_, hqueue, rfl, rfl, rfl, rfl⟩,
    hleft.2.1, ended_od_congr _ _ _ _ rfl, (congrArg QueueSt.mordants hleft.1 :), (congrArg QueueSt.flags hleft.1 :), hleft.2.2.1, hleft.2.2.2⟩

end Sys2Proof.Laws
end

section
/-! PROOFS. Sync descriptors on mordants: O23, with what an acquire, a release and a flag's event leave as it is. -/

namespace Sys2Proof.Laws

open Sys2Proof Sys2Proof.Machine

/-! ## What a fold leaves -/

/-- What each step of a fold over a list's members keeps, the fold keeps. -/
theorem foldl_keeps_of_mem {α β γ : Type} (g : β → γ) {f : β → α → β} {l : List α} (h : ∀ a ∈ l, ∀ b, g (f b a) = g b) (b : β) :
    g (l.foldl f b) = g b := by
  induction l generalizing b with
  | nil => rfl
  | cons a l ih => exact (ih (List.forall_mem_cons.1 h).2 _).trans ((List.forall_mem_cons.1 h).1 b)

theorem foldl_keeps {α β γ : Type} (g : β → γ) {f : β → α → β} (h : ∀ b a, g (f b a) = g b) (l : List α) (b : β) :
    g (l.foldl f b) = g b :=
  foldl_keeps_of_mem g (fun a _ b => h b a) b

/-- What both branches keep, a conditional keeps. -/
theorem ite_keeps {β γ : Type} (g : β → γ) {p : Prop} [Decidable p] {a b : β} {x : γ} (ha : g a = x) (hb : g b = x) :
    g (if p then a else b) = x := by
  split
  · exact ha
  · exact hb

/-! ## Sends: links, what has been sent, and the count of flag notes -/

/-- `t` is `s` but for its links, what it has sent, and the count of FLAG_NOTE. -/
def SendsOnly (s t : State) : Prop :=
  t = { s with fab := t.fab, out := t.out, od := t.od } ∧ ∀ k ≠ odKey 0x7110 4, tblFind t.od k = tblFind s.od k

theorem SendsOnly.of_od (s : State) {fab : FabricSt} {out : List Msg} : SendsOnly s { s with fab := fab, out := out } :=
  ⟨rfl, fun _ _ => rfl⟩

theorem SendsOnly.refl (s : State) : SendsOnly s s := SendsOnly.of_od s

theorem SendsOnly.trans {s t u : State} (h : SendsOnly s t) (h' : SendsOnly t u) : SendsOnly s u :=
  ⟨h'.1.trans (congrArg (fun v => { v with fab := u.fab, out := u.out, od := u.od }) h.1), fun k hk => (h'.2 k hk).trans (h.2 k hk)⟩

theorem SendsOnly.foldl {α : Type} {f : State → α → State} (h : ∀ s a, SendsOnly s (f s a)) (l : List α) (s : State) :
    SendsOnly s (l.foldl f s) := by
  induction l generalizing s with
  | nil => exact SendsOnly.refl s
  | cons a l ih => exact (h s a).trans (ih _)

theorem SendsOnly.q {s t : State} (h : SendsOnly s t) : t.q = s.q := (congrArg State.q h.1 :)

theorem SendsOnly.mem {s t : State} (h : SendsOnly s t) : t.mem = s.mem := (congrArg State.mem h.1 :)

theorem SendsOnly.log {s t : State} (h : SendsOnly s t) : t.log = s.log := (congrArg State.log h.1 :)

theorem SendsOnly.odGet {s t : State} (h : SendsOnly s t) {k : Nat} (hk : k ≠ odKey 0x7110 4) : odGet t k = odGet s k := by
  rw [Machine.odGet, h.2 k hk, Machine.odGet]

theorem SendsOnly.ite {s t u : State} {p : Prop} [Decidable p] (ht : SendsOnly s t) (hu : SendsOnly s u) : SendsOnly s (if p then t else u) := by
  split
  · exact ht
  · exact hu

theorem sendPacket_sendsOnly (s : State) (link cls hdr : Nat) (data : Bytes) : SendsOnly s (sendPacket s link cls hdr data) :=
  .ite (.of_od s) (.ite (.of_od s) (.of_od s))

theorem sendUrzen_sendsOnly (s : State) (port utype status ctx tag addr lenm1 xarg ticket : Nat) (data : Bytes) :
    SendsOnly s (sendUrzen s port utype status ctx tag addr lenm1 xarg ticket data) :=
  .ite (sendPacket_sendsOnly ..) (.refl s)

theorem odBump_flagNote_sendsOnly (s : State) (n : Nat) : SendsOnly s (odBump s (odKey 0x7110 4) n) :=
  ⟨rfl, fun _ hk => (tblFind_tblSet ..).trans (if_neg hk)⟩

theorem sendFlagNotes_sendsOnly (s : State) (c : Nat) : SendsOnly s (sendFlagNotes s c) :=
  SendsOnly.foldl (fun _ _ => (sendUrzen_sendsOnly ..).trans (odBump_flagNote_sendsOnly ..)) _ s

/-- An event of a flag changes the flags, and sends (R344, R481). -/
theorem flagEvent_sendsOnly (s : State) (c n : Nat) : ∃ flags, SendsOnly { s with q.flags := flags } (flagEvent s c n) :=
  iteInduction (motive := fun t => ∃ flags, SendsOnly { s with q.flags := flags } t)
    (fun _ => ⟨_, .ite (sendFlagNotes_sendsOnly _ c) (.refl _)⟩) fun _ => ⟨s.q.flags, .refl s⟩

/-! ## Queues through memory's side of a line -/

@[simp] theorem passAway_q (s : State) (line mask : Nat) (data : Bytes) : (passAway s line mask data).q = s.q := by
  unfold passAway
  induction tblFind s.mem.away (line / 32) with
  | none => rfl
  | some p =>
    refine foldl_keeps State.q (fun s r => ?_) _ s
    induction (List.range 65536).find? (fun t => (tblFind s.fab.t3 (p.1 * 65536 + t)).isNone) with
    | none => rfl
    | some t => exact (sendUrzen_sendsOnly ..).q

theorem sendUnit_q (s : State) (n row p : Nat) (content : Bytes) : (sendUnit s n row p content).q = s.q := rfl

theorem cleanLine_q (s : State) (frame j : Nat) : (cleanLine s frame j).q = s.q := rfl

@[simp] theorem unitOut_q (s : State) (frame : Nat) : (unitOut s frame).q = s.q :=
  foldl_keeps State.q (fun s _ => foldl_keeps State.q (fun _ _ => sendUnit_q ..) _ s) _ s

@[simp] theorem writeBackFrame_q (s : State) (f : CacheFrame) : (writeBackFrame s f).q = s.q :=
  ite_keeps State.q rfl ((unitOut_q ..).trans (foldl_keeps State.q (fun _ _ => cleanLine_q ..) _ s))

@[simp] theorem settleShare_q (s : State) (c : Nat) : (settleShare s c).q = s.q := ite_keeps State.q rfl rfl

@[simp] theorem dropFrame_q (s : State) (f : CacheFrame) : (dropFrame s f).q = s.q := by
  unfold dropFrame
  induction frameOwner s f.frame with
  | none => exact writeBackFrame_q s f
  | some c => exact (settleShare_q ..).trans (writeBackFrame_q s f)

/-- Dropping the frame that has been used least, if there is one. -/
theorem dropLeast_q (s : State) (l : List CacheFrame) : (match leastUsed l with | some f => dropFrame s f | none => s).q = s.q := by
  induction leastUsed l with
  | none => rfl
  | some f => exact dropFrame_q s f

@[simp] theorem cacheRoom_q (s : State) (c frame : Nat) : (cacheRoom s c frame).q = s.q :=
  have hshare := ite_keeps State.q (p := shareFrames s c ≤ occupancy s c)
    (dropLeast_q s (s.mem.cache.filter fun f => frameOwner s f.frame = some c)) (Eq.refl s.q)
  ite_keeps State.q ((dropLeast_q ..).trans hshare) hshare

@[simp] theorem cacheFill_q (s : State) (line : Nat) : (cacheFill s line).q = s.q := by
  unfold cacheFill
  dsimp only
  induction frameOwner s (line / 32) with
  | none => rfl
  | some c => exact ite_keeps State.q rfl (ite_keeps State.q rfl (cacheRoom_q ..))

@[simp] theorem writeBack_q (s : State) (frame j : Nat) : (writeBack s frame j).q = s.q := unitOut_q ..

@[simp] theorem underCap_q (s : State) (c line fuel : Nat) : (underCap s c line fuel).q = s.q := by
  induction fuel generalizing s with
  | zero => rfl
  | succ n ih =>
    refine ite_keeps State.q rfl ?_
    dsimp only
    induction leastDirty (s.mem.cache.filter fun f => frameOwner s f.frame = some c) with
    | some d => exact (ih _).trans (writeBack_q ..)
    | none =>
      induction leastDirty (waysOf s (setOf s (line / 32))) with
      | some d => exact (ih _).trans (writeBack_q ..)
      | none => rfl

@[simp] theorem lineDirty_q (s : State) (line : Nat) : (lineDirty s line).q = s.q := by
  have hcap (m n : Nat) := ite_keeps State.q (p := dirtyCap (cacheFill s line) < chargeWith (cacheFill s line) line)
    ((underCap_q (odBump (cacheFill s line) (odKey 0x3005 5) 1) m line n).trans (cacheFill_q s line)) (cacheFill_q s line)
  have hset (t : State) (l : List CacheFrame) : (setCache t l).q = t.q := rfl
  exact ite_keeps State.q ((hset ..).trans (hcap _ _)) ((writeBack_q ..).trans (cacheFill_q s line))

@[simp] theorem memTake_q (s : State) (line mask : Nat) (data : Bytes) : (memTake s line mask data).q = s.q := by
  have hwritten := passAway_q { s with mem.mem := memWriteMask s.mem.mem (fwdLine s line * 128) mask data } (fwdLine s line) mask data
  have hclear := ite_keeps (p := mask = fullMask) State.q (a := clearPoison _ (fwdLine s line)) hwritten hwritten
  exact ite_keeps State.q ((lineDirty_q ..).trans hclear) hclear

@[simp] theorem setShadow_q (s : State) (line : Nat) (st : HomeSt) (owner : Option Nat) (sharers : List Nat) :
    (setShadow s line st owner sharers).q = s.q := ite_keeps State.q rfl rfl

@[simp] theorem leaveShadow_q (s : State) (line agent : Nat) : (leaveShadow s line agent).q = s.q := by
  unfold leaveShadow
  induction shadowOf s line with
  | none => rfl
  | some e => exact ite_keeps State.q (setShadow_q ..) (setShadow_q ..)

@[simp] theorem invalidateHere_q (s : State) (agent line : Nat) : (invalidateHere s agent line).q = s.q := by
  unfold invalidateHere
  induction cacheLine s agent line with
  | none => rfl
  | some l =>
    exact ite_keeps State.q rfl ((leaveShadow_q ..).trans (ite_keeps State.q (ite_keeps State.q (memTake_q ..) (memTake_q ..)) rfl))

/-! ## Acquires and releases -/

/-- An acquire discards operand copies, and touches nothing else of the queues. -/
theorem acquireIn_q (s : State) (inst scope : Nat) : ∃ copies, (acquireIn s inst scope).q = { s.q with copies := copies } :=
  iteInduction (motive := fun t : State => ∃ copies, t.q = { s.q with copies := copies }) (fun _ => ⟨s.q.copies, rfl⟩)
    fun _ => ⟨_, ite_keeps State.q (foldl_keeps State.q (fun s _ => foldl_keeps State.q (fun s _ => invalidateHere_q s _ _) _ s) _ _) rfl⟩

/-- But at die scope it leaves memory alone (R322). -/
theorem acquireIn_mem {scope : Nat} (hscope : scope ≠ 3) (s : State) (inst : Nat) : (acquireIn s inst scope).mem = s.mem :=
  ite_keeps State.mem rfl (iteInduction (motive := fun t : State => t.mem = s.mem) (fun h => absurd h hscope) fun _ => rfl)

theorem foldl_const {α β : Type} {f : β → α → β} {b : β} (h : ∀ a, f b a = b) (l : List α) : l.foldl f b = b := by
  induction l with
  | nil => rfl
  | cons a l ih => exact (congrArg (l.foldl f) (h a)).trans ih

/-- A release of stores that have all been released does nothing. -/
theorem releaseIn_of_released {s : State} {c inst scope : Nat} (h : unreleased s c inst scope = []) : releaseIn s c inst scope = s :=
  ite_keeps (p := cutOver s = true) id rfl (foldl_const (fun _ => congrArg (List.foldl _ s) h) _)

/-- Choosing an instance may give the queue an anchor, and take a free value; jobs, mordants, stores and memory stay. -/
theorem instanceOf_frame (s : State) (c q : Nat) (x : Queue) (scope : Nat) :
    (instanceOf s c q x scope).2.q.jobs = s.q.jobs ∧ (instanceOf s c q x scope).2.q.mordants = s.q.mordants ∧
      (instanceOf s c q x scope).2.mem = s.mem := by
  let kept (p : Nat × State) := (p.2.q.jobs, p.2.q.mordants, p.2.mem)
  have h : kept (instanceOf s c q x scope) = kept (0, s) := by
    refine ite_keeps kept rfl ?_
    induction executor s x with
    | some p => rfl
    | none =>
      induction anchorAt x scope with
      | some a => rfl
      | none => cases partnerAnchor s c q x scope <;> rfl
  exact ⟨congrArg (·.1) h, congrArg (·.2.1) h, congrArg (·.2.2) h⟩

/-- So does the check of an acquire on a mordant: a mismatch is counted, flagged and logged (R340, R341). -/
theorem mordAcquire_frame (s : State) (c m scope inst loc : Nat) :
    (mordAcquire s c m scope inst loc).q.jobs = s.q.jobs ∧ (mordAcquire s c m scope inst loc).q.mordants = s.q.mordants ∧
      (mordAcquire s c m scope inst loc).mem = s.mem := by
  obtain ⟨flags, hsends⟩ := flagEvent_sendsOnly (odBump s (odKey 0x5003 1) 1) c 4
  let kept (t : State) := (t.q.jobs, t.q.mordants, t.mem)
  have hevent : kept (flagEvent (odBump s (odKey 0x5003 1) 1) c 4) = kept s :=
    (congrArg₂ (fun (q : QueueSt) m => (q.jobs, q.mordants, m)) hsends.q hsends.mem :)
  have h : kept (mordAcquire s c m scope inst loc) = kept s := ite_keeps kept (ite_keeps kept hevent hevent) rfl
  exact ⟨congrArg (·.1) h, congrArg (·.2.1) h, congrArg (·.2.2) h⟩

/-! ## The work of a sync descriptor (R332, R336, R337) -/

section
variable {s : State} {c q : Nat} {x : Queue} {d : Nat}

theorem doMordant_of_not_owned (howned : mordOwned s c (sMid d) = false) :
    doMordant s c q x d = syncEnd s c q x d .range 0 0 :=
  if_pos (congrArg not howned)

theorem doMordant_read (howned : mordOwned s c (sMid d) = true) (hop : dOp d = 0x52) :
    doMordant s c q x d = mordAcquire (syncEnd (acquireIn (instanceOf s c q x (dScope d)).2
      (locProc (instanceOf s c q x (dScope d)).2 x.scribe) (dScope d)) c q x d .ok (mordGet s (sMid d)).value (mordGet s (sMid d)).lscope)
      c (sMid d) (dScope d) (instanceOf s c q x (dScope d)).1
      (locProc (acquireIn (instanceOf s c q x (dScope d)).2 (locProc (instanceOf s c q x (dScope d)).2 x.scribe) (dScope d)) x.scribe) :=
  (if_neg (ne_true_of_eq_false (congrArg not howned))).trans (if_pos hop)

/-- The state in which a MADD or MSET has released what its instance holds. -/
def mordReleased (s : State) (c q : Nat) (x : Queue) (d : Nat) : State :=
  releaseIn (instanceOf s c q x (dScope d)).2 c (instanceOf s c q x (dScope d)).1 (dScope d)

theorem doMordant_waits (howned : mordOwned s c (sMid d) = true) (hop : dOp d ≠ 0x52)
    (hheld : unreleased (mordReleased s c q x d) c (instanceOf s c q x (dScope d)).1 (dScope d) ≠ []) :
    doMordant s c q x d = mordReleased s c q x d :=
  (if_neg (ne_true_of_eq_false (congrArg not howned))).trans ((if_neg hop).trans (if_pos hheld))

theorem doMordant_updates (howned : mordOwned s c (sMid d) = true) (hop : dOp d ≠ 0x52)
    (hreleased : unreleased (mordReleased s c q x d) c (instanceOf s c q x (dScope d)).1 (dScope d) = []) :
    doMordant s c q x d =
      mordUpdate (syncEnd (mordReleased s c q x d) c q x d .ok (mordGet s (sMid d)).value (mordGet s (sMid d)).lscope) (sMid d)
        (if dOp d = 0x50 then (mordGet s (sMid d)).value + sOperand d else sOperand d) (dScope d) (instanceOf s c q x (dScope d)).1 :=
  (if_neg (ne_true_of_eq_false (congrArg not howned))).trans ((if_neg hop).trans (if_neg (not_not.2 hreleased)))

end

/-- A sync descriptor that completes adds its job, with the record of R337. -/
theorem syncEnd_job (s : State) (c q : Nat) (x : Queue) (d : Nat) (st : Status) (value lscope : Nat) :
    ∃ j, (syncEnd s c q x d st value lscope).q.jobs = s.q.jobs ++ [j] ∧ j.result = some (recSync st (dOp d) (dTag d) value lscope) :=
  ⟨_, addJob_jobs .., rfl⟩

theorem mordGet_congr {s t : State} (h : t.q.mordants = s.q.mordants) (m : Nat) : mordGet t m = mordGet s m := by
  rw [mordGet, h, mordGet]

/-- An update is seen at its own mordant only. -/
theorem mordGet_mordUpdate (s : State) (m v lscope lloc n : Nat) :
    mordGet (mordUpdate s m v lscope lloc) n =
      if n = m then { mordGet s m with value := v % 2 ^ 64, lscope := lscope, lloc := lloc } else mordGet s n := by
  by_cases hn : n = m
  · exact (congrArg (Option.getD · _) ((tblFind_tblSet ..).trans (if_pos hn))).trans (if_pos hn).symm
  · exact (congrArg (Option.getD · _) ((tblFind_tblSet ..).trans (if_neg hn))).trans (if_neg hn).symm

/-- The three sync commands begin one work. -/
theorem exec_sync_of_due {s : State} {c : Ctx} {q : QNum} {x : Queue} {d : Nat} (h : due s c.toNat q.val 5 x d) :
    ∀ i ∈ [(0x50, Instr.madd c q), (0x51, .mset c q), (0x52, .mread c q)], dOp d = i.1 →
      exec i.2 s = .next (ended s c.toNat q.val x (doMordant (begun s c.toNat q.val x) c.toNat q.val x d)) := by
  have hbegins {op : Nat} (hop : dOp d = op) := dispatchAs_begins h hop fun s x d => doMordant s c.toNat q.val x d
  exact List.forall_mem_cons.2 ⟨hbegins, List.forall_mem_cons.2 ⟨hbegins, List.forall_mem_singleton.2 hbegins⟩⟩

/-- What a mordant reads as after the end of a MADD's or MSET's work. -/
theorem mordGet_ended_update (s : State) (c q : Nat) (x : Queue) (d : Nat) (v : State) (value lscope new scope inst n : Nat)
    {m : Nat} {r : Mordant} (hr : mordGet v m = r) :
    mordGet (ended s c q x (mordUpdate (syncEnd v c q x d .ok value lscope) m new scope inst)) n =
      if n = m then { r with value := new % 2 ^ 64, lscope := scope, lloc := inst } else mordGet v n :=
  hr ▸ (mordGet_congr (congrArg QueueSt.mordants (ended_q ..)) n).trans (mordGet_mordUpdate ..)

/-- Settles O23: what the mordant's owner, the opcode and the stores that are held lead to; with no store held a release does nothing, and
what remains is the job and the mordant's own update. -/
theorem syncDescriptors : Obligations.SyncDescriptors := by
  intro s c q x d h w m old inst v u ran
  have hkept := instanceOf_frame w c.toNat q.val x (dScope d)
  let endedNext (t : State) : Host.Outcome State Fault Refusal := .next (ended s c.toNat q.val x t)
  have updates {i : Instr} (hexec : exec i s = endedNext (doMordant w c.toNat q.val x d)) (howned : mordOwned w c.toNat m = true)
      (hop : dOp d ≠ 0x52) : ran i (if dOp d = 0x50 then old.value + sOperand d else sOperand d) := by
    refine ⟨fun hheld => hexec.trans (congrArg endedNext (doMordant_waits howned hop hheld)),
      fun hreleased => hexec.trans (congrArg endedNext (doMordant_updates howned hop hreleased)), fun hnone => ?_⟩
    have hu : u = v := releaseIn_of_released hnone
    have hupdates := hexec.trans (congrArg endedNext ((doMordant_updates howned hop ((congrArg (unreleased · _ _ _) hu).trans hnone)).trans
      (congrArg (fun u => mordUpdate (syncEnd u c.toNat q.val x d .ok old.value old.lscope) m _ (dScope d) inst) hu)))
    have hold : mordGet v m = old := mordGet_congr hkept.2.1 m
    exact ⟨_, hupdates, (mordGet_ended_update (hr := hold) ..).trans (if_pos rfl),
      fun n hn => (mordGet_ended_update (hr := hold) ..).trans ((if_neg hn).trans (mordGet_congr hkept.2.1 n)), (ended_mem ..).trans hkept.2.2, _,
      (congrArg QueueSt.jobs (ended_q ..)).trans (congrArg (· ++ _) hkept.1), rfl⟩
  refine ⟨fun howned => ⟨fun hop => ?adds, fun hop => ?sets, fun hop => ?reads⟩, fun howned i hi hop => ?foreign⟩
  case adds =>
    exact (congrArg (ran (.madd c q)) (if_pos hop)).mp (updates (dispatchAs_begins h hop _) howned (by rw [hop]; decide))
  case sets =>
    exact (congrArg (ran (.mset c q)) (if_neg (by rw [hop]; decide))).mp (updates (dispatchAs_begins h hop _) howned (by rw [hop]; decide))
  case reads =>
    have hexec := (dispatchAs_begins h hop fun s x d => doMordant s c.toNat q.val x d).trans (congrArg endedNext (doMordant_read howned hop))
    have hacq := mordAcquire_frame (syncEnd (acquireIn v (locProc v x.scribe) (dScope d)) c.toNat q.val x d .ok old.value old.lscope) c.toNat m
      (dScope d) inst (locProc (acquireIn v (locProc v x.scribe) (dScope d)) x.scribe)
    have hq := (acquireIn_q v (locProc v x.scribe) (dScope d)).choose_spec
    exact ⟨_, hexec, fun n => mordGet_congr ((congrArg QueueSt.mordants (ended_q ..)).trans (hacq.2.1.trans
        ((congrArg QueueSt.mordants hq).trans hkept.2.1))) n,
      fun hscope => (ended_mem ..).trans (hacq.2.2.trans ((acquireIn_mem hscope ..).trans hkept.2.2)), _,
      (congrArg QueueSt.jobs (ended_q ..)).trans (hacq.1.trans (congrArg (· ++ _) ((congrArg QueueSt.jobs hq).trans hkept.1))), rfl⟩
  case foreign =>
    have hexec := (exec_sync_of_due h i hi hop).trans (congrArg endedNext (doMordant_of_not_owned howned))
    exact ⟨_, hexec, (congrArg QueueSt.mordants (ended_q ..) :), (ended_mem ..), _, (congrArg QueueSt.jobs (ended_q ..)), rfl⟩

end Sys2Proof.Laws
end

section
/-! PROOFS. Nib work and layer windows: O24 and O26. -/

namespace Sys2Proof.Laws

open Sys2Proof Sys2Proof.Machine

/-! ## Tasks (R131, R139, R170-R174) -/

section
variable {s : State} {c : Ctx} {q : QNum} {i : BitVec 32} {j : Job} {m : MatmulSt}

/-- The turn of a context's tasks (R173): by the share weights, and without a weight when no other context has tasks ready. -/
theorem mayHand_of_turn {c : Nat} (h : (nibWeight s c ≠ 0 ∧ inShare (nibWeight s) (handedOut s) c 288 = true) ∨
    (nibWeight s c = 0 ∧ ∀ e ∈ s.q.tasks, e.2.cluster = none → e.2.ctx = c)) : mayHand s c = true := by
  rcases h with ⟨hweight, hshare⟩ | ⟨hweight, hsole⟩
  · exact (if_neg hweight).trans hshare
  · have hnone : s.q.tasks.any (fun e => e.2.cluster.isNone && decide (e.2.ctx ≠ c)) = false :=
      List.any_eq_false.2 fun e he hother => by
        obtain ⟨hready, hctx⟩ := Bool.and_eq_true_iff.1 hother
        exact of_decide_eq_true hctx (hsole e he (Option.isNone_iff_eq_none.1 hready))
    exact (if_pos hweight).trans (congrArg not hnone)

theorem splitTask_whole {t : Task} {n : Nat} (hgroups : t.groups ≤ n) (hstrips : t.strips ≤ n) : splitTask t n = (t, none) :=
  if_pos ⟨hgroups, hstrips⟩

/-- A cluster that takes a task whole changes the tasks and the count of the shares only (R174). -/
theorem startTask_whole {t : Task} {k : Nat} (n : Nat) (hgroups : t.groups ≤ nibsUp s k) (hstrips : t.strips ≤ nibsUp s k) :
    ∃ handed, startTask s n t k = { s with q.tasks := tblSet s.q.tasks n { t with cluster := some k }, q.handed := handed } := by
  unfold startTask
  rw [splitTask_whole hgroups hstrips]
  exact ⟨_, rfl⟩

theorem exec_taskStart_of_turn (hon : s.power.on = true) {k : Fin 288} {n : Nat} {t : Task} (htask : tblFind s.q.tasks n = some t)
    (hready : t.cluster = none) (hfree : ∀ e ∈ s.q.tasks, e.2.cluster ≠ some k.val) (hadmit : admitting s = true)
    (hup : clusterUp s (nibCluster k.val).1 (nibCluster k.val).2 = true) (hctx : ctxActive s t.ctx = true) (hturn : mayHand s t.ctx = true) :
    exec (.taskStart k n) s = .next (keepQueue s (startTask s n t k.val)) := by
  have hany : s.q.tasks.any (fun e => decide (e.2.cluster = some k.val)) = false :=
    List.any_eq_false.2 fun e he htaken => hfree e he (of_decide_eq_true htaken)
  have hheld : (t.cluster.isSome || s.q.tasks.any (fun e => decide (e.2.cluster = some k.val)) || !admitting s ||
      !clusterUp s (nibCluster k.val).1 (nibCluster k.val).2 || !ctxActive s t.ctx || !mayHand s t.ctx) = false := by
    rw [hready, hany, hadmit, hup, hctx, hturn]
    rfl
  exact effectOn_of_eq hon (htask.symm ▸ if_of_false hheld)

theorem exec_taskEnd_of_started (hon : s.power.on = true) (hcut : cutOver s = false) {n : Nat} {t : Task}
    (htask : tblFind s.q.tasks n = some t) (hstarted : t.cluster ≠ none) :
    exec (.taskEnd n) s = .next (keepQueue s (endTask s n t)) := by
  refine effectOn_of_eq hon ?_
  rw [htask]
  exact if_pos (Bool.and_eq_true_iff.2 ⟨Option.isSome_iff_ne_none.2 hstarted, congrArg not hcut⟩)

theorem exec_shadowCheck_of_active (hon : s.power.on = true) (hcut : cutOver s = false)
    (hjob : matmulJob s c.toNat q.val i.toNat = some (j, m)) (hctx : ctxActive s c.toNat = true) (tile : Nat) :
    exec (.shadowCheck c q i tile) s = .next (keepQueue s (shadowTile s j m tile)) := by
  refine effectOn_of_eq hon ?_
  rw [hjob]
  exact (if_of_false hcut).trans (if_pos hctx)

theorem exec_promotedRunEnd_of_promoting (hon : s.power.on = true) (hcut : cutOver s = false)
    (hjob : matmulJob s c.toNat q.val i.toNat = some (j, m)) (hpromoting : m.promoting = true) :
    exec (.promotedRunEnd c q i) s = .next (keepQueue s (promotedRun s j m)) := by
  refine effectOn_of_eq hon ?_
  rw [hjob]
  exact if_pos (Bool.and_eq_true_iff.2 ⟨hpromoting, congrArg not hcut⟩)

end

/-- Settles O24: each command's own equation, and what a cluster that takes a task whole changes. -/
theorem nibWorkGoesOn : Obligations.NibWorkGoesOn := by
  intro s hon
  refine ⟨fun k n t htask hready hfree hadmit hup hctx hturn => ?starts,
    fun hcut n t htask hstarted => exec_taskEnd_of_started hon hcut htask hstarted,
    fun c q i j m hcut hjob => ⟨fun hctx tile => exec_shadowCheck_of_active hon hcut hjob hctx tile,
      fun hpromoting => exec_promotedRunEnd_of_promoting hon hcut hjob hpromoting⟩⟩
  case starts =>
    have hexec := exec_taskStart_of_turn hon htask hready hfree hadmit hup hctx (mayHand_of_turn hturn)
    refine ⟨hexec, fun hgroups hstrips => ?_⟩
    have hwhole := startTask_whole n hgroups hstrips
    exact ⟨_, hexec.trans (next_keepQueue_congr hwhole.choose_spec), rfl, rfl, rfl, rfl⟩

/-! ## Layer windows (R180-R187) -/

/-- The state in which a stalled wait for layer `l` of window `k` has been marked, logged and counted. -/
def stallNoted (s : State) (key k : Nat) (v : Window) (l : Nat) : State :=
  odBump (logEv (setWindow s k { v with waiters := mapWhere (fun y => decide (y.1 = key)) (fun y => (y.1, y.2.1, y.2.2.1, true)) v.waiters })
    "WINDOW_STALL" [k % 16, l % max v.nlayers 1, l]) (odKey 0x2201 4) 1

section
variable {s : State} {c : Ctx} {n : Fin 16} {w : Window}

/-- Fill `g` of a window, started: its streams are under way, and it takes a place in flight (R180, R181). -/
def fillStarted (s : State) (k : Nat) (w : Window) (g : Nat) : State :=
  setWindow (startStreams s (newStream (.fill k g) w.gen w.ctx w.queue w.tag (fillLayer w g).1 (slotAddr w g) (fillLayer w g).2.1)
      (fillLayer w g).2.1) k
    { updFill w g (fun f => { f with started := true, streams := streamCount (fillLayer w g).2.1 }) with
      nextFill := max w.nextFill (g + 1), inFlight := w.inFlight + 1 }

theorem startFill_starts {k g : Nat} (hwin : windowOf s k = some w) (hnext : nextToStart w = some g) (hmay : mayStart s w g = true)
    (hslots : slotsFree s (streamCount (fillLayer w g).2.1) = true) (hctx : ctxActive s w.ctx = true) (hadmit : admitting s = true) :
    startFill s k = fillStarted s k w g := by
  have hheld : (!mayStart s w g || !slotsFree s (streamCount (fillLayer w g).2.1) || !ctxActive s w.ctx || !admitting s) = false := by
    rw [hmay, hslots, hctx, hadmit]
    rfl
  delta startFill
  refine hwin.symm ▸ ?_
  dsimp only
  exact hnext.symm ▸ if_of_false hheld

/-- A fill that has ended, after its streams `xs`: its place in flight is free, and it is counted (R182, R187). -/
def fillDone (s : State) (k : Nat) (w : Window) (g : Nat) (xs : List Stream) : State :=
  advanceFilled (w.fills.length + 1)
    (odBump (odBump (setWindow (dropStreams s (.fill k g)) k
      { updFill w g (fun f => { f with done := true, status := statusOf (xs.map (·.status)), bytes := (xs.map (·.bytes)).sum }) with
        inFlight := w.inFlight - 1 }) (odKey 0x2201 2) (xs.map (·.bytes)).sum)
      (odKey 0x2201 (if statusOf (xs.map (·.status)) = .ok then 1 else 3)) 1) k

theorem exec_windowFillDone_of_done (hon : s.power.on = true) (hwin : windowOf s (winKey c.toNat n.val) = some w) {g : Nat} {xs : List Stream}
    (hxs : (streamsOf s (.fill (winKey c.toNat n.val) g)).map (·.2) = xs) (hsome : xs ≠ []) (hdone : xs.all (·.done) = true) :
    exec (.windowFillDone c n g) s = .next (keepQueue s (fillDone s (winKey c.toNat n.val) w g xs)) := by
  subst hxs
  refine effectOn_of_eq hon ?_
  dsimp only
  exact hwin.symm ▸ if_neg (not_or.2 ⟨hsome, ne_false_of_eq_true hdone⟩)

/-- A wait that is reported late is logged and counted, and flags its context (R186). -/
theorem exec_windowStall_of_stalled (hon : s.power.on = true) {q : QNum} {k : Nat} {v : Window} {y : Nat × Nat × Nat × Bool}
    (hwin : s.q.windows.find? (fun e => e.2.waiters.any (fun x => decide (x.1 = qKey c.toNat q.val) && stalled e.2 x)) = some (k, v))
    (hwaiter : v.waiters.find? (fun x => decide (x.1 = qKey c.toNat q.val)) = some y) :
    exec (.windowStall c q) s = .next (keepQueue s (flagEvent (stallNoted s (qKey c.toNat q.val) k v y.2.1) c.toNat 5)) := by
  refine effectOn_of_eq hon ?_
  dsimp only
  refine hwin.symm ▸ ?_
  dsimp only
  exact hwaiter.symm ▸ rfl

end

/-- Settles O26: each command's own equation; what the report of a late fill leaves is what a flag's event leaves. -/
theorem layerWindows : Obligations.LayerWindows := by
  intro s c n w hon k hwin
  refine ⟨fun g hnext hmay hslots hctx hadmit => ?starts, fun g hsome hdone => exec_windowFillDone_of_done hon hwin rfl hsome hdone, fun q v y hstalled hwaiter => ?stalls⟩
  case starts =>
    exact effectOn_of_eq hon (startFill_starts hwin hnext hmay hslots hctx hadmit)
  case stalls =>
    have hexec := exec_windowStall_of_stalled hon hstalled hwaiter
    have hsends := (flagEvent_sendsOnly (stallNoted s (qKey c.toNat q.val) k v y.2.1) c.toNat 5).choose_spec
    refine ⟨_, hexec, ?_, ⟨⟨"WINDOW_STALL", stampNow s, _⟩, ?_, rfl, rfl⟩, hsends.mem⟩
    · exact (hsends.odGet (by decide)).trans ((odGet_odBump _ _ _ _).trans (if_pos rfl))
    · exact hsends.log.symm ▸ List.mem_cons_self

/-- The window of the tests has a descriptor that has waited too long. -/
theorem window0_windowed_stalled : Tests.windowed.q.windows.find?
    (fun e => e.2.waiters.any fun x => decide (x.1 = qKey 1 0) && stalled e.2 x) = some (16, Tests.window0) :=
  Tests.witness_LayerWindows.2.2.2.2.1

/-- What that window's report leaves. -/
theorem exec_windowStall_window0 : exec (.windowStall 1 0) Tests.windowed =
    .next (keepQueue Tests.windowed (flagEvent (stallNoted Tests.windowed (qKey 1 0) 16 Tests.window0 1) 1 5)) :=
  exec_windowStall_of_stalled (c := 1) (q := 0) (y := (16, 1, 0, false)) Tests.witness_LayerWindows.1 window0_windowed_stalled Tests.witness_LayerWindows.2.2.2.2.2

end Sys2Proof.Laws
end

section
/-! PROOFS. Descriptors whose checks pass, of the translation and the Nib queues: O27, O28 and O29. -/

namespace Sys2Proof.Laws

open Sys2Proof Sys2Proof.Machine

/-! ## A begun work that is known -/

section
variable {s : State} {c q k op : Nat} {x : Queue} {d : Nat} {f : State → Queue → Nat → State} {t : State}

theorem dispatchAs_ends (h : due s c q k x d) (hop : dOp d = op) (ht : f (begun s c q x) x d = t) :
    effectOn s (dispatchAs s c q [k] (fun d => dOp d = op) f) = .next (ended s c q x t) :=
  ht ▸ dispatchAs_begins h hop f

theorem dispatchAs_ends_sub {n : Nat} (h : due s c q 1 x d) (hop : dOp d = 3) (hsub : field d 140 4 = n)
    (ht : f (begun s c q x) x d = t) :
    effectOn s (dispatchAs s c q [1] (fun d => decide (dOp d = 3) && decide (field d 140 4 = n)) f) = .next (ended s c q x t) :=
  ht ▸ dispatchAs_begins_sub h hop hsub f

theorem dispatchAs_ends_coreUp (h : due s c q k x d) (hup : coreUp (begun s c q x) = true) (hop : dOp d = op)
    (ht : f (begun s c q x) x d = t) :
    effectOn s (dispatchAs s c q [k] (fun d => dOp d = op) (fun s x d => if coreUp s then f s x d else s)) = .next (ended s c q x t) :=
  ht ▸ dispatchAs_begins_coreUp h hup hop f

end

/-! ## Translation descriptors (R253-R256, R276-R278) -/

theorem heldStream_of_held {s : State} {c d i : Nat} {y : Stream} {f : FaultRec} (hid : field d 256 16 = i)
    (hstream : streamOf s i = some y) (hfault : y.fault = some f) (hseq : f.seq = field d 272 32)
    (hgroup : odGet s (odKey 0x4100 f.group) = c) (hctx : ctxActive s y.ctx = true) : heldStream s c d = some (i, y) := by
  subst hid
  delta heldStream
  dsimp only
  refine hstream.symm ▸ ?_
  dsimp only
  exact hfault.symm ▸ if_pos ⟨hseq, hgroup, hctx⟩

section
variable (c q : Nat)

/-- The work of RESOLVE, of FAIL and of ADVANCE (R276-R278). -/
def resolveHeld (s : State) (x : Queue) (d : Nat) : State :=
  match heldStream s c d with
  | some (i, _) => issueChunk (clearFault (tierEnd s c q x d .ok 0) i) i none
  | none => tierEnd s c q x d .range 0

@[inherit_doc resolveHeld] def failHeld (s : State) (x : Queue) (d : Nat) : State :=
  match heldStream s c d with
  | some (i, y) => endStream (clearFault (tierEnd s c q x d .ok 0) i) i (standsAt y) .faultUnresolved
  | none => tierEnd s c q x d .range 0

@[inherit_doc resolveHeld] def advanceGroup (s : State) (x : Queue) (d : Nat) : State :=
  let g := field d 256 6
  let h := field d 272 32
  let gr := groupOf s g
  if odGet s (odKey 0x4100 g) = c ∧ (h + 2 ^ 32 - gr.consumed) % 2 ^ 32 ≤ (gr.posted + 2 ^ 32 - gr.consumed) % 2 ^ 32 then
    drainParked (setGroup (tierEnd s c q x d .ok 0) g { gr with consumed := h }) g
  else tierEnd s c q x d .range 0

variable {c q} {s : State} {x : Queue} {d : Nat}

theorem resolveHeld_of_held {i : Nat} {y : Stream} (hheld : heldStream s c d = some (i, y)) :
    resolveHeld c q s x d = issueChunk (clearFault (tierEnd s c q x d .ok 0) i) i none := by rw [resolveHeld, hheld]

theorem resolveHeld_of_none (hnone : heldStream s c d = none) : resolveHeld c q s x d = tierEnd s c q x d .range 0 := by
  rw [resolveHeld, hnone]

theorem failHeld_of_held {i : Nat} {y : Stream} (hheld : heldStream s c d = some (i, y)) :
    failHeld c q s x d = endStream (clearFault (tierEnd s c q x d .ok 0) i) i (standsAt y) .faultUnresolved := by rw [failHeld, hheld]

theorem failHeld_of_none (hnone : heldStream s c d = none) : failHeld c q s x d = tierEnd s c q x d .range 0 := by
  rw [failHeld, hnone]

end

/-- Settles O27: MAP, UNMAP and PROTECT begin as every descriptor of an active core does; the fault that is held decides RESOLVE and FAIL,
and the group's owner and its posted records decide ADVANCE. -/
theorem translationDescriptorsBegin : Obligations.TranslationDescriptorsBegin := by
  intro s c q x d h w runs hup
  have hruns {op : Nat} (hop : dOp d = op) (f : State → Queue → Nat → State) {t : State} (ht : f w x d = t) :=
    dispatchAs_ends_coreUp h hup hop ht
  exact ⟨fun hop => exec_map_of_due h hop hup, fun hop => exec_unmap_of_due h hop hup, fun hop => exec_protect_of_due h hop hup,
    fun i y f hid hstream hfault hseq hgroup hctx =>
      have hheld := heldStream_of_held hid hstream hfault hseq hgroup hctx
      ⟨fun hop => hruns hop (resolveHeld c.toNat q.val) (resolveHeld_of_held hheld), fun hop => hruns hop (failHeld c.toNat q.val) (failHeld_of_held hheld)⟩,
    fun hnone => ⟨fun hop => hruns hop (resolveHeld c.toNat q.val) (resolveHeld_of_none hnone),
      fun hop => hruns hop (failHeld c.toNat q.val) (failHeld_of_none hnone)⟩,
    fun hop => ⟨fun hmine => hruns hop (advanceGroup c.toNat q.val) (if_pos hmine),
      fun hother => hruns hop (advanceGroup c.toNat q.val) (if_neg hother)⟩⟩

/-! ## Nib descriptors (R157-R189) -/

section
variable {s : State} {c q : Nat} {x : Queue} {d : Nat}

theorem startMatmul_begins {wref : Nat} {bound : Option (Nat × Nat)} {ob : Bytes} {m : MatmulSt}
    (hpinned : pinnedOk s c (field d 448 64) 64 .read = true) (hfree : cvaFree s c (field d 448 64) 64 = true)
    (hblock : cvaBytes s c (field d 448 64) 64 = (ob, false))
    (hm : m = { matmulOf d (leNat ob) (stamped s x) with wref := wref, bound := bound }) (hoperands : operandsOk s c m = true)
    (himage : imagePinned s c m.wfmt (mK m) m.wref m.strips = true) :
    startMatmul s c q x d wref bound = matmulBegins s c q x d m := by
  subst hm
  have hblock' : (cvaBytes s c (field d 448 64) 64).2 = false := congrArg Prod.snd hblock
  refine (if_not_of_true hpinned).trans ((if_not_of_true hfree).trans ((if_of_false hblock').trans ?_))
  rw [hblock]
  exact if_of_false (or_of_false (congrArg not hoperands) (congrArg not himage))

theorem doMatmul_cva (hfields : matmulFields d = true) (hcva : bitOf d 148 = false) :
    doMatmul s c q x d = startMatmul s c q x d (field d 256 64) none :=
  (if_not_of_true hfields).trans (if_of_false hcva)

theorem doMatmul_window {v : State} {g : Nat} {win : Window} (hfields : matmulFields d = true) (hwindow : bitOf d 148 = true)
    (hbound : bindFill s c q x.disp (field d 256 4) (field d 260 12) = .ready v g)
    (hwin : windowOf v (winKey c (field d 256 4)) = some win) (hoff : 16 * field d 272 32 < (fillLayer win g).2.1) :
    doMatmul s c q x d =
      startMatmul v c q x d (slotAddr win g + 16 * field d 272 32) (some (winKey c (field d 256 4), g)) := by
  refine (if_not_of_true hfields).trans ((if_pos hwindow).trans ?_)
  dsimp only
  rw [hbound]
  dsimp only
  rw [hwin]
  exact if_neg (Nat.not_le.2 hoff)

theorem attnRefused_none {a : AttnDesc} (htables : tablesPoisoned s c a = false)
    (hok : attnOk s c a (seqNow s c a).1 (seqNow s c a).2 = true)
    (hclean : anyPoison s c (attnReads s c a (seqNow s c a).1 (seqNow s c a).2) = false) : attnRefused s c a = none :=
  (if_of_false htables).trans ((if_not_of_true hok).trans (if_of_false hclean))

theorem doAttn_begins (hfields : attnFields (attnOf d) = true)
    (hpinned : pinnedOk s c (attnOf d).seqtab (64 + 32 * (attnOf d).nseq) .read = true) (hfree : attnFree s c d = true)
    (hrefused : attnRefused s c (attnOf d) = none) :
    doAttn s c q x d = attnBegins s c q x d ((seqNow s c (attnOf d)).2.map (·.slot)) := by
  refine (if_of_false (or_of_false (congrArg not hfields) (congrArg not hpinned))).trans ((if_not_of_true hfree).trans ?_)
  rw [hrefused]

theorem doRowop_runs (hok : rowOk s c (rowOf d) = true) (hreads : allFree s c (rowReads (rowOf d)) = true)
    (hwrites : allTake s c (rowWrites (rowOf d)) = true) (hclean : anyPoison s c (rowReads (rowOf d)) = false) :
    doRowop s c q x d = rowopRuns s c q x d :=
  (if_not_of_true hok).trans ((if_of_false (or_of_false (congrArg not hreads) (congrArg not hwrites))).trans (if_of_false hclean))

theorem doWindowClose_open {w : Window} (hwin : windowOf s (winKey c (field d 128 4)) = some w) (hopen : w.closed = false) :
    let k := winKey c (field d 128 4)
    let u := addJob ((w.fills.filter (fun f => decide (f.bound = []))).foldl (fun s f => dropStreams s (.fill k f.g)) s) c q x d (.close k) none
    doWindowClose s c q x d =
      settleClose (startFills (flightLimit u w) (setWindow u k (closedWindow w (qKey c q, x.disp))) k) k := by
  intro k u
  delta doWindowClose
  dsimp only
  exact hwin.symm ▸ if_of_false hopen

end

/-- The fills that a close drops, and of them those in flight (R189). -/
theorem closedWindow_eq (w : Window) (closer : Nat × Nat) :
    closedWindow w closer = { w with
      fills := w.fills.filter (fun f => decide (f.bound ≠ [])), closed := true,
      inFlight := w.inFlight - ((w.fills.filter (fun f => decide (f.bound = []))).filter (fun f => f.started && !f.done)).length,
      closer := some closer } := by
  rw [List.filter_filter]
  have hlive : (fun f : Fill => (f.started && !f.done) && decide (f.bound = [])) = fun f => decide (f.bound = []) && f.started && !f.done :=
    funext fun f => by rw [Bool.and_comm, Bool.and_assoc]
  rw [hlive, closedWindow]

/-- Settles O28: each descriptor's work, which the passing checks lead to the branch in which it runs. -/
theorem nibDescriptorsRun : Obligations.NibDescriptorsRun := by
  intro s c q x d h w runs
  refine ⟨fun ob m hop hfields hcva hpinned hfree hblock hm hoperands himage => ?cva,
    fun v g win ob m hop hfields hwindow hbound hwin hoff hpinned hfree hblock hm hoperands himage => ?window,
    fun hop hfields hpinned hfree htables hok hclean => ?attn, fun hop hok hreads hwrites hclean => ?rows,
    fun v hop hwin hopen => ?close⟩
  case cva =>
    have hbegins : doMatmul w c.toNat q.val x d = matmulBegins w c.toNat q.val x d m :=
      (doMatmul_cva hfields hcva).trans (startMatmul_begins hpinned hfree hblock hm hoperands himage)
    exact dispatchAs_ends h hop (f := fun s x d => doMatmul s c.toNat q.val x d) hbegins
  case window =>
    have hbegins : doMatmul w c.toNat q.val x d = matmulBegins v c.toNat q.val x d m :=
      (doMatmul_window hfields hwindow hbound hwin hoff).trans (startMatmul_begins hpinned hfree hblock hm hoperands himage)
    exact dispatchAs_ends h hop (f := fun s x d => doMatmul s c.toNat q.val x d) hbegins
  case attn =>
    have hbegins := doAttn_begins (q := q.val) (x := x) hfields hpinned hfree (attnRefused_none htables hok hclean)
    exact dispatchAs_ends h hop (f := fun s x d => doAttn s c.toNat q.val x d) hbegins
  case rows =>
    have hruns : doRowop w c.toNat q.val x d = rowopRuns w c.toNat q.val x d := doRowop_runs hok hreads hwrites hclean
    exact ⟨fun hsub => dispatchAs_ends_sub h hop hsub (f := fun s x d => doRowop s c.toNat q.val x d) hruns,
      fun hsub => dispatchAs_ends_sub h hop hsub (f := fun s x d => doRowop s c.toNat q.val x d) hruns,
      fun hsub => dispatchAs_ends_sub h hop hsub (f := fun s x d => doRowop s c.toNat q.val x d) hruns⟩
  case close =>
    have hcloses := doWindowClose_open (q := q.val) (x := x) hwin hopen
    rw [closedWindow_eq] at hcloses
    exact dispatchAs_ends h hop (f := fun s x d => doWindowClose s c.toNat q.val x d) hcloses

/-! ## WINDOW_OPEN (R177-R179, R188, R193) -/

section
variable {s : State} {c q : Nat} {x : Queue} {d : Nat}

theorem layerTable_length (s : State) (c cva n : Nat) : (layerTable s c cva n).length = n := by rw [layerTable, List.length_map, List.length_range]

/-- A WINDOW_OPEN whose table can be read and whose window fits is opened, unless 256 windows are open. -/
theorem doWindowOpen_fits {ls : List (Nat × Nat × Nat)} (hlo : 1 ≤ field d 144 16) (hhi : field d 144 16 ≤ 4096)
    (htab : field d 256 64 % 32 = 0) (hpinned : pinnedOk s c (field d 256 64) (32 * field d 144 16) .read = true)
    (hfree : cvaFree s c (field d 256 64) (32 * field d 144 16) = true)
    (hclean : (cvaBytes s c (field d 256 64) (32 * field d 144 16)).2 = false)
    (hls : layerTable s c (field d 256 64) (field d 144 16) = ls) (hlengths : ∀ l ∈ ls, l.2.1 ≠ 2 ^ 40 - 1)
    (hfits : windowFits s c d ls ((stamped s x).getD 9 12) ((stamped s x).getD 10 8192) = true) :
    doWindowOpen s c q x d = if 256 ≤ s.q.windows.length then nibEnd s c q x d .throttled
      else windowOpens s c q x d ls ((stamped s x).getD 9 12) := by
  have hfields : ¬(field d 144 16 = 0 ∨ 4096 < field d 144 16 ∨ field d 256 64 % 32 ≠ 0 ∨
      pinnedOk s c (field d 256 64) (32 * field d 144 16) .read = false) := by
    rintro (h | h | h | h)
    · exact Nat.ne_of_gt hlo h
    · exact Nat.not_lt.2 hhi h
    · exact h htab
    · exact ne_true_of_eq_false h hpinned
  have hlens : ls.any (fun l => decide (l.2.1 = 2 ^ 40 - 1)) = false :=
    List.any_eq_false.2 fun l hl h => hlengths l hl (of_decide_eq_true h)
  subst hls
  exact (if_neg hfields).trans ((if_not_of_true hfree).trans ((if_of_false hclean).trans ((if_of_false hlens).trans (if_not_of_true hfits))))

end

/-- Settles O29: the checks that pass, clause by clause, leave the number of open windows to decide. -/
theorem windowsOpen : Obligations.WindowsOpen := by
  intro s c q x d h hop w n tab slots ls depth hlo hhi hfilled hrel htab hslots hpinned hfree hclean hlayers hnone hsize hread hwrite hplaced
  have hlength : ls.length = n := layerTable_length ..
  have hlayersFit : ls.all (fun l => decide (l.2.1 ≠ 0) && decide (l.2.1 % 16 = 0) && decide (l.1 % 16 = 0) &&
      decide (l.1 + l.2.1 ≤ cvaEnd) && (decide (ls.length ≤ depth) || decide (l.2.2 ≠ 0))) = true := by
    rw [hlength]
    exact List.all_eq_true.2 fun l hl =>
      have hl := (hlayers l hl).2
      and_of_true (and_of_true (and_of_true (and_of_true (decide_eq_true hl.1) (decide_eq_true hl.2.1)) (decide_eq_true hl.2.2.1))
        (decide_eq_true hl.2.2.2.1)) (Bool.or_eq_true_iff.2 (hl.2.2.2.2.imp decide_eq_true decide_eq_true))
  have hfits : windowFits w c.toNat d ls depth ((stamped w x).getD 10 8192) = true := by
    have hunused : (windowOf w (winKey c.toNat (field d 128 4))).isNone = true := Option.isNone_iff_eq_none.2 hnone
    exact and_of_true (and_of_true (and_of_true (and_of_true (and_of_true (and_of_true (and_of_true (and_of_true hfilled hrel)
      (decide_eq_true hslots)) hunused) (decide_eq_true hsize)) hlayersFit) hread) hwrite) hplaced
  have hopens := doWindowOpen_fits (q := q.val) hlo hhi htab hpinned hfree hclean rfl (fun l hl => (hlayers l hl).1) hfits
  exact ⟨fun hroom => dispatchAs_ends h hop (f := fun s x d => doWindowOpen s c.toNat q.val x d)
      (hopens.trans (if_neg (Nat.not_le.2 hroom))),
    fun hfull => dispatchAs_ends h hop (f := fun s x d => doWindowOpen s c.toNat q.val x d) (hopens.trans (if_pos hfull))⟩

end Sys2Proof.Laws
end

section
/-! PROOFS. Tier, Feed and Quill descriptors whose checks pass: O30 and O32. -/

namespace Sys2Proof.Laws

open Sys2Proof Sys2Proof.Machine

/-! ## Tier descriptors (R203-R213, R221, R653) -/

/-- Every page of the range has a frame, and none is pinned (R205). -/
theorem noFrameless_of {ps : List RangeEntry} (h : ∀ e ∈ ps, framesOf e ≠ none ∧ e.pin = false) :
    ps.any (fun e => (framesOf e).isNone || e.pin) = false := by
  refine List.any_eq_false.2 fun e he => ?_
  have hframe : (framesOf e).isNone = false := Bool.eq_false_iff.2 fun hnone => (h e he).1 (Option.isNone_iff_eq_none.1 hnone)
  exact ne_true_of_eq_false (or_of_false hframe (h e he).2)

/-- The pages of a PLACE that lie outside its tier. -/
def placeAway (s : State) (c d : Nat) : List RangeEntry :=
  (piecesOf (rangeTable s c) (tRange d).1 (tRange d).2).filter (fun e => decide ((framesOf e).map (·.1) ≠ some (tTier d)))

/-- The moves that a PLACE makes of those pages, once their frames have been chosen. -/
def placeMoves (u : State) (c q : Nat) (x : Queue) (d : Nat) (away : List RangeEntry) (l : List (Nat × Nat × Nat)) : List Move :=
  ((pagesIn u c away).zip (placesOf u c (tTier d) l)).map fun p => ⟨some (qKey c q, x.disp), c, p.1.1, tTier d, p.1.2, p.2, none, false⟩

/-- What a PLACE does whose frames have been chosen: it completes where no page moves, and else the first move begins (R221). -/
def placeChosen (u : State) (c q : Nat) (x : Queue) (d : Nat) (l : List (Nat × Nat × Nat)) (ms : List Move) : State :=
  match ms with
  | m :: _ =>
    let t := notePool (addJob (takeFrames u c (tTier d) l) c q x d (.place (tRange d).1 (tRange d).2) none) (tTier d) false
    copyPage { t with tier.moves := t.tier.moves ++ ms } m
  | [] => tierEnd u c q x d .ok (tLen d)

theorem placeChosen_cons {u : State} {c q : Nat} {x : Queue} {d : Nat} {l : List (Nat × Nat × Nat)} {ms r : List Move} {m : Move}
    (hms : ms = m :: r) :
    let t := notePool (addJob (takeFrames u c (tTier d) l) c q x d (.place (tRange d).1 (tRange d).2) none) (tTier d) false
    placeChosen u c q x d l ms = copyPage { t with tier.moves := t.tier.moves ++ ms } m := by
  subst hms
  rfl

section
variable {s : State} {c q : Nat} {x : Queue} {d : Nat} (hfields : tierFields d = none)
include hfields

theorem doAlloc_ok {l : List (Nat × Nat × Nat)} {u : State} (hlo : 1 ≤ tTier d) (hhi : tTier d ≤ 3)
    (hpin : ¬(tTier d = 3 ∧ tPin d = true)) (habsent : ∀ e ∈ piecesOf (rangeTable s c) (tRange d).1 (tRange d).2, e.ty = .absent)
    (hroom : roomFor s c (tTier d) (tRange d).2 = none) (hframes : chooseFrames s c (tTier d) (tRange d).2 = (some l, u))
    (hfits : tableFits (replaceRange (epochOf u c) (rangeTable u c) (tRange d).1 (tRange d).2 (entriesOver u c (tTier d) (tPin d) (tRange d).1 l)) = true) :
    doAlloc s c q x d = settleQuota (notePool (tierEnd (putTable (takeFrames (forgetUnits u c (tRange d).1 (tRange d).2) c (tTier d) l) c
      (replaceRange (epochOf u c) (rangeTable u c) (tRange d).1 (tRange d).2 (entriesOver u c (tTier d) (tPin d) (tRange d).1 l))) c q x d .ok (tLen d)) (tTier d) false) c := by
  have htier : ¬(tTier d = 0 ∨ 3 < tTier d ∨ (tTier d = 3 ∧ tPin d = true)) := by
    rintro (h | h | h)
    · exact Nat.ne_of_gt hlo h
    · exact Nat.not_lt.2 hhi h
    · exact hpin h
  have hany : (piecesOf (rangeTable s c) (tRange d).1 (tRange d).2).any (fun e => decide (e.ty ≠ .absent)) = false :=
    List.any_eq_false.2 fun e he h => of_decide_eq_true h (habsent e he)
  delta doAlloc
  refine hfields.symm ▸ (if_neg htier).trans ((if_of_false hany).trans ?_)
  refine hroom.symm ▸ ?_
  exact hframes.symm ▸ if_not_of_true hfits

theorem doFree_withdraws (hmoves : movesIn s c (tRange d).1 (tRange d).2 = false) (hidle : withdrawing s c = false)
    (hcovered : covered (rangeTable s c) (tRange d).1 (tRange d).2 = true)
    (hframes : ∀ e ∈ piecesOf (rangeTable s c) (tRange d).1 (tRange d).2, framesOf e ≠ none ∧ e.pin = false)
    (hfault : touchesFaultQueue s c (tRange d).1 (tRange d).2 = false) (hexport : touchesExport s c (tRange d).1 (tRange d).2 = false)
    (hfits : tableFits (replaceRange ((epochOf s c + 1) % 2 ^ 32) (rangeTable s c) (tRange d).1 (tRange d).2 []) = true) :
    doFree s c q x d = beginWithdrawal (addJob s c q x d (.withdraw (tLen d)) none) c .free (tRange d).1 (tRange d).2
      (replaceRange ((epochOf s c + 1) % 2 ^ 32) (rangeTable s c) (tRange d).1 (tRange d).2 []) (some (qKey c q, x.disp)) []
      ((piecesOf (rangeTable s c) (tRange d).1 (tRange d).2).filterMap framesOf) := by
  delta doFree
  exact hfields.symm ▸ (if_of_false (or_of_false hmoves hidle)).trans ((if_of_false (or_of_false (congrArg not hcovered)
    (noFrameless_of hframes))).trans ((if_of_false (or_of_false hfault hexport)).trans (if_not_of_true hfits)))

theorem doPin_ok {on : Bool} (hmoves : movesIn s c (tRange d).1 (tRange d).2 = false) (hcovered : covered (rangeTable s c) (tRange d).1 (tRange d).2 = true)
    (hdevice : on = true → ∀ e ∈ piecesOf (rangeTable s c) (tRange d).1 (tRange d).2, e.ty = .device)
    (hfree : on = false → touchesFaultQueue s c (tRange d).1 (tRange d).2 = false ∧ touchesExport s c (tRange d).1 (tRange d).2 = false)
    (hfits : tableFits (replaceRange (epochOf s c) (rangeTable s c) (tRange d).1 (tRange d).2 ((piecesOf (rangeTable s c) (tRange d).1 (tRange d).2).map
      (fun e => if e.ty = .device ∧ e.pin ≠ on then { e with pin := on, epoch := epochOf s c } else e))) = true) :
    doPin s c q x d on = settleQuota (putTable (tierEnd s c q x d .ok (tLen d)) c (replaceRange (epochOf s c) (rangeTable s c) (tRange d).1 (tRange d).2
      ((piecesOf (rangeTable s c) (tRange d).1 (tRange d).2).map
        (fun e => if e.ty = .device ∧ e.pin ≠ on then { e with pin := on, epoch := epochOf s c } else e)))) c := by
  have hpins : (on && (piecesOf (rangeTable s c) (tRange d).1 (tRange d).2).any (fun e => decide (e.ty ≠ .device))) = false :=
    Bool.eq_false_iff.2 fun h =>
      have ⟨e, he, hne⟩ := List.any_eq_true.1 (Bool.and_eq_true_iff.1 h).2
      of_decide_eq_true hne (hdevice (Bool.and_eq_true_iff.1 h).1 e he)
  have hunpins : (!on && (touchesFaultQueue s c (tRange d).1 (tRange d).2 || touchesExport s c (tRange d).1 (tRange d).2)) = false :=
    Bool.eq_false_iff.2 fun h =>
      have hoff := hfree (Bool.not_inj (Bool.and_eq_true_iff.1 h).1)
      ne_true_of_eq_false (or_of_false hoff.1 hoff.2) (Bool.and_eq_true_iff.1 h).2
  delta doPin
  exact hfields.symm ▸ (if_of_false hmoves).trans ((if_not_of_true hcovered).trans ((if_of_false hpins).trans ((if_of_false hunpins).trans
    (if_not_of_true hfits))))

section
variable {l : List (Nat × Nat × Nat)} {u : State}
  (hmoves : movesIn s c (tRange d).1 (tRange d).2 = false) (hidle : withdrawing s c = false) (hlo : 1 ≤ tTier d) (hhi : tTier d ≤ 3)
  (hcovered : covered (rangeTable s c) (tRange d).1 (tRange d).2 = true)
  (hframes : ∀ e ∈ piecesOf (rangeTable s c) (tRange d).1 (tRange d).2, framesOf e ≠ none ∧ e.pin = false)
  (hroom : roomFor s c (tTier d) ((placeAway s c d).map (·.pages)).sum = none)
  (hchosen : chooseFrames s c (tTier d) ((placeAway s c d).map (·.pages)).sum = (some l, u))
  (hfits : tableFits (movedTable u (rangeTable s c) (placeMoves u c q x d (placeAway s c d) l)) = true)
include hmoves hidle hlo hhi hcovered hframes hroom hchosen hfits

/-- A PLACE whose pages have all frames to go to moves those of them that lie elsewhere (R205, R221). -/
theorem doPlace_chosen : doPlace s c q x d = placeChosen u c q x d l (placeMoves u c q x d (placeAway s c d) l) := by
  have htier : ¬(tTier d = 0 ∨ 3 < tTier d) := not_or.2 ⟨Nat.ne_of_gt hlo, Nat.not_lt.2 hhi⟩
  delta doPlace
  refine hfields.symm ▸ (if_of_false (or_of_false hmoves hidle)).trans ((if_neg htier).trans ((if_of_false (or_of_false
    (congrArg not hcovered) (noFrameless_of hframes))).trans ?_))
  dsimp only
  refine hroom.symm ▸ ?_
  exact hchosen.symm ▸ if_not_of_true hfits

end

end

/-- Settles O30: each descriptor's work, which the passing checks lead to its one outcome; of a PLACE the pages that have to move
decide. -/
theorem tierDescriptorsRun : Obligations.TierDescriptorsRun := by
  intro s c q x d h w runs hup hfields v n t ep ps
  refine ⟨fun l u hop hlo hhi hpin habsent hroom hframes hfits => ?alloc,
    fun hop hmoves hidle hcovered hframes hfault hexport hfits => ?free,
    fun on => ?pin,
    fun l u hop hmoves hidle hlo hhi hcovered hframes => ?place⟩
  case alloc =>
    exact dispatchAs_ends_coreUp h hup hop (f := fun s x d => doAlloc s c.toNat q.val x d)
      (doAlloc_ok hfields hlo hhi hpin habsent hroom hframes hfits)
  case free =>
    exact dispatchAs_ends_coreUp h hup hop (f := fun s x d => doFree s c.toNat q.val x d)
      (doFree_withdraws hfields hmoves hidle hcovered hframes hfault hexport hfits)
  case pin =>
    induction on <;> intro hop hmoves hcovered hdevice hfree t' hfits
    · exact dispatchAs_ends_coreUp h hup hop (f := fun s x d => doPin s c.toNat q.val x d false)
        (doPin_ok hfields hmoves hcovered hdevice hfree hfits)
    · exact dispatchAs_ends_coreUp h hup hop (f := fun s x d => doPin s c.toNat q.val x d true)
        (doPin_ok hfields hmoves hcovered hdevice hfree hfits)
  case place =>
    intro away k hroom hchosen ms hfits
    have hplace := doPlace_chosen (q := q.val) (x := x) hfields hmoves hidle hlo hhi hcovered hframes hroom hchosen hfits
    exact ⟨fun hnone => dispatchAs_ends_coreUp h hup hop (f := fun s x d => doPlace s c.toNat q.val x d)
        (hplace.trans (congrArg (placeChosen u c.toNat q.val x d l) hnone)),
      fun m r hsome => dispatchAs_ends_coreUp h hup hop (f := fun s x d => doPlace s c.toNat q.val x d)
        (hplace.trans (placeChosen_cons hsome))⟩

/-! ## Feed and Quill descriptors (R258-R260, R359, R386-R388) -/

section
variable {s : State} {c q : Nat} {x : Queue} {d : Nat}

theorem startCopy_starts {isFill : Bool} (hcheck : copyCheck s c d isFill = none)
    (hslots : slotsFree s (streamCount (field d 128 40)) = true) :
    startCopy isFill s c q x d = addJob (startStreams s (descStream isFill (genNow s) c q x d) (field d 128 40)) c q x d
      (.feed (streamCount (field d 128 40))) none := by
  delta startCopy
  exact hcheck.symm ▸ if_not_of_true hslots

theorem doSearch_begins (hsome : field d 128 16 ≠ 0) (halign : field d 320 64 % 64 = 0) (hrecord : recordOk s c (field d 256 64) = true)
    (hpinned : pinnedOk s c (field d 320 64) (64 * field d 128 16) .read = true) (hfree : allFree s c (searchReads d) = true)
    (hclean : anyPoison s c (searchReads d) = false)
    (hgraph : graphOk s c (graphOf (field d 256 64) (leNat (cvaBytes s c (field d 256 64) 64).1)) true = true)
    (hqueries : ((List.range (field d 128 16)).map
      (fun i => leAt (cvaBytes s c (field d 320 64) (64 * field d 128 16)).1 (64 * i) 64)).all
        (queryOk s c (graphOf (field d 256 64) (leNat (cvaBytes s c (field d 256 64) 64).1))) = true) :
    doSearch s c q x d = searchBegins s c q x d (graphOf (field d 256 64) (leNat (cvaBytes s c (field d 256 64) 64).1))
      ((List.range (field d 128 16)).map (fun i => leAt (cvaBytes s c (field d 320 64) (64 * field d 128 16)).1 (64 * i) 64)) := by
  have hfields : ¬(field d 128 16 = 0 ∨ field d 320 64 % 64 ≠ 0 ∨ (!recordOk s c (field d 256 64)) = true ∨
      (!pinnedOk s c (field d 320 64) (64 * field d 128 16) .read) = true) := by
    rintro (h | h | h | h)
    · exact hsome h
    · exact h halign
    · exact ne_true_of_eq_false (congrArg not hrecord) h
    · exact ne_true_of_eq_false (congrArg not hpinned) h
  exact (if_neg hfields).trans ((if_not_of_true hfree).trans ((if_of_false hclean).trans
    (if_of_false (or_of_false (congrArg not hgraph) (congrArg not hqueries)))))

theorem doStaleScan_scans {g : Graph} (hg : g = graphOf (field d 256 64) (leNat (cvaBytes s c (field d 256 64) 64).1))
    (hreserved : field d 168 40 ≠ 2 ^ 40 - 1) (hcount : field d 168 40 ≠ 0) (hcap : field d 208 24 ≠ 0)
    (halign : field d 320 64 % 16 = 0) (hrecord : recordOk s c (field d 256 64) = true) (hfree : cvaFree s c (field d 256 64) 64 = true)
    (hclean : (cvaBytes s c (field d 256 64) 64).2 = false) (hgraph : graphOk s c g false = true)
    (hnodes : field d 128 40 + field d 168 40 ≤ g.nodes)
    (hpinned : pinnedOk s c (field d 320 64) (16 * field d 208 24) .write = true)
    (hreads : allFree s c (scanNodes s c g d).reads = true)
    (hwrites : allTake s c [(field d 320 64, (scanBytes (scanNodes s c g d)).length)] = true) :
    doStaleScan s c q x d = scanEnds s c q x d (scanNodes s c g d) := by
  have hfields : ¬(field d 168 40 = 0 ∨ field d 208 24 = 0 ∨ field d 320 64 % 16 ≠ 0 ∨ (!recordOk s c (field d 256 64)) = true) := by
    rintro (h | h | h | h)
    · exact hcount h
    · exact hcap h
    · exact h halign
    · exact ne_true_of_eq_false (congrArg not hrecord) h
  have hnodes' : decide (g.nodes < field d 128 40 + field d 168 40) = false := decide_eq_false (Nat.not_lt.2 hnodes)
  subst hg
  exact (if_neg hreserved).trans ((if_neg hfields).trans ((if_not_of_true hfree).trans ((if_of_false hclean).trans
    ((if_of_false (or_of_false (or_of_false (congrArg not hgraph) hnodes') (congrArg not hpinned))).trans
      (if_of_false (or_of_false (congrArg not hreads) (congrArg not hwrites)))))))

end

/-- Settles O32: each descriptor's work, which the passing checks lead to its one outcome. -/
theorem feedAndQuillDescriptorsRun : Obligations.FeedAndQuillDescriptorsRun := by
  intro s c q x d w runs
  refine ⟨fun h hslots => ⟨fun hop hcheck => ?copy, fun hop hcheck => ?fill⟩, fun h => ⟨?search, ?scan⟩⟩
  case copy =>
    exact dispatchAs_ends h hop (f := fun s x d => startCopy false s c.toNat q.val x d) (startCopy_starts hcheck hslots)
  case fill =>
    exact dispatchAs_ends h hop (f := fun s x d => startCopy true s c.toNat q.val x d) (startCopy_starts hcheck hslots)
  case search =>
    intro nq qtab g qs hop hsome halign hrecord hpinned hfree hclean hgraph hqueries
    exact dispatchAs_ends h hop (f := fun s x d => doSearch s c.toNat q.val x d)
      (doSearch_begins hsome halign hrecord hpinned hfree hclean hgraph hqueries)
  case scan =>
    intro g z hop hcut hreserved hcount hcap halign hrecord hfree hclean hgraph hnodes hpinned hreads hwrites
    have hscans : doStaleScan w c.toNat q.val x d = scanEnds w c.toNat q.val x d z :=
      doStaleScan_scans rfl hreserved hcount hcap halign hrecord hfree hclean hgraph hnodes hpinned hreads hwrites
    exact hscans ▸ exec_staleScan_of_due h hop hcut

end Sys2Proof.Laws
end

section
/-! PROOFS. Fabric-queue descriptors and commits of a step: O33 and O34. -/

namespace Sys2Proof.Laws

open Sys2Proof Sys2Proof.Machine

theorem not_not_of_true {b : Bool} (h : b = true) : ¬(!b) = true := ne_true_of_eq_false (congrArg not h)

/-! ## Fabric-queue descriptors (R449-R456, R602) -/

section
variable {s : State} {c q : Nat} {x : Queue} {d : Nat}

theorem doAtomicDesc_sends {e : RangeEntry} {fa t : Nat} {u : State} (hlo : 1 ≤ field d 160 8) (hhi : field d 160 8 ≤ 10)
    (hwidth : field d 168 4 = 4 ∨ field d 168 4 = 8) (halign : field d 256 64 % field d 168 4 = 0)
    (hend : field d 256 64 + field d 168 4 ≤ cvaEnd) (hentry : entryAt (rangeTable s c) (field d 256 64 / 4096) = some e)
    (hpeer : e.ty = .peer) (hright : e.at_ = true) (hshadow : isShadow s c = false)
    (htarget : entryTarget s c e (field d 256 64) = .peer fa) (hheld : composedHold s c (.peer fa) = false)
    (hsend : peerSend s c (.job (qKey c q) x.disp) 3 fa (field d 168 4) (natLe 8 (field d 320 64) ++ natLe 8 (field d 384 64))
      (field d 160 8) (field d 168 4) (bitOf d 172) = (.tag t, u)) :
    doAtomicDesc s c q x d = addJob u c q x d (.peer t) none := by
  have hwidths : (decide (field d 168 4 = 4) || decide (field d 168 4 = 8)) = true := by
    rcases hwidth with hw | hw <;> rw [hw] <;> rfl
  have hmax : max (field d 168 4) 1 = field d 168 4 :=
    Nat.max_eq_left (hwidth.elim (fun hw => hw.symm ▸ Nat.le_add_left 1 3) (fun hw => hw.symm ▸ Nat.le_add_left 1 7))
  have hok : (decide (1 ≤ field d 160 8) && decide (field d 160 8 ≤ 10) && (decide (field d 168 4 = 4) || decide (field d 168 4 = 8)) &&
      decide (field d 256 64 % max (field d 168 4) 1 = 0) && decide (field d 256 64 + field d 168 4 ≤ cvaEnd)) = true :=
    and_of_true (and_of_true (and_of_true (and_of_true (decide_eq_true hlo) (decide_eq_true hhi)) hwidths)
      (decide_eq_true (hmax.symm ▸ halign))) (decide_eq_true hend)
  delta doAtomicDesc
  dsimp only
  refine hentry.symm ▸ (if_of_false (or_of_false (or_of_false (or_of_false (congrArg not hok) (decide_eq_false (not_not_intro hpeer)))
    (congrArg not hright)) hshadow)).trans ?_
  refine htarget.symm ▸ (if_of_false hheld).trans ?_
  exact hsend.symm ▸ rfl

/-- A SEND whose bytes are read and whose MSEQ is taken (R452). -/
def sendTaken (s : State) (c q : Nat) (x : Queue) (d : Nat) (b : Bytes) (m : Nat) : State :=
  if isShadow s c then fabEnd (odBump s (odKey 0xC001 8) 1) c q x d .ok m
  else
    match anyPort s, tblFreeKey s.fab.peers 65536 with
    | some p, some t =>
      let v := { s with fab.peers := tblSet s.fab.peers t ⟨.job (qKey c q) x.disp, genNow s, c, 0x20, p, field d 128 12, 0, m, 4096, 0⟩ }
      sendParts (addJob v c q x d (.peer t) none) p (field d 128 12) c t (field d 140 12) (field d 152 2) m (odGet v (odCtx 0x6200 c)) b
    | _, _ => peerPoison (fabEnd s c q x d .poison m) c (field d 128 12)

theorem doSend_of_read {b : Bytes} {u v : State} {m : Nat} (hsome : field d 192 32 ≠ 0) (hshort : field d 192 32 ≤ 4096)
    (hpinned : pinnedOk s c (field d 256 64) (field d 192 32) .read = true) (hfree : cvaFree s c (field d 256 64) (field d 192 32) = true)
    (hclean : (cvaBytes s c (field d 256 64) (field d 192 32)).2 = false)
    (hread : cvaRead s firmwareAgent c (field d 256 64) (field d 192 32) = ((b, false), u))
    (hmseq : takeMseq u c (field d 128 12) (field d 140 12) (field d 152 2) = (m, v)) :
    doSend s c q x d = sendTaken v c q x d b m := by
  refine (if_neg (not_or_intro hsome (not_or_intro (Nat.not_lt.2 hshort) (not_not_of_true hpinned)))).trans
    ((if_not_of_true hfree).trans ((if_of_false hclean).trans ?_))
  refine hread.symm ▸ ?_
  dsimp only
  exact hmseq.symm ▸ rfl

/-- A shadow's message does not leave: it completes at once, and is counted (R602). -/
theorem sendTaken_of_shadow {b : Bytes} {m : Nat} (hshadow : isShadow s c = true) :
    sendTaken s c q x d b m = fabEnd (odBump s (odKey 0xC001 8) 1) c q x d .ok m := if_pos hshadow

theorem sendTaken_leaves {b : Bytes} {m p t : Nat} (hshadow : isShadow s c = false) (hport : anyPort s = some p)
    (htag : tblFreeKey s.fab.peers 65536 = some t) :
    let v := { s with fab.peers := tblSet s.fab.peers t ⟨.job (qKey c q) x.disp, genNow s, c, 0x20, p, field d 128 12, 0, m, 4096, 0⟩ }
    sendTaken s c q x d b m = sendParts (addJob v c q x d (.peer t) none) p (field d 128 12) c t (field d 140 12) (field d 152 2) m
      (odGet v (odCtx 0x6200 c)) b := by
  refine (if_of_false hshadow).trans ?_
  refine hport.symm ▸ ?_
  exact htag.symm ▸ rfl

theorem doMbox_closes (hn : field d 176 4 = 0) :
    doMbox s c q x d = fabEnd { s with fab.mailboxes := tblErase s.fab.mailboxes (mboxKey c (field d 152 2)) } c q x d .ok 0 :=
  if_pos hn

theorem doMbox_opens (hlo : 4 ≤ field d 176 4) (hhi : field d 176 4 ≤ 12) (halign : field d 256 64 % 64 = 0)
    (hread : pinnedOk s c (field d 256 64) (64 + 4160 * 2 ^ field d 176 4) .read = true)
    (hwrite : pinnedOk s c (field d 256 64) (64 + 4160 * 2 ^ field d 176 4) .write = true)
    (howned : mordOwned s c (field d 432 16) = true) :
    doMbox s c q x d = fabEnd { s with
      fab.mailboxes := tblSet s.fab.mailboxes (mboxKey c (field d 152 2)) ⟨field d 256 64, field d 176 4, field d 432 16, 0, []⟩ }
      c q x d .ok 0 := by
  refine (if_neg (Nat.ne_of_gt (Nat.lt_of_lt_of_le (by decide) hlo))).trans (if_neg ?_)
  exact not_or_intro (Nat.not_lt.2 hlo) (not_or_intro (Nat.not_lt.2 hhi) (not_or_intro (not_not_intro halign)
    (not_or_intro (not_not_of_true hread) (not_or_intro (not_not_of_true hwrite) (not_not_of_true howned)))))

theorem doOwnAcquire_asks (hfield : field d 176 16 ≠ 0) (hshadow : isShadow s c = false) :
    doOwnAcquire s c q x d = sendOwn (addJob s c q x d (.own (field d 224 32)) none) 0x43 c (field d 224 32)
      (natLe 4 (odGet s (odCtx 0x6200 c))) := by
  simp [doOwnAcquire, hfield, hshadow]

theorem doOwnRelease_drains (hshadow : isShadow s c = false) (howned : ownedEpoch s c (field d 224 32) ≠ none) :
    doOwnRelease s c q x d = startDrain s c q x d true (if bitOf d 472 then field d 448 24 else 0) := by
  simp [doOwnRelease, hshadow, howned]

end

/-- Settles O33: each descriptor's work, which the passing checks lead to its one outcome; of a SEND the shadow decides. -/
theorem fabricDescriptorsRun : Obligations.FabricDescriptorsRun := by
  intro s c q x d h w runs
  refine ⟨fun e fa t u hop hlo hhi hwidth halign hend hentry hpeer hright hshadow htarget hheld hsend => ?atomic,
    fun b u m v hop hsome hshort hpinned hfree hclean hread hmseq => ?send,
    fun hop => ⟨fun hn => ?closes, fun hlo hhi halign hread hwrite howned => ?opens⟩,
    fun hop hfield hshadow => ?acquire, fun hop hshadow howned => ?release, fun hop => dispatchAs_begins h hop _⟩
  case atomic =>
    exact dispatchAs_ends h hop (f := fun s x d => doAtomicDesc s c.toNat q.val x d)
      (doAtomicDesc_sends hlo hhi hwidth halign hend hentry hpeer hright hshadow htarget hheld hsend)
  case send =>
    have hsent := dispatchAs_ends h hop (f := fun s x d => doSend s c.toNat q.val x d)
      (doSend_of_read hsome hshort hpinned hfree hclean hread hmseq)
    exact ⟨fun hshadow => hsent.trans (congrArg (Host.Outcome.next <| ended s c.toNat q.val x ·) (sendTaken_of_shadow hshadow)),
      fun p t hshadow hport htag =>
        hsent.trans (congrArg (Host.Outcome.next <| ended s c.toNat q.val x ·) (sendTaken_leaves hshadow hport htag))⟩
  case closes => exact dispatchAs_ends h hop (f := fun s x d => doMbox s c.toNat q.val x d) (doMbox_closes hn)
  case opens =>
    exact dispatchAs_ends h hop (f := fun s x d => doMbox s c.toNat q.val x d) (doMbox_opens hlo hhi halign hread hwrite howned)
  case acquire =>
    exact dispatchAs_ends h hop (f := fun s x d => doOwnAcquire s c.toNat q.val x d) (doOwnAcquire_asks hfield hshadow)
  case release =>
    exact dispatchAs_ends h hop (f := fun s x d => doOwnRelease s c.toNat q.val x d) (doOwnRelease_drains hshadow howned)

/-! ## Commits of a step (R583-R603) -/

theorem tableAt_of_ok {s : State} {c cva n : Nat} {ok : Bool} (hok : ok = true) (halign : cva % 16 = 0)
    (hpinned : pinnedOk s c cva (16 * n) .read = true) : tableAt s c cva n ok = some (cva, 16 * n) := by
  simp [tableAt, hok, halign, hpinned]

section
variable {s : State} {c q : Nat} {x : Queue} {d : Nat} {k : CommitSet}

/-- A STEP_COMMIT whose commit set and tables can be read goes on to the checks of what they hold (R589). -/
theorem doCommit_reads (io : CommitIo) (hk : k = commitSet (cvaBytes s c (field d 192 64) 64).1)
    (htable : (cvaBytes s c k.state (16 * k.nstate)).2 = false)
    (hlist : (cvaBytes s c (field d 256 64) (16 * field d 160 12)).2 = false) (hset : field d 192 64 % 64 = 0)
    (hdelta : field d 256 64 % 16 = 0) (hpinned : pinnedOk s c (field d 192 64) 64 .read = true)
    (hdeltaPinned : pinnedOk s c (field d 256 64) (16 * field d 160 12) .read = true) (hfree : cvaFree s c (field d 192 64) 64 = true)
    (hclean : (cvaBytes s c (field d 192 64) 64).2 = false) (hstate : k.state % 16 = 0) (hsome : k.nstate ≠ 0) (hfew : k.nstate ≤ 256)
    (hstatePinned : pinnedOk s c k.state (16 * k.nstate) .read = true)
    (hlines : rangesFree s (saParts s c k.state (16 * k.nstate) ++ (saParts s c (field d 256 64) (16 * field d 160 12) ++
      saParts s c k.scratch 65536)) = true) 
    (hreserved : reservedPages (cvaBytes s c k.state (16 * k.nstate)).1 (cvaBytes s c (field d 256 64) (16 * field d 160 12)).1 = false) :
    doCommit s c q x d io = checkedCommit (cvaRead (cvaRead (cvaRead s firmwareAgent c (field d 192 64) 64).2 firmwareAgent c k.state
        (16 * k.nstate)).2 firmwareAgent c (field d 256 64) (16 * field d 160 12)).2 c q x d io k
      ((entriesOf (cvaBytes s c k.state (16 * k.nstate)).1 k.nstate).map statePart) (cvaBytes s c (field d 256 64) (16 * field d 160 12)).1 := by
  have ht := tableAt_of_ok (and_of_true (decide_eq_true (Nat.one_le_iff_ne_zero.2 hsome)) (decide_eq_true hfew)) hstate hstatePinned
  delta doCommit
  dsimp only
  refine (if_neg (not_or_intro (not_not_intro hset) (not_not_of_true hpinned))).trans ((if_not_of_true hfree).trans
    ((if_of_false hclean).trans ?_))
  refine hk ▸ ?_
  refine (tableAt_of_ok rfl hdelta hdeltaPinned).symm ▸ ?_
  refine ht.symm ▸ ?_
  refine (if_not_of_true ?_).trans ?_
  · change rangesFree s (saParts s c k.state _ ++ (saParts s c (field d 256 64) _ ++ (saParts s c k.scratch 65536 ++ []))) = true
    rwa [List.append_nil]
  exact (if_of_false (or_of_false htable hlist)).trans ((if_of_false hreserved).trans (if_neg (not_or_intro Bool.false_ne_true Bool.false_ne_true)))

end

/-- A queue whose STEP_COMMIT is being carried out takes it further (R590). -/
theorem exec_stepCommit_of_commit {s : State} {c : Ctx} {q : QNum} {j : Job} (hon : s.power.on = true)
    (hjob : s.q.jobs.find? (fun j => decide (j.ctx = c.toNat) && decide (j.queue = q.val) && (commitOf j).isSome) = some j)
    (io : CommitIo) : exec (.stepCommit c q io) s = .next (keepQueue s (commitPump s c.toNat q.val j.idx)) := by
  change execStepCommit c q io s = _
  rw [execStepCommit, hjob, effectOn_on hon]

theorem checkedCommit_copies {s : State} {c q : Nat} {io : CommitIo} {x : Queue} {d : Nat} {k : CommitSet} {parts : List StatePart}
    {list : Bytes} {p0 p1 pc : Nat} (hstep : field d 128 32 ≠ 0) (hparts : partsOk parts = true)
    (hdelta : deltaOk parts ((entriesOf list (list.length / 16)).map deltaEntry) = true) (hreport : k.report % 64 = 0)
    (hscratchW : pinnedOk s c k.scratch 65536 .write = true) (hscratchR : pinnedOk s c k.scratch 65536 .read = true)
    (hreportW : pinnedOk s c k.report 64 .write = true) (hstate : ∀ p ∈ parts, pinnedOk s c p.cva (p.pages * 4096) .read = true)
    (hmirror0 : regionPlace s c k.mirror0 (parts.map (·.pages)).sum false = some p0)
    (hmirror1 : regionPlace s c k.mirror1 (parts.map (·.pages)).sum false = some p1)
    (hckpt : regionPlace s c k.ckpt (parts.map (·.pages)).sum true = some pc) (h01 : p0 ≠ p1) (hc0 : pc ≠ p0) (hc1 : pc ≠ p1)
    (hpartner : k.partner = 0) :
    checkedCommit s c q x d io k parts list =
      beginCopies s c q x d io k parts list (p0, p1, pc) (odGet s (odCtx 0xC130 c) * 2 ^ 144) := by
  have hfields := not_or_intro hstep (not_or_intro (not_not_of_true hparts) (not_or_intro (not_not_of_true hdelta) (not_or_intro
    (not_not_intro hreport) (not_or_intro (not_not_of_true hscratchW) (not_or_intro (not_not_of_true hscratchR) (not_or_intro
      (not_not_of_true hreportW) (not_not_of_true (List.all_eq_true.2 hstate))))))))
  refine (if_neg hfields).trans ?_
  refine hmirror0.symm ▸ ?_
  refine hmirror1.symm ▸ ?_
  refine hckpt.symm ▸ ?_
  exact (if_neg (not_or_intro h01 (not_or_intro hc0 hc1))).trans (if_pos hpartner)

/-- Settles O34: the reads of a commit that begins, the step of one that is carried out, and the copies that its checks let begin. -/
theorem stepCommitsRun : Obligations.StepCommitsRun := by
  intro s c q io
  refine ⟨fun x d h hop hnone => ?begins, fun j hon hjob => exec_stepCommit_of_commit hon hjob io, fun set hon => effectOn_on hon,
    fun x d k parts list p0 p1 pc => fun hstep hparts hdelta hreport hscratchW hscratchR hreportW hstate hmirror0 hmirror1 hckpt h01 hc0 hc1
      hpartner => checkedCommit_copies hstep hparts hdelta hreport hscratchW hscratchR hreportW hstate hmirror0 hmirror1 hckpt h01 hc0 hc1
        hpartner⟩
  case begins =>
    intro w set delta nd k table list u hset hdelta hpinned hdeltaPinned hfree hclean hstate hsome hfew hstatePinned hlines htable hlist hreserved
    have hreads : doCommit w c.toNat q.val x d io = checkedCommit u c.toNat q.val x d io k ((entriesOf table.1 k.nstate).map statePart) list.1 :=
      doCommit_reads io rfl htable hlist hset hdelta hpinned hdeltaPinned hfree hclean hstate hsome hfew
        hstatePinned hlines hreserved
    rw [exec_stepCommit_of_due h hop hnone io]
    exact congrArg (Host.Outcome.next <| ended s c.toNat q.val x ·) hreads

end Sys2Proof.Laws
end

section
/-! PROOFS. Tiers, PFAIL and withdrawals: O35, O36 and O37. -/

namespace Sys2Proof.Laws

open Sys2Proof Sys2Proof.Machine

/-! ## Tiers (R202, R214-R217, R226) -/

theorem nextDrain_eq_argmin (s : State) : nextDrain s = (toDrain s).argmin (·.place) :=
  congrArg (List.foldl · none (toDrain s)) (funext₂ fun b _ => by cases b <;> rfl)

theorem nextDrain_lowest {s : State} {f : CacheFrame} (h : nextDrain s = some f) : f ∈ toDrain s ∧ ∀ g ∈ toDrain s, f.place ≤ g.place :=
  have hmin := (nextDrain_eq_argmin s).symm.trans h
  ⟨List.argmin_mem hmin, fun _ hg => List.le_of_mem_argmin hg hmin⟩

/-- A pause of a context's demotions whose destination has room again (R216). -/
def pauseEnds (s : State) (c : Nat) (p : Nat × Bool) : Bool :=
  decide (p.1 = c) && (decide (mib (chargeFrames s c (if p.2 then 3 else 2) + 1) ≤ quotaMib s c (if p.2 then 3 else 2)) &&
    decide (0 < poolFree s (if p.2 then 3 else 2)))

/-- A context whose pauses that may end have ended (R216, R217). -/
def resumed (s : State) (c : Nat) : State :=
  let t := { s with tier.paused := s.tier.paused.filter fun p => !pauseEnds s c p }
  if t.tier.paused.any (fun p => decide (p.1 = c)) then t else tierFlag t c 5 false

theorem resumed_frame (s : State) (c : Nat) : (resumed s c).tier.paused = s.tier.paused.filter (fun p => !pauseEnds s c p) ∧
    (resumed s c).mem = s.mem ∧ (resumed s c).xlat = s.xlat :=
  ⟨ite_keeps (fun t : State => t.tier.paused) rfl rfl, ite_keeps State.mem rfl rfl, ite_keeps State.xlat rfl rfl⟩

theorem paused_of_resumed {s : State} {c : Nat} {p : Nat × Bool} (h : p ∈ s.tier.paused.filter fun p => !pauseEnds s c p) :
    p ∈ s.tier.paused ∧ ¬(p.1 = c ∧ mib (chargeFrames s c (if p.2 then 3 else 2) + 1) ≤ quotaMib s c (if p.2 then 3 else 2) ∧
      0 < poolFree s (if p.2 then 3 else 2)) :=
  (List.mem_filter.1 h).imp_right fun hkept ⟨hctx, hroom, hfree⟩ => absurd
    (and_of_true (decide_eq_true hctx) (and_of_true (decide_eq_true hroom) (decide_eq_true hfree)))
    (ne_true_of_eq_false (Bool.not_inj hkept))

section
variable {s : State} (hon : s.power.on = true)
include hon

theorem exec_demotion_of_over {c : Ctx} {fromT2 : Bool} {u : State} (hu : u = if fromT2 then s else cutShare s c.toNat)
    (hover : overQuota u c.toNat (if fromT2 then 2 else 0) = true) (hpaused : (c.toNat, fromT2) ∉ u.tier.paused)
    (hidle : withdrawing u c.toNat = false) (hmoves : ∀ m ∈ u.tier.moves, m.ctx ≠ c.toNat) :
    exec (.demotion c fromT2) s = .next (keepQueue s (demoteOne u c.toNat fromT2)) := by
  subst hu
  have hpaused' := (List.contains_eq_mem ..).trans (decide_eq_false hpaused)
  have hmoves' := List.any_eq_false.2 fun m hm => ne_true_of_eq_false (decide_eq_false (hmoves m hm))
  exact effectOn_of_eq hon (if_pos (and_of_true (and_of_true (and_of_true hover (congrArg not hpaused')) (congrArg not hidle))
    (congrArg not hmoves')))

theorem exec_cacheFrameDrain_of_next {f : CacheFrame} (hnext : nextDrain s = some f) :
    exec .cacheFrameDrain s = .next (keepQueue s (notePool (dropFrame s f) 1 false)) := by
  refine effectOn_of_eq hon ?_
  exact hnext.symm ▸ rfl

theorem exec_dirtyWriteback_of_due {f g : Nat} {x : CacheFrame} (hdue : 3 * dirtyCap s ≤ 4 * dirtyCharge s)
    (hleast : leastDirty (s.mem.cache.filter (fun f => (tblFind s.cart.rows (rowKey f.frame)).isNone)) = some (f, g))
    (hframe : (s.mem.cache.filter (fun f => (tblFind s.cart.rows (rowKey f.frame)).isNone)).find? (fun x => decide (x.frame = f)) = some x) :
    exec .dirtyWriteback s = .next (keepQueue s (startRowWrite s x)) := by
  refine effectOn_of_eq hon ((if_pos hdue).trans ?_)
  dsimp only
  refine hleast.symm ▸ ?_
  dsimp only
  exact hframe.symm ▸ rfl

end

/-- Settles O35: each command's own equation, what a resumption leaves of the pauses, and what the search for the lowest frame finds. -/
theorem tiersAreKept : Obligations.TiersAreKept := by
  intro s c hon
  refine ⟨fun fromT2 hover hpaused hidle hmoves => exec_demotion_of_over hon rfl hover hpaused hidle hmoves, ?resumes,
    fun f hnext => ⟨exec_cacheFrameDrain_of_next hon hnext, nextDrain_lowest hnext⟩,
    fun f g x hdue hleast hframe => exec_dirtyWriteback_of_due hon hdue hleast hframe⟩
  case resumes =>
    exact ⟨keepQueue s (resumed s c.toNat), effectOn_on hon, fun p hp => paused_of_resumed ((resumed_frame s c.toNat).1 ▸ hp), (resumed_frame s c.toNat).2⟩

/-! ## PFAIL (R228-R233) -/

theorem sendJournal_tier (s : State) (n unit : Nat) (content : Bytes) : (sendJournal s n unit content).tier = s.tier := rfl

theorem sendJournal_mem (s : State) (n unit : Nat) (content : Bytes) : (sendJournal s n unit content).mem = s.mem := rfl

/-- The journal's writes are sent and counted; nothing else of the device changes. -/
theorem sendAll_frame (s : State) (unit : Nat) (content : Bytes) :
    (sendAll s unit content).tier = s.tier ∧ (sendAll s unit content).mem = s.mem ∧
      ∀ k, k / 256 ≠ 0x8102 → odGet (sendAll s unit content) k = odGet s k := by
  refine ⟨foldl_keeps State.tier (fun _ _ => sendJournal_tier ..) _ s, foldl_keeps State.mem (fun _ _ => sendJournal_mem ..) _ s,
    fun k hk => ?_⟩
  refine foldl_keeps_of_mem (odGet · k) (fun n hn t => ?_) s
  have hslot : n < 256 := Nat.lt_of_lt_of_le (List.mem_range.1 (List.mem_filter.1 hn).1) (by decide)
  exact (odGet_odBump ..).trans (if_neg (c := k = odKey 0x8102 n) fun h => hk (h ▸ odKey_div hslot))

theorem setHalf_frame (s : State) (seq : Nat) (h : JournalHalf) :
    (setHalf s seq h).mem = s.mem ∧ (setHalf s seq h).od = s.od ∧ halfOf (setHalf s seq h) seq = h := by
  by_cases hseq : seq % 2 = 1
  · rw [setHalf, if_pos hseq]
    exact ⟨rfl, rfl, if_pos hseq⟩
  · rw [setHalf, if_neg hseq]
    exact ⟨rfl, rfl, if_neg hseq⟩

theorem halfOf_congr {s t : State} (hA : t.tier.journalA = s.tier.journalA) (hB : t.tier.journalB = s.tier.journalB) (seq : Nat) :
    halfOf t seq = halfOf s seq :=
  congrArg₂ (ite (seq % 2 = 1)) hA hB

/-- The state in which the cancel marker has been written (R232). -/
def marked (s : State) : State :=
  let t := setHalf s s.tier.flushSeq { halfOf s s.tier.flushSeq with kind := .cancel }
  sendAll t (stripeCount t + 1) markUnit

/-- Admission is open again, unless the device was stopped as planned, and the queues have not been taken up yet (R232, R233). -/
def cancelled (s : State) : State :=
  { s with tier.pfail := .idle, tier.admitting := (devState s = 1 || devState s = 2) && decide (odGet s (odKey 0x3006 6) = 0) }

theorem exec_pfailCancel_of_releasing {s : State} (hon : s.power.on = true) (hpfail : s.tier.pfail = .releasing) :
    exec .pfailCancel s = .next (keepQueue s
      (if (cancelled (marked s)).tier.admitting then pollAll (cancelled (marked s)) else cancelled (marked s))) :=
  effectOn_of_eq hon (if_pos hpfail)

theorem marked_frame (s : State) : (halfOf (marked s) s.tier.flushSeq).kind = .cancel ∧ (marked s).mem = s.mem ∧
    devState (marked s) = devState s ∧ odGet (marked s) (odKey 0x3006 6) = odGet s (odKey 0x3006 6) := by
  have ht := setHalf_frame s s.tier.flushSeq { halfOf s s.tier.flushSeq with kind := .cancel }
  generalize hm : setHalf s s.tier.flushSeq { halfOf s s.tier.flushSeq with kind := .cancel } = t at ht
  have hu := sendAll_frame t (stripeCount t + 1) markUnit
  have hmarked : marked s = sendAll t (stripeCount t + 1) markUnit := hm ▸ rfl
  rw [hmarked]
  exact ⟨congrArg JournalHalf.kind ((halfOf_congr (congrArg (·.journalA) hu.1) (congrArg (·.journalB) hu.1) _).trans ht.2.2),
    hu.2.1.trans ht.1, (hu.2.2 _ (by decide)).trans (odGet_congr _ _ ht.2.1 _), (hu.2.2 _ (by decide)).trans (odGet_congr _ _ ht.2.1 _)⟩

section
variable {s : State} (hon : s.power.on = true) (hpfail : s.tier.pfail = .asserted)
include hon hpfail

/-- PFAIL that has been held is acted on by where the device stands (R228, R229, R581). -/
theorem exec_pfailFlush_of_asserted : exec .pfailFlush s = .next (keepQueue s (
    if odGet s (odKey 0x3006 6) = 1 then s else if s.boot.next = some 7 then startFlush s s.now else stopBringUp s)) :=
  effectOn_of_eq hon (if_pos hpfail)

end

/-- The state with the pin's level and the sequence's step. -/
def withPfail (s : State) (low : Bool) (p : PfailStep) : State := { s with power.pfailLow := low, tier.pfail := p }

/-- Settles O36: the pin's two commands step by where PFAIL stands; what a flush and a cancel leave follows from their own equations. -/
theorem pfailSequence : Obligations.PfailSequence := by
  intro s
  refine ⟨fun hon hidle => ?asserts, fun hasserted => ?deasserts, fun hpersisted => ?releases,
    fun hon hasserted => ⟨fun hstopped => ?stopped, fun hstopped hready => ?flushes, fun hstopped hready => ?stops⟩,
    fun hon hreleasing => ?cancels, fun hon => effectOn_on hon⟩
  case asserts =>
    have hexec : exec .pfailAssert s = .next (keepQueue s (withPfail s true .asserted)) := by
      refine next_keepQueue_congr ?_
      dsimp only
      exact hidle.symm ▸ if_pos hon
    exact ⟨_, hexec, rfl, rfl, rfl, rfl⟩
  case deasserts =>
    have hexec : exec .pfailDeassert s = .next (keepQueue s (withPfail s false .idle)) := by
      refine next_keepQueue_congr ?_
      dsimp only
      exact hasserted.symm ▸ rfl
    exact ⟨_, hexec, rfl, rfl, rfl, rfl⟩
  case releases =>
    have hexec : exec .pfailDeassert s = .next (keepQueue s (withPfail s false .releasing)) := by
      refine next_keepQueue_congr ?_
      dsimp only
      exact hpersisted.symm ▸ rfl
    exact ⟨_, hexec, rfl, rfl⟩
  case stopped => exact (exec_pfailFlush_of_asserted hon hasserted).trans (next_keepQueue_congr (if_pos hstopped))
  case flushes =>
    exact (exec_pfailFlush_of_asserted hon hasserted).trans (next_keepQueue_congr ((if_neg hstopped).trans (if_pos hready)))
  case stops =>
    exact ⟨_, (exec_pfailFlush_of_asserted hon hasserted).trans (next_keepQueue_congr ((if_neg hstopped).trans (if_neg hready))), rfl, rfl⟩
  case cancels =>
    have hframe := marked_frame s
    have hexec := exec_pfailCancel_of_releasing hon hreleasing
    refine ⟨cancelled (marked s), rfl, hframe.1, hframe.2.1, fun hplanned hdev => ?_, fun hplanned => ?_⟩
    · have hopen : (cancelled (marked s)).tier.admitting = true :=
        and_of_true (hframe.2.2.1.symm ▸ Bool.or_eq_true_iff.2 (hdev.imp decide_eq_true decide_eq_true))
          (decide_eq_true (hframe.2.2.2.trans hplanned))
      exact ⟨hopen, hexec.trans (next_keepQueue_congr (if_pos hopen))⟩
    · have hclosed : (cancelled (marked s)).tier.admitting = false :=
        Bool.and_eq_false_iff.2 (.inr (decide_eq_false (hframe.2.2.2.symm ▸ hplanned)))
      exact ⟨hclosed, hexec.trans (next_keepQueue_congr (if_of_false hclosed))⟩

/-! ## Withdrawals and walks (R247, R248, R280-R282, R475) -/

/-- A request whose walk has ended goes on by where it came from (R249). -/
def requestGoesOn (s : State) (t : Txn) (k : Option Nat) (vpn : Nat) : State :=
  match t.reply with
  | .fabric _ _ => servePeer s t (some vpn)
  | _ => hostRequest s t k (some vpn)

theorem requestGoesOn_fabric {s : State} {t : Txn} {k : Option Nat} {vpn p h : Nat} (hreply : t.reply = .fabric p h) :
    requestGoesOn s t k vpn = servePeer s t (some vpn) := by
  delta requestGoesOn
  exact hreply.symm ▸ rfl

theorem requestGoesOn_other {s : State} {t : Txn} {k : Option Nat} {vpn : Nat} (hother : ∀ p h, t.reply ≠ .fabric p h) :
    requestGoesOn s t k vpn = hostRequest s t k (some vpn) := by
  delta requestGoesOn
  generalize t.reply = r at hother ⊢
  induction r with
  | fabric p h => exact absurd rfl (hother p h)
  | _ => rfl

section
variable {s : State} (hon : s.power.on = true)
include hon

theorem exec_xlatInvAck_of_withdrawal (p : Fin 8) {c : Ctx} {w : Withdrawal} (hw : tblFind s.xlat.withdrawals c.toNat = some w) :
    exec (.xlatInvAck p c) s = .next (keepQueue s { s with
      xlat.withdrawals := tblSet s.xlat.withdrawals c.toNat { w with xlatInv := w.xlatInv.filter (· != p.val) } }) := by
  refine effectOn_of_eq hon ?_
  delta ackXlat
  exact hw.symm ▸ rfl

theorem exec_xlatInvTimeout_of_waiting {p : Fin 8} (hwaits : ∃ w ∈ s.xlat.withdrawals, p.val ∈ w.2.xlatInv) :
    let u := failAgent s (336 + p.val)
    exec (.xlatInvTimeout p) s = .next (keepQueue s
      { u with xlat.withdrawals := u.xlat.withdrawals.map (fun w => (w.1, { w.2 with xlatInv := w.2.xlatInv.filter (· != p.val) })) }) := by
  exact effectOn_of_eq hon (if_pos (List.any_eq_true.2 (hwaits.imp fun _ hw => hw.imp_right List.contains_iff_mem.2)))

theorem exec_withdrawDrainEnd_of_drained {c : Ctx} {w : Withdrawal} (hw : tblFind s.xlat.withdrawals c.toNat = some w)
    (hdrained : drained s c.toNat w = true) :
    exec (.withdrawDrainEnd c) s = .next (keepQueue s (ackWindows (releaseDrained (finishWithdrawal s c.toNat w) c.toNat))) := by
  refine effectOn_of_eq hon (congrArg ackWindows ?_)
  refine hw.symm ▸ ?_
  exact if_pos hdrained

section
variable {d : Fin 40} {c : Ctx} {v : BitVec 45}

theorem exec_rangeWalk_of_none
    (hnone : (walksOf s d.val).find? (fun w => decide (w.ctx = c.toNat) && decide (w.vpn = v.toNat)) = none) :
    exec (.rangeWalk d c v) s = .next s := by
  refine effectOn_of_eq (u := s) hon ?_
  exact hnone.symm ▸ rfl

variable {w : Walk} (hfound : (walksOf s d.val).find? (fun w => decide (w.ctx = c.toNat) && decide (w.vpn = v.toNat)) = some w)
include hfound

/-- The stream that waited for a walk goes on with what it has found (R248). -/
theorem exec_rangeWalk_of_stream {i : Nat} (hwaiter : w.waiter = .stream i) :
    exec (.rangeWalk d c v) s = .next (keepQueue s
      (issueChunk (fillRange { s with xlat.walks := s.xlat.walks.erase w } w.die w.ctx w.vpn) i (some w.vpn))) := by
  refine effectOn_of_eq hon ?_
  refine hfound.symm ▸ ?_
  dsimp only
  exact hwaiter.symm ▸ rfl

/-- So does the request that waited. -/
theorem exec_rangeWalk_of_request {t : Txn} {k : Option Nat} (hwaiter : w.waiter = .request t k) :
    exec (.rangeWalk d c v) s = .next (keepQueue s (requestGoesOn
      (fillRange { s with xlat.walks := s.xlat.walks.erase w } w.die w.ctx w.vpn) t k w.vpn)) := by
  refine effectOn_of_eq hon ?_
  refine hfound.symm ▸ ?_
  dsimp only
  exact hwaiter.symm ▸ rfl

end

end

/-- Settles O37: each command's own equation; what waits for a walk decides what goes on with it. -/
theorem withdrawalsDrain : Obligations.WithdrawalsDrain := by
  intro s c p hon
  refine ⟨fun w hw => ⟨_, exec_xlatInvAck_of_withdrawal hon p hw, ?acked, rfl, rfl⟩, fun hwaits => exec_xlatInvTimeout_of_waiting hon hwaits,
    fun w hw hdrained => exec_withdrawDrainEnd_of_drained hon hw hdrained, effectOn_on hon,
    fun d v => ⟨fun hnone => exec_rangeWalk_of_none hon hnone, fun w hfound =>
      ⟨fun i hwaiter => exec_rangeWalk_of_stream hon hfound hwaiter, fun t k hwaiter =>
        ⟨fun p h hreply => (exec_rangeWalk_of_request hon hfound hwaiter).trans (next_keepQueue_congr (requestGoesOn_fabric hreply)),
          fun hother => (exec_rangeWalk_of_request hon hfound hwaiter).trans (next_keepQueue_congr (requestGoesOn_other hother))⟩⟩⟩⟩
  case acked => exact (tblFind_tblSet ..).trans (if_pos rfl)

end Sys2Proof.Laws
end

section
/-! PROOFS. Requests at a home: O39 and O40. -/

namespace Sys2Proof.Laws

open Sys2Proof Sys2Proof.Machine

/-! ## What a bank makes of a request (R297, R300, R305) -/

/-- A line takes no request: a transaction is open on it, its copies are being asked back, or its page is under move and the request may
write. -/
def lineHeld (s : State) (l : Nat) (k : ReqKind) : Bool :=
  (tblFind s.coh.busy l).isSome || askedBack s l || (takesWrite k && writesHeld s (l * 128))

section
variable {s : State} {l : Nat} {t : Txn} (hcut : cutOver s = false)
include hcut

theorem arrive_opens (hfree : lineHeld (countReq s l t.ctx t.agent) l t.kind = false)
    (hroom : bankFull (countReq s l t.ctx t.agent) l = false) : arrive s l t none = openTxn (countReq s l t.ctx t.agent) l t :=
  (if_of_false hcut).trans (if_of_false (or_of_false hfree hroom))

theorem arrive_refused (hheld : lineHeld (countReq s l t.ctx t.agent) l t.kind = true ∨ bankFull (countReq s l t.ctx t.agent) l = true) :
    arrive s l t none = sendRetry (countReq s l t.ctx t.agent) t l :=
  (if_of_false hcut).trans (if_pos (Bool.or_eq_true_iff.2 hheld))

end

/-- A request of a store address that its width fits arrives at its line (R195, R307). -/
theorem admitted_arrives {s : State} {t : Txn} (hstore : inStore s t.sa t.len = true) (haligned : atomAligned t = true)
    (hfits : t.sa % 128 + t.len ≤ 128) (ticket : Option Nat) : admitted s t ticket = arrive s (fwdLine s (t.sa / 128)) t ticket :=
  (if_not_of_true hstore).trans (if_of_false (or_of_false (congrArg not haligned) (decide_eq_false (Nat.not_lt.2 hfits))))

/-! ## How a request comes to its home (R288, R291, R474) -/

/-- The transaction that a request of R291 asks for. -/
def reqTxn (s : State) (r : Req) (kind : ReqKind) (sa len : Nat) (data : Bytes) (mask aop : Nat) (wide fetch : Bool) (op1 op2 : Nat)
    (reply : Reply) : Txn :=
  ⟨kind, r.agent.val, r.ctx.toNat, genNow s, sa, len, data, mask, aop, wide, fetch, op1, op2, [], none, false, false, reply, none⟩

section
variable {s : State} {r : Req} (hon : s.power.on = true) (hagent : r.agent.val ∉ s.coh.failed) {kind : ReqKind} (len : Nat) (data : Bytes)
  (mask aop : Nat) (wide fetch : Bool) (op1 op2 : Nat)
include hon hagent

theorem present : (s.coh.failed.contains r.agent.val || !s.power.on) = false :=
  or_of_false ((List.contains_eq_mem ..).trans (decide_eq_false hagent)) (congrArg not hon)

/-- An agent of the package without a cache names a store address. -/
theorem request_sa {a : BitVec 64} (hplace : r.place = .sa a) (hpackage : isAdapter r.agent.val = false) (hkind : takesState kind = false)
    (hticket : r.ticket = none) :
    request s r kind len data mask aop wide fetch op1 op2 =
      admitted s (reqTxn s r kind a.toNat len data mask aop wide fetch op1 op2 .agent) none := by
  refine (if_of_false (present hon hagent)).trans ?_
  refine hplace.symm ▸ (if_of_false hpackage).trans ((if_neg (ne_true_of_eq_false hkind)).trans ?_)
  exact hticket.symm ▸ rfl

/-- A host's request goes to the optical die of its port; its writes and atomics are noted first (R474, R482). -/
theorem request_host {p : Fin 8} {m : Bool} {addr : BitVec 64} (hplace : r.place = .host p m addr) (hup : urzenState s p.val = 2)
    (hhost : 336 ≤ r.agent.val) (hupg : kind ≠ .upg) (hroll : kind ≠ .roll)
    (hcached : takesState kind = true → isAdapter r.agent.val = true) {k : Option Nat} (hticket : r.ticket = k) :
    request s r kind len data mask aop wide fetch op1 op2 =
      hostRequest (if kind = .wrNc ∨ kind = .atom then hostAsks s p.val r.ctx.toNat r.tag.toNat k else s)
        (reqTxn s r kind 0 len data mask aop wide fetch op1 op2 (.urzen p.val r.tag.toNat addr.toNat)) k none := by
  subst hticket
  refine (if_of_false (present hon hagent)).trans ?_
  refine hplace.symm ▸ ?_
  exact (if_neg (not_or_intro (not_not_intro hup) (not_or_intro (Nat.not_lt.2 hhost) (not_or_intro hupg fun h =>
    absurd (hcached h.1) (ne_true_of_eq_false h.2))))).trans (if_neg hroll)

/-- ROLL is not a host's (R127). -/
theorem request_host_roll {p : Fin 8} {m : Bool} {addr : BitVec 64} (hplace : r.place = .host p m addr) (hup : urzenState s p.val = 2)
    (hhost : 336 ≤ r.agent.val) :
    request s r .roll len data mask aop wide fetch op1 op2 =
      refuse s (reqTxn s r .roll 0 len data mask aop wide fetch op1 op2 (.urzen p.val r.tag.toNat addr.toNat)) .range := by
  refine (if_of_false (present hon hagent)).trans ?_
  refine hplace.symm ▸ ?_
  exact (if_neg (not_or_intro (not_not_intro hup) (not_or_intro (Nat.not_lt.2 hhost) (not_or_intro (by decide) (fun h => absurd h.1 (by decide)))))).trans
    ((if_pos rfl).trans (congrArg (refuse · _ .range) (if_neg (by decide))))

/-- The upgrade of an adapter names the line by its store address (R471). -/
theorem request_upg {a : BitVec 64} (hplace : r.place = .sa a) (hadapter : isAdapter r.agent.val = true)
    (hup : urzenState s (r.agent.val - 336) = 2) :
    request s r .upg len data mask aop wide fetch op1 op2 =
      admitted s (reqTxn s r .upg a.toNat len data mask aop wide fetch op1 op2 (.urzen (r.agent.val - 336) r.tag.toNat a.toNat)) r.ticket := by
  refine (if_of_false (present hon hagent)).trans ?_
  exact hplace.symm ▸ (if_pos hadapter).trans (if_pos (and_of_true rfl (decide_eq_true hup)))

end

/-! ## O39 -/

/-- The atomics of R307 with their codes. -/
theorem exec_atomic_of_on {s : State} (hon : s.power.on = true) (r : Req) (w f : Bool) (x y : BitVec 64) :
    ∀ p ∈ [(Instr.add r w f x y, 0x01), (.and r w f x y, 0x02), (.or r w f x y, 0x03), (.xor r w f x y, 0x04), (.umax r w f x y, 0x05),
      (.umin r w f x y, 0x06), (.smax r w f x y, 0x07), (.smin r w f x y, 0x08), (.swap r w f x y, 0x09), (.cas r w f x y, 0x0A)],
      exec p.1 s = .next (keepQueue s (atomReq s r p.2 w f x y)) := by
  refine List.forall_mem_cons.2 ⟨effectOn_on hon, List.forall_mem_cons.2 ⟨effectOn_on hon, List.forall_mem_cons.2 ⟨effectOn_on hon,
    List.forall_mem_cons.2 ⟨effectOn_on hon, List.forall_mem_cons.2 ⟨effectOn_on hon, List.forall_mem_cons.2 ⟨effectOn_on hon,
      List.forall_mem_cons.2 ⟨effectOn_on hon, List.forall_mem_cons.2 ⟨effectOn_on hon, List.forall_mem_cons.2 ⟨effectOn_on hon,
        List.forall_mem_cons.2 ⟨effectOn_on hon, List.forall_mem_nil _⟩⟩⟩⟩⟩⟩⟩⟩⟩⟩

/-- WR_NC of bytes that fit a line asks for the whole line under its mask on the package, and for its bytes over a link (R291). -/
theorem exec_wrNc_of_sa {s : State} (hon : s.power.on = true) {r : Req} {a : BitVec 64} (hplace : r.place = .sa a) {d : Bytes}
    (hsome : d ≠ []) (hshort : d.length ≤ 128) (m : BitVec 128) :
    exec (.wrNc r d m) s = .next (keepQueue s (request s { r with place := .sa (BitVec.ofNat 64 (a.toNat / 128 * 128)) } .wrNc 128
      (padTo 128 d) m.toNat 0 false false 0 0)) := by
  refine effectOn_of_eq hon ((if_neg (not_or_intro hsome (Nat.not_lt.2 hshort))).trans ?_)
  exact hplace.symm ▸ rfl

theorem exec_wrNc_of_host {s : State} (hon : s.power.on = true) {r : Req} {p : Fin 8} {b : Bool} {addr : BitVec 64}
    (hplace : r.place = .host p b addr) {d : Bytes} (hsome : d ≠ []) (hshort : d.length ≤ 128) (m : BitVec 128) :
    exec (.wrNc r d m) s = .next (keepQueue s (request s r .wrNc d.length d 0 0 false false 0 0)) := by
  refine effectOn_of_eq hon ((if_neg (not_or_intro hsome (Nat.not_lt.2 hshort))).trans ?_)
  exact hplace.symm ▸ rfl

theorem lineStart_toNat (a : BitVec 64) : (BitVec.ofNat 64 (a.toNat / 128 * 128)).toNat = a.toNat / 128 * 128 :=
  (BitVec.toNat_ofNat ..).trans (Nat.mod_eq_of_lt (Nat.lt_of_le_of_lt (Nat.div_mul_le_self ..) a.isLt))

/-- A request that reaches its home opens its transaction where its line is free and the bank has room, and is refused otherwise. -/
theorem admitted_opens {s : State} {i : Instr} {t : Txn} (hcut : cutOver s = false)
    (hexec : exec i s = .next (keepQueue s (admitted s t none))) :
    let l := fwdLine s (t.sa / 128)
    let u := countReq s l t.ctx t.agent
    inStore s t.sa t.len = true → atomAligned t = true → t.sa % 128 + t.len ≤ 128 →
      (lineHeld u l t.kind = false → bankFull u l = false → exec i s = .next (keepQueue s (openTxn u l t))) ∧
      (lineHeld u l t.kind = true ∨ bankFull u l = true → exec i s = .next (keepQueue s (sendRetry u t l))) :=
  fun hstore haligned hfits =>
    have harrives := hexec.trans (next_keepQueue_congr (admitted_arrives hstore haligned hfits none))
    ⟨fun hfree hroom => harrives.trans (next_keepQueue_congr (arrive_opens hcut hfree hroom)),
      fun hheld => harrives.trans (next_keepQueue_congr (arrive_refused hcut hheld))⟩

/-- Settles O39: a request of the package arrives at its line, where what holds the line and the bank's room decide; a host's goes to the
die of its port. -/
theorem requestsOpen : Obligations.RequestsOpen := by
  intro s r hon hagent hticket hcut u txn
  refine ⟨fun a hpackage hplace => ?package, fun p m addr hplace hup hhost => ?host⟩
  case package =>
    intro accepts
    refine ⟨fun n => admitted_opens (t := txn .rdNc a.toNat (n.toNat + 1) [] 0 0 false false 0 0 .agent) hcut ?_,
      fun d m hsome hshort => admitted_opens (t := txn .wrNc (a.toNat / 128 * 128) 128 (padTo 128 d) m.toNat 0 false false 0 0 .agent) hcut ?_,
      admitted_opens (t := txn .roll a.toNat 16 [] 0 0x10 false true 0 0 .agent) hcut ?_,
      fun w f x y p hp => admitted_opens (t := txn .atom a.toNat (if w then 8 else 4) [] 0 p.2 w f x.toNat y.toNat .agent) hcut ?_⟩
    · exact effectOn_of_eq hon (request_sa hon hagent _ _ _ _ _ _ _ _ hplace hpackage rfl hticket)
    · refine (exec_wrNc_of_sa hon hplace hsome hshort m).trans (next_keepQueue_congr ?_)
      exact (request_sa (r := { r with place := .sa (BitVec.ofNat 64 (a.toNat / 128 * 128)) }) (kind := .wrNc) hon hagent _ _ _ _ _ _ _ _ rfl hpackage rfl hticket).trans
        (congrArg (fun n => admitted s (reqTxn s r .wrNc n 128 (padTo 128 d) m.toNat 0 false false 0 0 .agent) none) (lineStart_toNat a))
    · exact effectOn_of_eq hon (request_sa hon hagent _ _ _ _ _ _ _ _ hplace hpackage rfl hticket)
    · exact (exec_atomic_of_on hon r w f x y p hp).trans
        (next_keepQueue_congr (request_sa hon hagent _ _ _ _ _ _ _ _ hplace hpackage rfl hticket))
  case host =>
    intro reply v
    refine ⟨fun n => effectOn_of_eq hon ?_, fun d m hsome hshort => (exec_wrNc_of_host hon hplace hsome hshort m).trans (next_keepQueue_congr ?_),
      effectOn_of_eq hon (request_host_roll hon hagent 16 [] 0 0x10 false true 0 0 hplace hup hhost),
      fun w f x y i hi => (exec_atomic_of_on hon r w f x y i hi).trans (next_keepQueue_congr ?_)⟩
    · exact (request_host (kind := .rdNc) hon hagent _ _ _ _ _ _ _ _ hplace hup hhost (by decide) (by decide) (absurd · (by decide)) hticket).trans
        (congrArg (hostRequest · _ none none) (if_neg (by decide)))
    · exact (request_host (kind := .wrNc) hon hagent _ _ _ _ _ _ _ _ hplace hup hhost (by decide) (by decide) (absurd · (by decide)) hticket).trans
        (congrArg (hostRequest · _ none none) (if_pos (.inl rfl)))
    · exact (request_host (kind := .atom) hon hagent _ _ _ _ _ _ _ _ hplace hup hhost (by decide) (by decide) (absurd · (by decide)) hticket).trans
        (congrArg (hostRequest · _ none none) (if_pos (.inr rfl)))

/-! ## O40 -/

theorem cutOver_netDrop (s : State) (m : NetMsg) : cutOver (netDrop s m) = cutOver s := rfl

theorem fwdLine_netDrop (s : State) (m : NetMsg) (line : Nat) : fwdLine (netDrop s m) line = fwdLine s line := rfl

/-- A cluster cache's request leaves the network for its line. -/
theorem cachedReq_of_cluster {s : State} {r : Req} {a : BitVec 64} {k : NetKind} {kind : ReqKind} {m : NetMsg} (hplace : r.place = .sa a)
    (hcluster : r.agent.val < 336) (hmsg : netFind s k r.agent.val (a.toNat / 128) = some m) :
    cachedReq s r k kind = arrive (netDrop s m) (fwdLine s (a.toNat / 128))
      ⟨kind, r.agent.val, m.ctx, genNow s, a.toNat / 128 * 128, 128, [], 0, 0, false, false, 0, 0, [], none, false, false, .agent, none⟩
      m.ticket := by
  delta cachedReq
  refine hplace.symm ▸ (if_pos hcluster).trans ?_
  delta fromNet
  exact hmsg.symm ▸ rfl

theorem exec_cachedReq_of_on {s : State} (hon : s.power.on = true) (r : Req) :
    ∀ p ∈ [(Instr.rdS r, NetKind.rdS, ReqKind.rdS), (.rdM r, .rdM, .rdM), (.upg r, .upg, .upg)],
      exec p.1 s = .next (keepQueue s (cachedReq s r p.2.1 p.2.2)) := by
  exact List.forall_mem_cons.2 ⟨effectOn_on hon, List.forall_mem_cons.2 ⟨effectOn_on hon, List.forall_mem_cons.2 ⟨effectOn_on hon,
    List.forall_mem_nil _⟩⟩⟩

theorem adapter_above {n : Nat} (hadapter : isAdapter n = true) : 336 ≤ n := of_decide_eq_true (Bool.and_eq_true_iff.1 hadapter).1

/-- An adapter asks for the whole line of a host address (R471). -/
theorem cachedReq_of_host {s : State} {r : Req} (hon : s.power.on = true) (hadapter : isAdapter r.agent.val = true)
    (hagent : r.agent.val ∉ s.coh.failed) {p : Fin 8} {b : Bool} {addr : BitVec 64} (hplace : r.place = .host p b addr)
    (hup : urzenState s p.val = 2) (k : NetKind) {kind : ReqKind} (hkind : kind = .rdS ∨ kind = .rdM) :
    cachedReq s r k kind = hostRequest s (reqTxn s r kind 0 128 [] 0 0 false false 0 0
      (.urzen p.val r.tag.toNat (addr.toNat / 128 * 128))) r.ticket none := by
  have hnot : kind ≠ .upg ∧ kind ≠ .roll ∧ ¬(kind = .wrNc ∨ kind = .atom) := by
    rcases hkind with rfl | rfl <;> exact ⟨by decide, by decide, by decide⟩
  delta cachedReq
  refine hplace.symm ▸ ?_
  refine (request_host (r := { r with place := .host p b (BitVec.ofNat 64 (addr.toNat / 128 * 128)) }) hon hagent 128 [] 0 0
    false false 0 0 rfl hup (adapter_above hadapter) hnot.1 hnot.2.1 (fun _ => hadapter) rfl).trans ((congrArg (hostRequest · _ _ none) (if_neg hnot.2.2)).trans ?_)
  exact congrArg (fun n => hostRequest s (reqTxn s r kind 0 128 [] 0 0 false false 0 0 (.urzen p.val r.tag.toNat n)) r.ticket none)
    (lineStart_toNat addr)

/-- Its upgrade names the line by its store address. -/
theorem cachedReq_upg {s : State} {r : Req} (hon : s.power.on = true) (hadapter : isAdapter r.agent.val = true)
    (hagent : r.agent.val ∉ s.coh.failed) {a : BitVec 64} (hplace : r.place = .sa a) (hup : urzenState s (r.agent.val - 336) = 2)
    (k : NetKind) : cachedReq s r k .upg = admitted s (reqTxn s r .upg a.toNat 128 [] 0 0 false false 0 0
      (.urzen (r.agent.val - 336) r.tag.toNat a.toNat)) r.ticket := by
  delta cachedReq
  refine hplace.symm ▸ (if_neg (Nat.not_lt.2 (adapter_above hadapter))).trans ?_
  exact request_upg hon hagent 128 [] 0 0 false false 0 0 hplace hadapter hup

/-- Settles O40: an adapter's requests go the way of its place, and a cluster cache's message arrives at its line, where what holds the line
and the bank's room decide. -/
theorem cachedRequestsOpen : Obligations.CachedRequestsOpen := by
  refine ⟨fun s r hon hadapter hagent => ⟨fun p m addr hplace hup => ⟨?rdS, ?rdM⟩, fun a hplace hup => ?upg⟩,
    fun s r a m hon hcluster hplace hcut p hp hmsg hticket => ?cluster⟩
  case rdS => exact effectOn_of_eq hon (cachedReq_of_host hon hadapter hagent hplace hup _ (.inl rfl))
  case rdM => exact effectOn_of_eq hon (cachedReq_of_host hon hadapter hagent hplace hup _ (.inr rfl))
  case upg => exact effectOn_of_eq hon (cachedReq_upg hon hadapter hagent hplace hup _)
  case cluster =>
    have hexec := (exec_cachedReq_of_on hon r p hp).trans (next_keepQueue_congr
      ((cachedReq_of_cluster hplace hcluster hmsg).trans (congrArg (arrive _ _ _) hticket)))
    exact ⟨fun hfree hroom => hexec.trans (next_keepQueue_congr (arrive_opens hcut hfree hroom)),
      fun hheld => hexec.trans (next_keepQueue_congr (arrive_refused hcut hheld))⟩

end Sys2Proof.Laws
end

section
/-! PROOFS. Messages at a cache: O42 and O43. -/

namespace Sys2Proof.Laws

open Sys2Proof Sys2Proof.Machine

/-! ## Lines of a cache -/

theorem cacheLine_congr {s t : State} (h : t.coh.caches = s.coh.caches) (a l : Nat) : cacheLine t a l = cacheLine s a l := by
  rw [cacheLine, h, cacheLine]

@[simp] theorem cacheLine_keepQueue (s t : State) (a l : Nat) : cacheLine (keepQueue s t) a l = cacheLine t a l := rfl

@[simp] theorem cacheLine_netSend (s : State) (m : NetMsg) (a l : Nat) : cacheLine (netSend s m) a l = cacheLine s a l := rfl

@[simp] theorem cacheLine_netDrop (s : State) (m : NetMsg) (a l : Nat) : cacheLine (netDrop s m) a l = cacheLine s a l := rfl

theorem cacheLine_setCacheLine_same (s : State) (a l : Nat) (x : CLine) : cacheLine (setCacheLine s a l x) a l = some x :=
  (tblFind_tblSet ..).trans (if_pos rfl)

theorem cacheLine_setCacheLine_of_ne (s : State) {a l b k : Nat} (h : cacheKey b k ≠ cacheKey a l) (x : CLine) :
    cacheLine (setCacheLine s a l x) b k = cacheLine s b k :=
  (tblFind_tblSet ..).trans (if_neg h)

theorem tblFind_tblErase_same {α : Type} (t : Tbl α) (k : Nat) : tblFind (tblErase t k) k = none :=
  tblFind_of_forall_ne fun e he => by simpa using (List.mem_filter.1 he).2

theorem cacheLine_dropCacheLine_same (s : State) (a l : Nat) : cacheLine (dropCacheLine s a l) a l = none :=
  tblFind_tblErase_same _ _

/-! ## O42 -/

/-- A command takes the message `m` for the line of a cache, which is then `x`, sends `n`, and changes nothing else of the caches. -/
def TakesAnswer (s : State) (a l : Nat) (m : NetMsg) (i : Instr) (x : CLine) (n : NetMsg) : Prop :=
  ∃ t, exec i s = .next t ∧ cacheLine t a l = some x ∧ t.coh.net = s.coh.net.erase m ++ [n] ∧
    (∀ b k, cacheKey b k ≠ cacheKey a l → cacheLine t b k = cacheLine s b k) ∧ t.mem = s.mem ∧ t.od = s.od ∧ t.q = s.q ∧
    t.coh.shadow = s.coh.shadow

theorem takesAnswer_of_set {s : State} {a l : Nat} {m : NetMsg} {i : Instr} {x : CLine} {n : NetMsg}
    (h : exec i s = .next (keepQueue s (netSend (setCacheLine (netDrop s m) a l x) n))) : TakesAnswer s a l m i x n :=
  ⟨_, h, cacheLine_setCacheLine_same (netDrop s m) a l x, rfl, fun _ _ hne => cacheLine_setCacheLine_of_ne (netDrop s m) hne x,
    rfl, rfl, rfl, rfl⟩

theorem takesAnswer_of_send {s : State} {a l : Nat} {m : NetMsg} {i : Instr} {c : CLine} {n : NetMsg} (hc : cacheLine s a l = some c)
    (h : exec i s = .next (keepQueue s (netSend (netDrop s m) n))) : TakesAnswer s a l m i c n :=
  ⟨_, h, hc, rfl, fun _ _ _ => rfl, rfl, rfl, rfl, rfl⟩

/-- The request that a line of this state has sent (R302). -/
def asked : CState → Option NetKind
  | .is => some .rdS
  | .im => some .rdM
  | .sm => some .upg
  | .om => some .upg
  | _ => none

theorem asked_of_mem : ∀ p ∈ [(CState.is, NetKind.rdS), (.im, .rdM), (.sm, .upg), (.om, .upg)], asked p.1 = some p.2 := by decide

/-- A cache sends the request of its line's state again, with the ticket that it has been given (R302). -/
theorem hearRetry_sends {s : State} {a b l : Nat} {m : NetMsg} {c : CLine} (hb : b = a) (hm : netFind s .retry a l = some m)
    (hc : cacheLine s a l = some c) {k : NetKind} (hk : asked c.st = some k) :
    hearRetry s b l = netSend (netDrop s m) { plainMsg k a l with ctx := c.ctx, ticket := m.ticket } := by
  subst hb
  delta hearRetry
  refine hm.symm ▸ ?_
  refine hc.symm ▸ ?_
  change (match asked c.st with
    | some k => netSend (netDrop s m) { plainMsg k b l with ctx := c.ctx, ticket := m.ticket }
    | none => netDrop s m) = _
  exact hk.symm ▸ rfl

theorem hearRetry_drops {s : State} {a l : Nat} {m : NetMsg} (hm : netFind s .retry a l = some m) (hc : cacheLine s a l = none) :
    hearRetry s a l = netDrop s m := by
  delta hearRetry
  refine hm.symm ▸ ?_
  exact hc.symm ▸ rfl

section
variable {s : State} {a l : Nat} {m : NetMsg} {c : CLine}

/-- The line as DATA leaves it, but for its state. -/
def filled (m : NetMsg) (c : CLine) : CLine := { c with hasData := true, data := m.data.getD [], poison := m.poison, written := 0 }

theorem hearData_shared (hm : netFind s .data a l = some m) (hc : cacheLine s a l = some c) (hst : c.st = .is) (hgrant : m.grant ≠ .m) :
    hearData s a l = netSend (setCacheLine (netDrop s m) a l { filled m c with st := m.grant }) (plainMsg .compack a l) := by
  delta hearData
  refine hm.symm ▸ ?_
  refine hc.symm ▸ ?_
  dsimp only
  exact hst.symm ▸ if_neg hgrant

theorem hearData_owned (hm : netFind s .data a l = some m) (hc : cacheLine s a l = some c) (hst : c.st = .im ∨ c.st = .sm ∨ c.st = .om)
    (hgrant : m.grant = .m) :
    hearData s a l = netSend (setCacheLine (netDrop s m) a l (installM (filled m c))) (plainMsg .compack a l) := by
  delta hearData
  refine hm.symm ▸ ?_
  refine hc.symm ▸ ?_
  dsimp only
  refine hgrant.symm ▸ ?_
  rcases hst with hst | hst | hst <;> exact hst.symm ▸ if_pos rfl

theorem hearGrant_owned (hm : netFind s .grant a l = some m) (hc : cacheLine s a l = some c) (hst : c.st = .sm ∨ c.st = .om)
    (hdata : c.hasData = true) :
    hearGrant s a l = netSend (setCacheLine (netDrop s m) a l (installM c)) (plainMsg .compack a l) := by
  delta hearGrant
  refine hm.symm ▸ ?_
  refine hc.symm ▸ ?_
  exact if_pos ⟨hst, hdata⟩

/-- NC_DONE is taken with the copy that an owner has sent. -/
theorem hearNcDone_takes (hm : netFind s .ncDone a l = some m) {copy : Option NetMsg}
    (hcopy : (netDrop s m).coh.net.find? (fun m => decide (m.kind = .copy) && decide (m.agent = a) && decide (m.line = l)) = copy) :
    hearNcDone s a l = copy.elim (netDrop s m) (netDrop (netDrop s m)) := by
  subst hcopy
  delta hearNcDone
  refine hm.symm ▸ ?_
  dsimp only
  induction (netDrop s m).coh.net.find? (fun m => decide (m.kind = .copy) && decide (m.agent = a) && decide (m.line = l)) <;> rfl

end

/-- Settles O42: the state of the line and the grant of the message pick the branch of the cache. -/
theorem cachesTakeAnswers : Obligations.CachesTakeAnswers := by
  intro s a l m c hon hc
  exact ⟨fun hm => ⟨fun hst hgrant => takesAnswer_of_set (effectOn_of_eq hon (hearData_shared hm hc hst hgrant)),
      fun hst hgrant => takesAnswer_of_set (effectOn_of_eq hon (hearData_owned hm hc hst hgrant))⟩,
    fun hm hst hdata => takesAnswer_of_set (effectOn_of_eq hon (hearGrant_owned hm hc hst hdata)),
    fun b hb hm p hp hst => takesAnswer_of_send hc
      (effectOn_of_eq hon (hearRetry_sends hb hm hc ((congrArg asked hst).trans (asked_of_mem p hp)))),
    fun b hnone hm => effectOn_of_eq hon (hearRetry_drops hm hnone),
    fun b hm => ⟨fun hcopy => effectOn_of_eq hon (hearNcDone_takes hm hcopy), fun k hcopy => effectOn_of_eq hon (hearNcDone_takes hm hcopy)⟩⟩

/-! ## O43 -/

section
variable {s : State} {a l : Nat} {m : NetMsg} {c : CLine}

/-- The acknowledgement of a forward by an owner. -/
def ackMsg (a l : Nat) (c : CLine) : NetMsg :=
  { plainMsg .fwdAck a l with flag := dirtySt c.st, data := some c.data, poison := clinePoison c }

/-- DATA from an owner for a requester of the package. -/
def dataMsg (a l : Nat) (t : Txn) (g : CState) (c : CLine) : NetMsg :=
  { plainMsg .data t.agent l with grant := g, data := some c.data, poison := clinePoison c, ctx := t.ctx, peer := a + 1 }

/-- The copy that an owner sends to a requester of the package. -/
def copyMsg (a l : Nat) (t : Txn) (c : CLine) : NetMsg :=
  { plainMsg .copy t.agent l with data := some (ncBytes t c.data), poison := clinePoison c, peer := a + 1 }

theorem sendData_of_agent {t : Txn} (h : t.reply = .agent) (s : State) (a l : Nat) (g : CState) (c : CLine) :
    sendData s (a + 1) t l g c.data (clinePoison c) = netSend s (dataMsg a l t g c) := by
  delta sendData
  exact h.symm ▸ rfl

/-- What a forward leaves of an owner, before its acknowledgement. -/
def served (s : State) (k : NetKind) (a l : Nat) (c : CLine) (t : Txn) : State :=
  match k with
  | .fwdS => setCacheLine (sendData s (a + 1) t l .s c.data (clinePoison c)) a l { c with st := afterFwdS c.st }
  | .fwdM =>
    let s := sendData s (a + 1) t l .m c.data (clinePoison c)
    if c.st = .om then setCacheLine s a l { c with hasData := false }
    else if c.st = .mi ∨ c.st = .oi ∨ c.st = .ei then s
    else dropCacheLine s a l
  | _ => if t.reply = .agent then netSend s (copyMsg a l t c) else s

/-- An owner that has the line's data serves a forward. -/
theorem takeForward_of_owner {k : NetKind} {t : Txn} (hm : netFind s k a l = some m)
    (hc : cacheLine s a l = some c) (ht : tblFind s.coh.busy l = some t) (hsupplies : supplies c.st = true) (hdata : c.hasData = true) :
    takeForward s k a l = netSend (served (netDrop s m) k a l c t) (ackMsg a l c) := by
  delta takeForward
  refine hm.symm ▸ ?_
  refine hc.symm ▸ ?_
  refine ht.symm ▸ ?_
  exact if_of_false (or_of_false (congrArg not hsupplies) (congrArg not hdata))

theorem served_fwdS {t : Txn} (hreply : t.reply = .agent) :
    served s .fwdS a l c t = setCacheLine (netSend s (dataMsg a l t .s c)) a l { c with st := afterFwdS c.st } :=
  congrArg (setCacheLine · a l { c with st := afterFwdS c.st }) (sendData_of_agent hreply ..)

theorem stable_of_owner {st : CState} (h : st = .m ∨ st = .o ∨ st = .e) : ¬st = .om ∧ ¬(st = .mi ∨ st = .oi ∨ st = .ei) := by
  rcases h with rfl | rfl | rfl <;> decide

theorem served_fwdM {t : Txn} (hreply : t.reply = .agent) (hst : c.st = .m ∨ c.st = .o ∨ c.st = .e) :
    served s .fwdM a l c t = dropCacheLine (netSend s (dataMsg a l t .m c)) a l :=
  (if_neg (stable_of_owner hst).1).trans ((if_neg (stable_of_owner hst).2).trans
    (congrArg (dropCacheLine · a l) (sendData_of_agent hreply ..)))

theorem takeInv_drops (hm : netFind s .inv a l = some m) (hc : cacheLine s a l = some c)
    (hst : c.st = .s ∨ c.st = .o) : takeInv s a l = dropCacheLine (netSend (netDrop s m) (plainMsg .invAck a l)) a l := by
  have hc' : cacheLine (netSend (netDrop s m) (plainMsg .invAck a l)) a l = some c := hc
  delta takeInv
  refine hm.symm ▸ ?_
  dsimp only
  refine hc'.symm ▸ ?_
  dsimp only
  rcases hst with hst | hst <;> exact hst.symm ▸ rfl

/-- The acknowledgement of a recall. -/
def recallAckOf (a l : Nat) (c : CLine) : NetMsg :=
  { plainMsg .recallAck a l with
    data := if dirtySt c.st && c.hasData then some c.data else none, poison := clinePoison c, allWritten := decide (c.written = fullMask) }

/-- What a recall leaves of a line in the state st, of the states `dropped`, `emptied` and `kept`. -/
def recalled (st : CState) (dropped emptied kept : State) : State :=
  match st with
  | .s => dropped
  | .e => dropped
  | .o => dropped
  | .m => dropped
  | .sm => emptied
  | .om => emptied
  | _ => kept

theorem recalled_of_stable {st : CState} (h : st = .m ∨ st = .o ∨ st = .e ∨ st = .s) (dropped emptied kept : State) :
    recalled st dropped emptied kept = dropped :=
  h.elim (fun h => h.symm ▸ rfl) fun h => h.elim (fun h => h.symm ▸ rfl) fun h => h.elim (fun h => h.symm ▸ rfl) fun h => h.symm ▸ rfl

theorem takeRecall_drops (hm : netFind s .recall a l = some m)
    (hc : cacheLine s a l = some c) (hst : c.st = .m ∨ c.st = .o ∨ c.st = .e ∨ c.st = .s) :
    takeRecall s a l = dropCacheLine (netSend (netDrop s m) (recallAckOf a l c)) a l := by
  delta takeRecall
  refine hm.symm ▸ (?_ : (match cacheLine (netDrop s m) a l with | some c => _ | none => _) = _)
  exact (show cacheLine (netDrop s m) a l = some c from hc).symm ▸ recalled_of_stable hst
    (dropCacheLine (netSend (netDrop s m) (recallAckOf a l c)) a l)
    (setCacheLine (netSend (netDrop s m) (recallAckOf a l c)) a l { c with hasData := false }) (netSend (netDrop s m) (recallAckOf a l c))

/-- The state that EVICT of a stable line leaves it in. -/
def evictTo : CState → Option CState
  | .s => some .si
  | .e => some .ei
  | .o => some .oi
  | .m => some .mi
  | _ => none

theorem evictTo_of_mem : ∀ p ∈ [(CState.s, CState.si), (.e, .ei), (.o, .oi), (.m, .mi)], evictTo p.1 = some p.2 := by decide

theorem exec_evict_of_stable {a : Fin 336} {l : Line} {st : CState} (hon : s.power.on = true) (hc : cacheLine s a.val l.toNat = some c)
    (hst : evictTo c.st = some st) : exec (.evict a l) s =
      .next (keepQueue s (sendVictim (setCacheLine s a.val l.toNat { c with st := st, sent := false }) a.val l.toNat)) := by
  refine effectOn_of_eq hon ?_
  dsimp only
  refine hc.symm ▸ ?_
  change (match evictTo c.st with
    | some st => sendVictim (setCacheLine s a.val l.toNat { c with st := st, sent := false }) a.val l.toNat
    | none => s) = _
  exact hst.symm ▸ rfl

theorem find_unsent_none (hsent : s.coh.caches.all (fun e => e.1 == cacheKey a l || !decide (e.1 / 2 ^ 45 = a) || e.2.sent) = true)
    (f g : Nat × CLine → Bool) :
    (tblErase s.coh.caches (cacheKey a l)).find? (fun e => decide (e.1 / 2 ^ 45 = a) && !e.2.sent && f e && g e) = none :=
  List.find?_eq_none.2 fun e he htrue =>
    have hkept := List.mem_filter.1 he
    have hfound := Bool.and_eq_true_iff.1 (Bool.and_eq_true_iff.1 (Bool.and_eq_true_iff.1 htrue).1).1
    (Bool.or_eq_true_iff.1 (List.all_eq_true.1 hsent e hkept.1)).elim
      (fun h => (Bool.or_eq_true_iff.1 h).elim (fun hkey => absurd (beq_iff_eq.1 hkey) (bne_iff_ne.1 hkept.2))
        fun hother => absurd hfound.1 (ne_true_of_eq_false (Bool.not_inj hother)))
      fun hwas => absurd hwas (ne_true_of_eq_false (Bool.not_inj hfound.2))

/-- WB_ACK drops the line, and no other victim of the agent waits for the credit. -/
theorem hearWbAck_drops (hm : netFind s .wbAck a l = some m)
    (hsent : s.coh.caches.all (fun e => e.1 == cacheKey a l || !decide (e.1 / 2 ^ 45 = a) || e.2.sent) = true) :
    hearWbAck s a l = dropCacheLine (netDrop s m) a l := by
  delta hearWbAck
  refine hm.symm ▸ ?_
  change (match (tblErase s.coh.caches (cacheKey a l)).find? (fun e => decide (e.1 / 2 ^ 45 = a) && !e.2.sent && _ && _) with
    | some e => sendVictim (dropCacheLine (netDrop s m) a l) a (e.1 % 2 ^ 45)
    | none => dropCacheLine (netDrop s m) a l) = _
  exact (find_unsent_none hsent _ _).symm ▸ rfl

/-- A line that is dropped with an answer is no memory, and no entry. -/
theorem dropped_frame (s : State) (m n : NetMsg) (a l : Nat) : (keepQueue s (dropCacheLine (netSend (netDrop s m) n) a l)).mem = s.mem ∧
    (keepQueue s (dropCacheLine (netSend (netDrop s m) n) a l)).od = s.od := ⟨rfl, rfl⟩

end

/-- Settles O43: the state of the line picks what a snoop leaves of it, and every answer is on the network in the message's place. -/
theorem cachesTakeSnoops : Obligations.CachesTakeSnoops := by
  intro s a l m c hon hc
  refine ⟨fun hm hst => ?inv, fun hm hst => ?recalled, fun t ht hreply hsupplies hdata => ?forward,
    fun t ht hreply hsupplies hdata hm => ?fwdNc, ?evict, fun hm hsent => ?wbAck⟩
  case inv => exact ⟨_, effectOn_of_eq hon (takeInv_drops hm hc hst),
      cacheLine_dropCacheLine_same (netSend (netDrop s m) (plainMsg .invAck a.val l.toNat)) .., rfl, dropped_frame ..⟩
  case recalled =>
    exact ⟨_, recallAckOf a.val l.toNat c, effectOn_of_eq hon (takeRecall_drops hm hc hst),
      cacheLine_dropCacheLine_same (netSend (netDrop s m) (recallAckOf a.val l.toNat c)) .., rfl, rfl, rfl, dropped_frame ..⟩
  case forward =>
    intro ack
    refine ⟨fun hm => ?fwdS, fun hm hst => ?fwdM, fun hm => ?copy⟩
    case fwdS =>
      exact ⟨_, dataMsg a.val l.toNat t .s c, ackMsg a.val l.toNat c,
        effectOn_of_eq hon ((takeForward_of_owner hm hc ht hsupplies hdata).trans (congrArg (netSend · _) (served_fwdS hreply))),
        cacheLine_setCacheLine_same (netSend (netDrop s m) (dataMsg a.val l.toNat t .s c)) .., List.append_assoc .., rfl, rfl, rfl, rfl, rfl, rfl, rfl, rfl⟩
    case fwdM =>
      exact ⟨_, dataMsg a.val l.toNat t .m c, ackMsg a.val l.toNat c,
        effectOn_of_eq hon ((takeForward_of_owner hm hc ht hsupplies hdata).trans (congrArg (netSend · _) (served_fwdM hreply hst))),
        cacheLine_dropCacheLine_same (netSend (netDrop s m) (dataMsg a.val l.toNat t .m c)) .., List.append_assoc .., rfl, rfl, rfl, rfl, rfl, rfl, rfl, rfl⟩
    case copy =>
      exact ⟨_, copyMsg a.val l.toNat t c, ackMsg a.val l.toNat c,
        effectOn_of_eq hon ((takeForward_of_owner hm hc ht hsupplies hdata).trans (congrArg (netSend · _) (if_pos hreply))),
        hc, List.append_assoc .., rfl, rfl, rfl, rfl, rfl, rfl, rfl⟩
  case fwdNc =>
    exact ⟨_, ackMsg a.val l.toNat c,
      effectOn_of_eq hon ((takeForward_of_owner hm hc ht hsupplies hdata).trans (congrArg (netSend · _) (if_neg hreply))),
      hc, rfl, rfl, rfl, rfl, rfl⟩
  case evict => exact fun p hp hst => exec_evict_of_stable hon hc ((congrArg evictTo hst).trans (evictTo_of_mem p hp))
  case wbAck => exact ⟨_, effectOn_of_eq hon (hearWbAck_drops hm hsent), cacheLine_dropCacheLine_same (netDrop s m) .., rfl, rfl⟩

end Sys2Proof.Laws
end

section
/-! PROOFS. Replies at a home, loads and stores, hot lines: O44, O45 and O46. -/

namespace Sys2Proof.Laws

open Sys2Proof Sys2Proof.Machine

/-! ## O44 -/

/-- An owner's line on its way to who waits for it (R296). -/
def handed (s : State) (t : Txn) (a l : Nat) (d : Bytes) (bad : Bool) : State :=
  match t.kind with
  | .rdS => sendData s (a + 1) t l .s d bad
  | .rdM => sendData s (a + 1) t l .m d bad
  | .upg => sendData s (a + 1) t l .m d bad
  | _ => s

section
variable {s : State} {t : Txn} {a l : Nat} {d : Bytes} {bad : Bool}

theorem handed_rdNc (h : t.kind = .rdNc) : handed s t a l d bad = s := by
  delta handed
  exact h.symm ▸ rfl

theorem handed_rdS (h : t.kind = .rdS) : handed s t a l d bad = sendData s (a + 1) t l .s d bad := by
  delta handed
  exact h.symm ▸ rfl

theorem handed_write (h : t.kind = .rdM ∨ t.kind = .upg) : handed s t a l d bad = sendData s (a + 1) t l .m d bad := by
  delta handed
  rcases h with h | h <;> exact h.symm ▸ rfl

end

section
variable {s : State} {a l : Nat} {m : NetMsg} {t : Txn}

/-- The reply of an adapter whose snoop is outstanding goes to the owner's transaction, with the line to who waits for it. -/
theorem adapterSupplied_of_owner (ht : tblFind s.coh.busy l = some t) (howner : t.owner = some a)
    (hsnoop : (a - 336, l) ∈ s.fab.snoops) (k : Bool) (d : Bytes) :
    adapterSupplied s a l k d =
      ownerReplied (handed (snoopDone s a l) t a l (padTo 128 d) (poisoned s l)) l t a k (padTo 128 d) (poisoned s l) := by
  delta adapterSupplied
  refine ht.symm ▸ ?_
  exact if_pos ⟨howner, List.contains_iff_mem.2 hsnoop⟩

theorem wbArrives_of_msg (hm : netFind s .wb a l = some m) :
    wbArrives s a l = takeWb (netDrop s m) a l m.flag (m.data.getD []) m.poison m.allWritten := by
  delta wbArrives
  exact hm.symm ▸ rfl

theorem evictArrives_of_msg (hm : netFind s .evict a l = some m) : evictArrives s a l = takeEvict (netDrop s m) a l := by
  delta evictArrives
  exact hm.symm ▸ rfl

theorem hearFwdAck_of_msg (hm : netFind s .fwdAck a l = some m) (ht : tblFind s.coh.busy l = some t) (howner : t.owner = some a) :
    hearFwdAck s a l = ownerReplied (netDrop s m) l t a m.flag (m.data.getD []) m.poison := by
  delta hearFwdAck
  refine ht.symm ▸ ?_
  exact hm.symm ▸ if_pos howner

theorem hearInvAck_of_msg (hm : netFind s .invAck a l = some m) :
    hearInvAck s a l = holderReplied (netDrop s m) a l none false false := by
  delta hearInvAck
  exact hm.symm ▸ rfl

theorem hearRecallAck_of_msg (hm : netFind s .recallAck a l = some m) :
    hearRecallAck s a l = holderReplied (netDrop s m) a l m.data m.poison m.allWritten := by
  delta hearRecallAck
  exact hm.symm ▸ rfl

theorem hearCompack_of_msg (hm : netFind s .compack a l = some m) : hearCompack s a l = installed (netDrop s m) a l := by
  delta hearCompack
  exact hm.symm ▸ rfl

theorem installed_of_requester (ht : tblFind s.coh.busy l = some t) (hagent : t.agent = a)
    (hkind : takesState t.kind = true) (hfree : blocked t = false) : installed s a l = settleTxn s l { t with ended := true } := by
  delta installed
  exact ht.symm ▸ if_pos ⟨hagent, hkind, hfree⟩

theorem adapterUp_of_agreed (hup : urzenState s (a - 336) = 2) (hfine : a ∉ s.coh.failed) : adapterUp s a = true :=
  and_of_true (decide_eq_true hup) (congrArg not ((List.contains_eq_mem ..).trans (decide_eq_false hfine)))

end

theorem exec_compack_of_adapter {s : State} {a : Fin 344} {l : Line} {t : Txn} (hon : s.power.on = true) (hadapter : isAdapter a.val = true)
    (ht : tblFind s.coh.busy l.toNat = some t) (hsupplied : t.supplied = true) (hup : urzenState s (a.val - 336) = 2) :
    exec (.compack a l) s = .next (keepQueue s (installed s a.val l.toNat)) := by
  refine effectOn_of_eq hon ((if_pos hadapter).trans ?_)
  exact ht.symm ▸ if_pos ⟨hsupplied, hup⟩

/-- What an adapter sends back is taken by its line where its port is agreed on. -/
theorem adapterArrives {s t u v w : State} {a : Fin 344} (hadapter : isAdapter a.val = true) (hup : urzenState s (a.val - 336) = 2)
    (hfine : a.val ∉ s.coh.failed) (ht : t = w) :
    (if !isAdapter a.val then u else if !adapterUp s a.val then v else t) = w :=
  (if_not_of_true hadapter).trans ((if_not_of_true (adapterUp_of_agreed hup hfine)).trans ht)

theorem exec_fwdAck_of_adapter {s u : State} {a : Fin 344} {l : Line} {t : Txn} (hon : s.power.on = true) (hadapter : isAdapter a.val = true)
    (ht : tblFind s.coh.busy l.toNat = some t) (howner : t.owner = some a.val) (hsnoop : (a.val - 336, l.toNat) ∈ s.fab.snoops) {k : Bool} {d : Bytes}
    (hu : handed (snoopDone s a.val l.toNat) t a.val l.toNat (padTo 128 d) (poisoned s l.toNat) = u) :
    exec (.fwdAck a l k d) s = .next (keepQueue s (ownerReplied u l.toNat t a.val k (padTo 128 d) (poisoned s l.toNat))) :=
  effectOn_of_eq hon ((if_pos hadapter).trans ((adapterSupplied_of_owner ht howner hsnoop k d).trans (congrArg (ownerReplied · _ _ _ _ _ _) hu)))

/-- Settles O44: a cluster cache's reply is a message of the network, an adapter's one of its port. -/
theorem homesTakeReplies : Obligations.HomesTakeReplies := by
  intro s a l hon
  refine ⟨fun hcluster => ⟨fun m hm hcut k d w => ?wb, fun m hm => ?evict, fun m t hm ht howner k d => ?fwdAck, fun m hm => ?invAck,
    fun m hm d => ?recallAck, fun m t hm ht hagent hkind hfree => ?compack⟩, fun hadapter => ⟨fun hcut hup hfine k d w => ?taken,
    fun t ht howner hsnoop => ?supplied, fun hsnoop => ⟨?invalidated, fun d => ?recalled⟩, fun t ht hsupplied hup hagent hkind hfree => ?closed⟩⟩
  case wb => exact effectOn_of_eq hon ((if_of_false hcut).trans ((if_not_of_false hcluster).trans (wbArrives_of_msg hm)))
  case evict => exact effectOn_of_eq hon ((if_not_of_false hcluster).trans (evictArrives_of_msg hm))
  case fwdAck => exact effectOn_of_eq hon ((if_of_false hcluster).trans (hearFwdAck_of_msg hm ht howner))
  case invAck => exact effectOn_of_eq hon ((if_of_false hcluster).trans (hearInvAck_of_msg hm))
  case recallAck => exact effectOn_of_eq hon ((if_of_false hcluster).trans (hearRecallAck_of_msg hm))
  case compack =>
    exact effectOn_of_eq hon ((if_of_false hcluster).trans ((hearCompack_of_msg hm).trans (installed_of_requester ht hagent hkind hfree)))
  case taken =>
    exact ⟨fun hstore =>
        ⟨effectOn_of_eq hon ((if_of_false hcut).trans (adapterArrives hadapter hup hfine (if_not_of_true hstore))),
          effectOn_of_eq hon (adapterArrives hadapter hup hfine (if_not_of_true hstore))⟩,
      fun hstore => ⟨effectOn_of_eq hon ((if_of_false hcut).trans (adapterArrives hadapter hup hfine (if_not_of_false hstore))),
        effectOn_of_eq hon (adapterArrives hadapter hup hfine (if_not_of_false hstore))⟩⟩
  case supplied =>
    intro u bad k d
    exact ⟨fun hkind => exec_fwdAck_of_adapter hon hadapter ht howner hsnoop (handed_rdNc hkind),
      fun hkind => exec_fwdAck_of_adapter hon hadapter ht howner hsnoop (handed_rdS hkind),
      fun hkind => exec_fwdAck_of_adapter hon hadapter ht howner hsnoop (handed_write hkind)⟩
  case invalidated => exact effectOn_of_eq hon ((if_pos hadapter).trans (if_pos (List.contains_iff_mem.2 hsnoop)))
  case recalled => exact effectOn_of_eq hon ((if_pos hadapter).trans (if_pos (List.contains_iff_mem.2 hsnoop)))
  case closed =>
    exact (exec_compack_of_adapter hon hadapter ht hsupplied hup).trans (next_keepQueue_congr (installed_of_requester ht hagent hkind hfree))

/-! ## O45 -/

/-- An engine with a cluster cache has no reach of its own into T0 (R195). -/
theorem firmwareReach_of_cached {e : Eng} {a : Nat} (h : cacheAgent e = some a) (sa n : Nat) : firmwareReach e.kind sa n = false := by
  delta cacheAgent at h
  delta firmwareReach
  generalize e.kind = k at h ⊢
  induction k with
  | scribe => exact absurd h.symm (Option.some_ne_none a)
  | mgmt => exact absurd h.symm (Option.some_ne_none a)
  | _ => rfl

/-- Bytes within a line lie in that line alone. -/
theorem linesOf_within_line {sa n : Nat} (hfits : sa % 128 + n < 128) : linesOf sa (n + 1) = [sa / 128] := by
  have hn : n < 128 := Nat.lt_of_le_of_lt (Nat.le_add_left ..) hfits
  have hlast : (sa + n) / 128 = sa / 128 :=
    (Nat.add_div_eq_of_add_mod_lt ((Nat.mod_eq_of_lt hn).symm ▸ hfits)).trans ((Nat.div_eq_of_lt hn).symm ▸ rfl)
  have hone : (sa + n) / 128 - sa / 128 + 1 = 1 := hlast.symm ▸ Nat.sub_self (sa / 128) ▸ rfl
  refine (congrArg (fun k => (List.range k).map (· + sa / 128)) hone).trans ?_
  exact congrArg (fun k => [k]) (Nat.zero_add _)

theorem linesOf_bytes {sa : Nat} {d : Bytes} (hsome : d ≠ []) (hfits : sa % 128 + d.length ≤ 128) :
    linesOf sa d.length = [sa / 128] := by
  induction d with
  | nil => exact absurd rfl hsome
  | cons b d => exact linesOf_within_line hfits

theorem storePart_within_line {sa : Nat} {d : Bytes} (hfits : sa % 128 + d.length ≤ 128) :
    storePart sa d (sa / 128) = (sa % 128, (2 ^ d.length - 1) * 2 ^ (sa % 128), d) := by
  have hline : sa / 128 * 128 + sa % 128 = sa := Nat.div_add_mod' sa 128
  have hlo : max sa (sa / 128 * 128) = sa := Nat.max_eq_left (Nat.div_mul_le_self ..)
  have hend : sa + d.length ≤ sa / 128 * 128 + 128 := calc
    sa + d.length = sa / 128 * 128 + (sa % 128 + d.length) := by rw [← Nat.add_assoc, hline]
    _ ≤ sa / 128 * 128 + 128 := Nat.add_le_add_left hfits _
  have hoff : sa - sa / 128 * 128 = sa % 128 := (Nat.sub_eq_iff_eq_add' (Nat.div_mul_le_self ..)).2 hline.symm
  delta storePart
  dsimp only
  rw [hlo, Nat.min_eq_left hend, hoff, Nat.add_sub_cancel_left, Nat.sub_self, List.drop_zero, List.take_length]

/-- What an access changes of its page's recency is no line and no store. -/
theorem touchSa_coh_q (s : State) (sa : Nat) : (touchSa s sa).coh = s.coh ∧ (touchSa s sa).q = s.q := by
  delta touchSa
  induction frameOwner s (sa / 4096) with
  | none => exact ⟨rfl, rfl⟩
  | some c =>
    dsimp only
    generalize List.find? _ (rangeTable s c) = o
    induction o <;> exact ⟨rfl, rfl⟩

theorem cacheLine_copyTakes_touchSa (s : State) (sa : Nat) (e : Eng) (l mask : Nat) (d : Bytes) (a k : Nat) :
    cacheLine (copyTakes (touchSa s sa) e l mask d) a k = cacheLine s a k :=
  cacheLine_congr (congrArg CohSt.caches (touchSa_coh_q s sa).1) a k

theorem heldAt_copyTakes_touchSa (s : State) (sa : Nat) (e : Eng) (l mask : Nat) (d : Bytes) (p : HoldAt) (k : Nat) :
    heldAt (copyTakes (touchSa s sa) e l mask d) p k = heldAt s p k := by
  exact congrArg (List.find? fun h => decide (h.place = p) && decide (h.line = k)) (congrArg QueueSt.stores (touchSa_coh_q s sa).2)

/-- A line that the cluster has reads as its bytes, and as poison on a FAILED device (R47). -/
theorem readable_of_hit {s : State} {e : Eng} {a l : Nat} {x : CLine} (ha : cacheAgent e = some a) (hcopy : copyOf s e l = none)
    (hx : cacheLine s a l = some x) (hhits : loadHits x.st = true) (hpoison : clinePoison x = false) :
    readable s e l = some (x.data, decide (devState s = 3)) := by
  delta readable
  refine hcopy.symm ▸ ?_
  refine ha.symm ▸ ?_
  dsimp only
  refine hx.symm ▸ ?_
  exact (if_pos hhits).trans (hpoison.symm ▸ rfl)

/-- What a load within a line that can be read leaves, of its bytes and whether they are poisoned. -/
def lineLoaded (s : State) (e : Eng) (sa n : Nat) (u : State) (r : Bytes × Bool) : State :=
  if [r].any (·.2) then setLoaded u e sa .poison []
  else setLoaded u e sa .ok (((seenLine s e (sa / 128) r.1 ++ []).drop (sa % 128)).take (n + 1))

section
variable {s : State} {e : Eng} {a sa n : Nat} (ha : cacheAgent e = some a) (hfits : sa % 128 + n < 128)
  (hstore : inStore s sa (n + 1) = true) (hcopy : copyOf s e (sa / 128) = none)
include ha hfits hstore hcopy

theorem doLoad_hits {x : CLine} (hx : cacheLine s a (sa / 128) = some x) (hhits : loadHits x.st = true) (hpoison : clinePoison x = false)
    (c : Nat) :
    doLoad s e c sa (n + 1) false = if devState s = 3 then setLoaded (touchSa s sa) e sa .poison []
      else setLoaded (touchSa s sa) e sa .ok (((seenLine s e (sa / 128) x.data).drop (sa % 128)).take (n + 1)) := by
  refine (if_of_false (firmwareReach_of_cached ha ..)).trans ((if_not_of_true hstore).trans ?_)
  refine (linesOf_within_line hfits).symm ▸ ?_
  have hreadable := readable_of_hit ha hcopy hx hhits hpoison
  have huncached : touchSa (if (cacheAgent e).isNone then (homeRead s (engAgent e) c sa (n + 1)).2 else s) sa = touchSa s sa :=
    congrArg (touchSa · sa) (if_of_false (congrArg Option.isNone ha))
  refine (if_pos (congrArg (fun o : Option (Bytes × Bool) => o.isSome && true) hreadable)).trans ?_
  change lineLoaded s e sa n (touchSa (if (cacheAgent e).isNone then (homeRead s (engAgent e) c sa (n + 1)).2 else s) sa)
    ((readable s e (sa / 128)).getD ([], true)) = _
  exact (congrArg₂ (lineLoaded s e sa n) huncached (congrArg (Option.getD · ([], true)) hreadable)).trans
    (ite_congr (propext ((Bool.coe_iff_coe.2 (Bool.or_false _)).trans decide_eq_true_iff)) (fun _ => rfl)
      fun _ => congrArg (fun b : Bytes => setLoaded (touchSa s sa) e sa .ok ((b.drop (sa % 128)).take (n + 1))) (List.append_nil _))

theorem doLoad_misses (hnone : cacheLine s a (sa / 128) = none) (c : Nat) (keep : Bool) :
    doLoad s e c sa (n + 1) keep = askLine s a c (sa / 128) .rdS ⟨.is, false, [], false, 0, false, c, none⟩ := by
  have hunreadable : readable s e (sa / 128) = none := by
    delta readable
    refine hcopy.symm ▸ ?_
    refine ha.symm ▸ ?_
    dsimp only
    exact hnone.symm ▸ rfl
  refine (if_of_false (firmwareReach_of_cached ha ..)).trans ((if_not_of_true hstore).trans ?_)
  refine (linesOf_within_line hfits).symm ▸ ?_
  refine (if_of_false (congrArg (fun o : Option (Bytes × Bool) => o.isSome && true) hunreadable)).trans
    ((if_of_false (congrArg Option.isSome hunreadable)).trans ?_)
  delta missLoad
  exact ha.symm ▸ if_of_false (congrArg Option.isSome hnone)

end

section
variable {s : State} {e : Eng} {a : Nat} {sa : Sa} {d : Bytes} (hon : s.power.on = true) (ha : cacheAgent e = some a) (hsome : d ≠ [])
  (hcut : cutOver s = false)
include hon ha hsome hcut

theorem exec_store_outside (hshort : d.length ≤ 128) (hout : inStore s sa.toNat d.length = false) (c : Ctx) (h : Bool) :
    exec (.store e c sa d h) s = .next (setLoaded s e sa.toNat .range []) := by
  exact effectOn_of_eq (u := setLoaded s e sa.toNat .range []) hon
    ((if_neg (not_or_intro hsome (not_or_intro (Nat.not_lt.2 hshort) (ne_true_of_eq_false hcut)))).trans
      ((if_of_false (firmwareReach_of_cached ha ..)).trans (if_not_of_false hout)))

/-- A store within a line that is held nowhere goes by the state of the line in its cluster. -/
theorem exec_store_within_line (hfits : sa.toNat % 128 + d.length ≤ 128) (hstore : inStore s sa.toNat d.length = true) (c : Ctx) :
    exec (.store e c sa d false) s =
      .next (keepQueue s (storeLine (touchSa s sa.toNat) e c.toNat (sa.toNat / 128) (sa.toNat % 128)
        ((2 ^ d.length - 1) * 2 ^ (sa.toNat % 128)) d false)) := by
  have hshort : d.length ≤ 128 := Nat.le_trans (Nat.le_add_left ..) hfits
  refine effectOn_of_eq hon ((if_neg (not_or_intro hsome (not_or_intro (Nat.not_lt.2 hshort) (ne_true_of_eq_false hcut)))).trans
    ((if_of_false (firmwareReach_of_cached ha ..)).trans ((if_not_of_true hstore).trans ?_)))
  refine (linesOf_bytes hsome hfits).symm ▸ ?_
  dsimp only [List.foldl_cons, List.foldl_nil]
  rw [storePart_within_line hfits]

end

section
variable (u : State) (e : Eng) (a c l off mask : Nat) (d : Bytes)

/-- What a store of a cluster's engine does with a line that is in its cache. -/
def storedIn (x : CLine) : State :=
  match x.st with
  | .m => setCacheLine u a l (storeInto x off d)
  | .e => setCacheLine u a l (storeInto { x with st := .m } off d)
  | .s => askLine u a c l .upg { x with st := .sm, ctx := c, pend := some (off, d, c) }
  | .o => askLine u a c l .upg { x with st := .om, ctx := c, pend := some (off, d, c) }
  | _ => storeHeld u (.engine e) c l mask (padTo 128 (List.replicate off 0#8 ++ d))

theorem storedIn_m {x : CLine} (h : x.st = .m) : storedIn u e a c l off mask d x = setCacheLine u a l (storeInto x off d) := by
  delta storedIn
  exact h.symm ▸ rfl

theorem storedIn_e {x : CLine} (h : x.st = .e) :
    storedIn u e a c l off mask d x = setCacheLine u a l (storeInto { x with st := .m } off d) := by
  delta storedIn
  exact h.symm ▸ rfl

theorem storedIn_s {x : CLine} (h : x.st = .s) : storedIn u e a c l off mask d x =
    askLine u a c l .upg { x with st := .sm, ctx := c, pend := some (off, d, c) } := by
  delta storedIn
  exact h.symm ▸ rfl

theorem storedIn_o {x : CLine} (h : x.st = .o) : storedIn u e a c l off mask d x =
    askLine u a c l .upg { x with st := .om, ctx := c, pend := some (off, d, c) } := by
  delta storedIn
  exact h.symm ▸ rfl

end

theorem storeLine_of_cached {s : State} {e : Eng} {a l : Nat} (ha : cacheAgent e = some a)
    (hheld : ∀ p ∈ holdPath e, heldAt s p l = none) (c sa off mask : Nat) (d : Bytes) {o : Option CLine} (ho : cacheLine s a l = o) :
    let u := copyTakes (touchSa s sa) e l mask (padTo 128 (List.replicate off 0#8 ++ d))
    storeLine (touchSa s sa) e c l off mask d false =
      o.elim (askLine u a c l .rdM ⟨.im, false, [], false, 0, false, c, some (off, d, c)⟩) (storedIn u e a c l off mask d) := by
  have hline := (cacheLine_copyTakes_touchSa s sa e l mask (padTo 128 (List.replicate off 0#8 ++ d)) a l).trans ho
  have hfree : (holdPath e).any (fun p =>
      (heldAt (copyTakes (touchSa s sa) e l mask (padTo 128 (List.replicate off 0#8 ++ d))) p l).isSome) = false :=
    List.any_eq_false.2 fun p hp =>
      ne_true_of_eq_false (congrArg Option.isSome ((heldAt_copyTakes_touchSa ..).trans (hheld p hp)))
  refine (if_of_false (or_of_false rfl hfree)).trans ?_
  refine ha.symm ▸ ?_
  dsimp only
  refine hline.symm ▸ ?_
  induction o <;> rfl

/-- A store that is held nowhere goes by the line in its cluster. -/
theorem exec_store_cached {s : State} {e : Eng} {a : Nat} {sa : Sa} {d : Bytes} (hon : s.power.on = true) (ha : cacheAgent e = some a)
    (hsome : d ≠ []) (hfits : sa.toNat % 128 + d.length ≤ 128) (hstore : inStore s sa.toNat d.length = true) (hcut : cutOver s = false)
    (hheld : ∀ p ∈ holdPath e, heldAt s p (sa.toNat / 128) = none) {c : Ctx} {o : Option CLine} (ho : cacheLine s a (sa.toNat / 128) = o) :
    let l := sa.toNat / 128
    let off := sa.toNat % 128
    let u := copyTakes (touchSa s sa.toNat) e l ((2 ^ d.length - 1) * 2 ^ off) (padTo 128 (List.replicate off 0#8 ++ d))
    exec (.store e c sa d false) s = .next (keepQueue s (o.elim
      (askLine u a c.toNat l .rdM ⟨.im, false, [], false, 0, false, c.toNat, some (off, d, c.toNat)⟩)
      (storedIn u e a c.toNat l off ((2 ^ d.length - 1) * 2 ^ off) d))) :=
  (exec_store_within_line hon ha hsome hcut hfits hstore c).trans
    (next_keepQueue_congr (storeLine_of_cached ha hheld c.toNat sa.toNat _ _ d ho))

/-- Settles O45: an access within a line is one of that line, and the state of the line in the cluster picks the branch. -/
theorem enginesLoadAndStore : Obligations.EnginesLoadAndStore := by
  intro s e c sa a hon ha l off
  refine ⟨fun n k hout => ?outside, fun n x hfits hstore hcopy hx hhits hpoison => ?hit, fun n k hfits hstore hcopy hnone => ?miss,
    fun d hsome hshort hout hcut h => exec_store_outside hon ha hsome hcut hshort hout c h, fun d hsome hfits hstore hcut hheld => ?store⟩
  case outside =>
    exact effectOn_of_eq (u := setLoaded s e sa.toNat .range []) hon
      ((if_of_false (firmwareReach_of_cached ha ..)).trans (if_not_of_false hout))
  case hit =>
    exact ⟨fun hwell => effectOn_of_eq hon ((doLoad_hits ha hfits hstore hcopy hx hhits hpoison c.toNat).trans (if_neg hwell)),
      fun hfailed => effectOn_of_eq hon ((doLoad_hits ha hfits hstore hcopy hx hhits hpoison c.toNat).trans (if_pos hfailed))⟩
  case miss => exact effectOn_of_eq hon (doLoad_misses ha hfits hstore hcopy hnone c.toNat k)
  case store =>
    intro u
    exact ⟨fun x hx => ⟨fun hst => (exec_store_cached hon ha hsome hfits hstore hcut hheld hx).trans (next_keepQueue_congr (storedIn_m _ _ _ _ _ _ _ _ hst)),
      fun hst => (exec_store_cached hon ha hsome hfits hstore hcut hheld hx).trans (next_keepQueue_congr (storedIn_e _ _ _ _ _ _ _ _ hst)),
      fun hst => (exec_store_cached hon ha hsome hfits hstore hcut hheld hx).trans (next_keepQueue_congr (storedIn_s _ _ _ _ _ _ _ _ hst)),
      fun hst => (exec_store_cached hon ha hsome hfits hstore hcut hheld hx).trans (next_keepQueue_congr (storedIn_o _ _ _ _ _ _ _ _ hst))⟩,
      exec_store_cached hon ha hsome hfits hstore hcut hheld⟩

/-! ## O46 -/

/-- An agent paces a context's requests to a line. -/
def paces (a c l : Nat) (p : Pacing) : Bool := decide (p.agent = a) && decide (p.ctx = c) && decide (p.line = l)

/-- The pairs that an agent paces, after HOT has given one an interval. -/
def afterHot (s : State) (a c l n : Nat) : List Pacing :=
  if s.coh.pacing.any (paces a c l) then mapWhere (paces a c l) (fun p => { p with interval := n }) s.coh.pacing
  else
    let mine := s.coh.pacing.filter (fun p => decide (p.agent = a))
    (if 16 ≤ mine.length then (match mine with | p :: _ => s.coh.pacing.erase p | [] => s.coh.pacing) else s.coh.pacing) ++
      [⟨a, c, l, n, s.now⟩]

/-- The state with the pairs that agents pace. -/
def withPacing (s : State) (l : List Pacing) : State := { s with coh.pacing := l }

theorem exec_hot {s : State} (hon : s.power.on = true) {a : Fin 374} {c : Ctx} {l : Line} {n : Nat} {m : NetMsg}
    (hfind : s.coh.net.find? (fun m => decide (m.kind = .hot) && decide (m.agent = a.val) && decide (m.line = l.toNat) &&
      decide (m.ctx = c.toNat) && decide (m.ticket = some n)) = some m) (hmay : mayArrive s m = true) :
    exec (.hot a c l n) s = .next (keepQueue s (withPacing (netDrop s m) (afterHot s a.val c.toNat l.toNat n))) := by
  refine effectOn_of_eq hon ?_
  dsimp only
  refine hfind.symm ▸ (if_not_of_true hmay).trans ?_
  exact (apply_ite (withPacing (netDrop s m)) ..).symm

theorem exists_paced_afterHot (s : State) (a c l n : Nat) :
    ∃ p ∈ afterHot s a c l n, p.agent = a ∧ p.ctx = c ∧ p.line = l ∧ p.interval = n := by
  have hpair {p : Pacing} (h : paces a c l p = true) : p.agent = a ∧ p.ctx = c ∧ p.line = l :=
    have hparts := Bool.and_eq_true_iff.1 h
    have hagent := Bool.and_eq_true_iff.1 hparts.1
    ⟨of_decide_eq_true hagent.1, of_decide_eq_true hagent.2, of_decide_eq_true hparts.2⟩
  exact iteInduction (motive := fun t : List Pacing => ∃ p ∈ t, p.agent = a ∧ p.ctx = c ∧ p.line = l ∧ p.interval = n)
    (fun hany => (List.any_eq_true.1 hany).elim fun p hp => ⟨{ p with interval := n }, List.mem_map.2 ⟨p, hp.1, if_pos hp.2⟩,
      (hpair hp.2).1, (hpair hp.2).2.1, (hpair hp.2).2.2, rfl⟩)
    fun _ => ⟨⟨a, c, l, n, s.now⟩, List.mem_append_right _ List.mem_cons_self, rfl, rfl, rfl, rfl⟩

/-- Settles O46: each command's last step leaves what the statement names. -/
theorem hotLinesAndTimeouts : Obligations.HotLinesAndTimeouts := by
  intro s l hon
  refine ⟨fun a c n m hfind hmay => ?hot, fun i b => ⟨_, effectOn_on hon, fun x hx => ?window⟩, ⟨_, effectOn_on hon, fun x hx => ?buffer, rfl, rfl⟩,
    fun p hsnoop => ?timeout⟩
  case hot => exact ⟨_, exec_hot hon hfind hmay, rfl, exists_paced_afterHot .., rfl, rfl⟩
  case window =>
    exact fun h => absurd (and_of_true (decide_eq_true h.1) (decide_eq_true h.2))
      (ne_true_of_eq_false (Bool.not_inj (List.mem_filter.1 hx).2))
  case buffer => exact bne_iff_ne.1 (List.mem_filter.1 hx).2
  case timeout => exact effectOn_of_eq hon (if_pos (List.any_eq_true.2 (hsnoop.imp fun _ hq => hq.imp_right decide_eq_true)))

end Sys2Proof.Laws
end

section
/-! PROOFS. Cartridges: O49, O50 and O51. -/

namespace Sys2Proof.Laws

open Sys2Proof Sys2Proof.Machine

/-! ## Slots -/

/-- The entries of one subindex differ by their index alone. -/
theorem odKey_eq_odKey_iff (a b n : Nat) : odKey a n = odKey b n ↔ a = b :=
  Nat.add_right_cancel_iff.trans (Nat.mul_left_inj (by decide))

theorem odGet_odSet_same (s : State) (k v : Nat) : odGet (odSet s k v) k = v := (odGet_odSet ..).trans (if_pos rfl)

theorem odGet_odSet_other (s : State) {a b : Nat} (n v : Nat) (h : a ≠ b) :
    odGet (odSet s (odKey b n) v) (odKey a n) = odGet s (odKey a n) :=
  (odGet_odSet ..).trans (if_neg (mt (odKey_eq_odKey_iff ..).1 h))

theorem contains_of_not_mem {l : List Nat} {x : Nat} (h : x ∉ l) : l.contains x = false :=
  (List.contains_eq_mem ..).trans (decide_eq_false h)

@[simp] theorem odGet_setCart (s : State) (n : Nat) (x : Slot) (k : Nat) : odGet (setCart s n x) k = odGet s k := rfl

@[simp] theorem odGet_emit (s : State) (m : Msg) (k : Nat) : odGet (emit s m) k = odGet s k := rfl

@[simp] theorem odGet_blobSet (s : State) (key : Nat) (b : Bytes) (k : Nat) : odGet (blobSet s key b) k = odGet s k := rfl

@[simp] theorem odGet_keepQueue (s t : State) (k : Nat) : odGet (keepQueue s t) k = odGet t k := rfl

@[simp] theorem cartSlot_setCart_same (s : State) (n : Nat) (x : Slot) : cartSlot (setCart s n x) n = x :=
  congrArg (·.getD emptySlot) ((tblFind_tblSet ..).trans (if_pos rfl))

@[simp] theorem cartSlot_keepQueue (s t : State) (n : Nat) : cartSlot (keepQueue s t) n = cartSlot t n := rfl

@[simp] theorem cartSlot_odSet (s : State) (k v n : Nat) : cartSlot (odSet s k v) n = cartSlot s n := rfl

@[simp] theorem cartSlot_blobSet (s : State) (k : Nat) (b : Bytes) (n : Nat) : cartSlot (blobSet s k b) n = cartSlot s n := rfl

@[simp] theorem cartSlot_emit (s : State) (m : Msg) (n : Nat) : cartSlot (emit s m) n = cartSlot s n := rfl

@[simp] theorem slotState_setSlotState_same (s : State) (n code : Nat) : slotState (setSlotState s n code) n = code :=
  odGet_odSet_same ..

/-! ## O49 -/

/-- A slot takes a cartridge in once stage 1 of bring-up has closed (R396). -/
theorem exec_cartInserted_up {s : State} {slot : Fin 32} (hempty : slotState s slot.val = 0) (hon : s.power.on = true) {k : Nat}
    (hnext : s.boot.next = some k) (hk : 2 ≤ k) (f : Bool) :
    exec (.cartInserted slot f) s = .next (keepQueue s (
      if f then setCart (beginIdentity s slot.val) slot.val
        { cartSlot (beginIdentity s slot.val) slot.val with inserted := groupsUp s }
      else setSlotState (setCart s slot.val { emptySlot with present := true, powered := true }) slot.val 10)) := by
  have hpast : (match s.boot.next with | some k => decide (2 ≤ k) | none => false) = true := hnext.symm ▸ decide_eq_true hk
  exact next_keepQueue_congr (if_pos ⟨hempty, and_of_true hon hpast⟩)

/-- Without its media scribe core nothing of a slot's identity moves (R521, R545). -/
theorem identity_waits {s : State} {slot : Fin 32} (hon : s.power.on = true) (hdown : mediaUp s slot.val = false) :
    (∀ cert, exec (.identify slot cert) s = .next s) ∧ (∀ w sig, exec (.cartChallenge slot w sig) s = .next s) ∧
      ∀ r, exec (.cartMread slot r) s = .next s := by
  refine ⟨fun cert => effectOn_of_eq (u := s) hon (if_pos (.inr (.inr (congrArg not hdown)))), fun w sig => effectOn_of_eq (u := s) hon ?_,
    fun r => effectOn_of_eq (u := s) hon (if_pos (.inr (.inr (congrArg not hdown))))⟩
  dsimp only
  generalize (cartSlot s slot.val).nonce = o
  induction o with
  | none => rfl
  | some b => exact if_pos (.inr (congrArg not hdown))

/-- A certificate that the first check of IDENTIFY takes (R407). -/
def certSound (cert : CertInfo) : Prop := cert.sigsOk = true ∧ cert.rootHash = Config.cartRoot ∧ cert.extOk = true

theorem refused_of_sound {cert : CertInfo} (h : certSound cert) :
    (!cert.sigsOk || decide (cert.rootHash ≠ Config.cartRoot) || !cert.extOk) = false :=
  or_of_false (or_of_false (congrArg not h.1) (decide_eq_false (not_not_intro h.2.1))) (congrArg not h.2.2)

theorem refused_of_unsound {cert : CertInfo} (h : ¬certSound cert) :
    (!cert.sigsOk || decide (cert.rootHash ≠ Config.cartRoot) || !cert.extOk) = true :=
  Bool.of_not_eq_false fun hnone =>
    have hparts := Bool.or_eq_false_iff.1 hnone
    have hroot := Bool.or_eq_false_iff.1 hparts.1
    h ⟨Bool.not_inj hroot.1, Decidable.not_not.1 (of_decide_eq_false hroot.2), Bool.not_inj hparts.2⟩

/-- A slot whose certificate has been taken: what it says is kept, and a nonce goes to the cartridge (R407). -/
def challenged (s : State) (n : Nat) (cert : CertInfo) : State :=
  emit (blobSet (setCart (freshNonce s).2 n { cartSlot (freshNonce s).2 n with
    certHash := cert.certHash.toNat, modulus := cert.modulus.toNat, rated := cert.endurance, serial := cert.serial,
    nonce := some (freshNonce s).1 }) (odKey 0x8004 n) (cert.serial.take 32)) (.cart n .challenge 0 (freshNonce s).1)

/-- The outcome of the signature over the nonce, and of the life that is left (R407, R422). -/
def judged (s : State) (n : Nat) (b : Bytes) (w : Nat) (sig : Bytes) : State :=
  if !rsaOk (cartSlot s n).modulus (b ++ natBe 32 (cartSlot s n).certHash ++ natLe 8 w) sig then refuseCart s n 4
  else
    let u := setWear (setCart s n { cartSlot s n with nonce := none }) n w
    if odGet u (odKey 0x8100 n) = 0 ∧ (cartSlot s n).inserted then odSet (setSlotState u n 11) (odKey 0x8005 n) 5
    else emit (odSet u (odKey 0x8005 n) 1) (.cart n .mread 0 [])

theorem odGet_setWear_life (s : State) (n w : Nat) :
    odGet (setWear s n w) (odKey 0x8100 n) = lifeOf (cartSlot s n).rated w := odGet_odSet_same ..

theorem odGet_setWear_bytes (s : State) (n w : Nat) : odGet (setWear s n w) (odKey 0x8101 n) = w :=
  (odGet_odSet_other _ _ _ (by decide)).trans (odGet_odSet_same ..)

theorem slotState_setWear (s : State) (n w : Nat) : slotState (setWear s n w) n = slotState s n :=
  (odGet_odSet_other _ _ _ (by decide)).trans (odGet_odSet_other _ _ _ (by decide))

theorem odGet_judged_life (s : State) (n w : Nat) (x : Slot) :
    odGet (setWear (setCart s n x) n w) (odKey 0x8100 n) = lifeOf x.rated w :=
  (odGet_setWear_life ..).trans (congrArg (fun y : Slot => lifeOf y.rated w) (cartSlot_setCart_same ..))

section
variable {s : State} {slot : Fin 32} (hon : s.power.on = true) (hup : mediaUp s slot.val = true) (hstate : slotState s slot.val = 1)
include hon hup hstate

/-- The checks of IDENTIFY in their order (R407). -/
theorem exec_identify (hnonce : (cartSlot s slot.val).nonce = none) (cert : CertInfo) :
    exec (.identify slot cert) s = .next (keepQueue s (
      if !cert.sigsOk || decide (cert.rootHash ≠ Config.cartRoot) || !cert.extOk then refuseCart s slot.val 2
      else if (revokedCerts s).contains cert.certHash.toNat then refuseCart s slot.val 3
      else challenged s slot.val cert)) :=
  effectOn_of_eq hon (if_neg (not_or_intro (not_not_intro hstate)
    (not_or_intro (ne_true_of_eq_false (congrArg Option.isSome hnonce)) (not_not_of_true hup))))

theorem exec_cartChallenge {b : Bytes} (hnonce : (cartSlot s slot.val).nonce = some b) (w : BitVec 64) (sig : Bytes) :
    exec (.cartChallenge slot w sig) s = .next (keepQueue s (judged s slot.val b w.toNat sig)) := by
  refine effectOn_of_eq hon ?_
  dsimp only
  refine hnonce.symm ▸ ?_
  exact if_neg (not_or_intro (not_not_intro hstate) (not_not_of_true hup))

section
variable (hstep : odGet s (odKey 0x8005 slot.val) = 1)
include hstep

theorem exec_cartMread_blank : exec (.cartMread slot none) s =
    .next (keepQueue s (takeBlank (setCart s slot.val { cartSlot s slot.val with record := none }) slot.val)) :=
  effectOn_of_eq hon (if_neg (not_or_intro (not_not_intro hstate) (not_or_intro (not_not_intro hstep) (not_not_of_true hup))))

variable {r : Membership}

theorem exec_cartMread_foreign (hserial : r.serial ≠ Config.serial) : exec (.cartMread slot (some r)) s =
    .next (keepQueue s (setSlotState (setCart s slot.val { cartSlot s slot.val with record := some r }) slot.val 3)) :=
  effectOn_of_eq hon ((if_neg (not_or_intro (not_not_intro hstate) (not_or_intro (not_not_intro hstep) (not_not_of_true hup)))).trans
    (if_pos hserial))

/-- A record of this device gives the slot its role, or, where it is out of date, the cartridge is blank (R409). -/
theorem exec_cartMread_own (hserial : r.serial = Config.serial) {o : Option Nat}
    (ho : expected (setCart s slot.val { cartSlot s slot.val with record := some r }) slot.val r = o) :
    exec (.cartMread slot (some r)) s = .next (keepQueue s (
      let u := setCart s slot.val { cartSlot s slot.val with record := some r }
      o.elim (takeBlank u slot.val) fun code =>
        if code = 5 then spareAppears (settleGroups (setSlotState u slot.val code)) else settleGroups (setSlotState u slot.val code))) := by
  subst ho
  refine effectOn_of_eq hon ((if_neg (not_or_intro (not_not_intro hstate)
    (not_or_intro (not_not_intro hstep) (not_not_of_true hup)))).trans ((if_neg (not_not_intro hserial)).trans ?_))
  generalize setCart s slot.val { cartSlot s slot.val with record := some r } = u
  induction expected u slot.val r <;> rfl

end

end

/-- Settles O49: insertion, then the checks of the identity in the order of R407, then the role that the record gives. -/
theorem cartridgesAreTaken : Obligations.CartridgesAreTaken := by
  intro s slot n
  refine ⟨fun hempty => ⟨fun hoff f => ?off, fun k hon hnext hk => ⟨?four, ?fewer⟩⟩, fun hon hdown => identity_waits hon hdown, fun hon => ⟨?identify,
    ?challenge, fun hup hstate hstep => ⟨?blank, ?member⟩,
    fun r hwriting => ?written⟩⟩
  case off =>
    exact next_keepQueue_congr ((if_neg fun h => absurd (Bool.and_eq_true_iff.1 h.2).1 (ne_true_of_eq_false hoff)).trans (if_pos hempty))
  case four => exact exec_cartInserted_up hempty hon hnext hk true
  case fewer => exact ⟨_, exec_cartInserted_up hempty hon hnext hk false, slotState_setSlotState_same .., rfl, rfl⟩
  case identify =>
    intro cert hup hstate hnonce sound
    exact ⟨fun hbad => (exec_identify hon hup hstate hnonce cert).trans (next_keepQueue_congr (if_pos (refused_of_unsound hbad))),
      fun hsound hrevoked => (exec_identify hon hup hstate hnonce cert).trans (next_keepQueue_congr
        ((if_of_false (refused_of_sound hsound)).trans (if_pos (List.contains_iff_mem.2 hrevoked)))),
      fun hsound hkept => ⟨_, _, (exec_identify hon hup hstate hnonce cert).trans (next_keepQueue_congr
          ((if_of_false (refused_of_sound hsound)).trans (if_of_false (contains_of_not_mem hkept)))),
        rfl, congrArg Slot.nonce (cartSlot_setCart_same ..), congrArg Slot.certHash (cartSlot_setCart_same ..),
        congrArg Slot.modulus (cartSlot_setCart_same ..), hstate, rfl⟩⟩
  case challenge =>
    intro b w sig hup hnonce hstate ok life
    exact ⟨fun hbad => (exec_cartChallenge hon hup hstate hnonce w sig).trans (next_keepQueue_congr (if_not_of_false hbad)),
      fun hok hworn hnew => ⟨_, (exec_cartChallenge hon hup hstate hnonce w sig).trans (next_keepQueue_congr ((if_not_of_true hok).trans
          (if_pos ⟨(odGet_judged_life ..).trans hworn, hnew⟩))),
        (odGet_odSet_other _ _ _ (by decide)).trans (slotState_setSlotState_same ..), odGet_odSet_same .., rfl⟩,
      fun hok hgood => ⟨_, (exec_cartChallenge hon hup hstate hnonce w sig).trans (next_keepQueue_congr ((if_not_of_true hok).trans
          (if_neg fun h => hgood.elim (fun hlife => hlife ((odGet_judged_life s n w.toNat { cartSlot s n with nonce := none }).symm.trans h.1)) fun hold => absurd h.2 (ne_true_of_eq_false hold)))),
        (odGet_odSet_other _ _ _ (by decide)).trans ((slotState_setWear ..).trans hstate), odGet_odSet_same ..,
        (odGet_odSet_other _ _ _ (by decide)).trans (odGet_judged_life ..), rfl⟩⟩
  case blank => exact exec_cartMread_blank hon hup hstate hstep
  case member =>
    intro r u
    exact ⟨exec_cartMread_foreign hon hup hstate hstep, fun hserial => ⟨fun code hcode => exec_cartMread_own hon hup hstate hstep hserial hcode,
      exec_cartMread_own hon hup hstate hstep hserial⟩⟩
  case written =>
    refine effectOn_of_eq (u := setCart s slot.val { cartSlot s slot.val with record := r, writing := none }) hon ?_
    exact hwriting.symm ▸ rfl

/-! ## O50 -/

/-- The units of a row that cannot be read (R402). -/
def unitsGone (s : State) (f : Nat) (errs : List (Fin 10)) : List Nat :=
  (List.range 10).filter fun p => (missingAt s (grpOf f) (rowOf2 f)).contains p || (errs.map (·.val)).contains p

theorem exec_reads_of_idle {s : State} (hon : s.power.on = true) {l : Line} (errs : List (Fin 10))
    (hstore : inT2 (l.toNat * 128) 128 = true) (howned : frameOwner s (l.toNat / 32) ≠ none) (hcached : lineCached s l.toNat = false)
    (hidle : tblFind s.cart.rows (rowKey (l.toNat / 32)) = none) (hup : groupsUp s = true) :
    exec (.reads l errs) s = .next (keepQueue s (
      if !(unitsGone s (l.toNat / 32) errs).contains (posOf (rowOf2 (l.toNat / 32)) (l.toNat / 32 % 8)) then cacheFill s l.toNat
      else if (unitsGone s (l.toNat / 32) errs).length ≤ 2 then cacheFill (odBump s (odKey 0x8201 1) 1) l.toNat
      else poisonLine s l.toNat)) :=
  effectOn_of_eq hon (if_of_false (or_of_false (or_of_false (or_of_false (or_of_false (congrArg not hstore)
    (Bool.eq_false_iff.2 (mt Option.isNone_iff_eq_none.1 howned))) hcached) (congrArg Option.isSome hidle)) (congrArg not hup)))

section
variable {s : State} (hon : s.power.on = true) {slot : Fin 32} {row : BitVec 30} {g p : Nat}
include hon

/-- A unit that is good leaves the device as it is (R405). -/
theorem exec_readu_good (hserved : servedPos s slot.val = some (g, p)) {b : Bytes} {mt : BitVec 128}
    (hgood : crc32c b = field mt.toNat 0 32 ∧ field mt.toNat 34 30 = row.toNat) : exec (.readu slot row b mt) s = .next s := by
  refine effectOn_of_eq (u := s) hon ?_
  refine hserved.symm ▸ if_pos ?_
  exact Bool.or_eq_true_iff.2 (.inl (Bool.or_eq_true_iff.2 (.inl (Bool.or_eq_true_iff.2 (.inl
    (and_of_true (decide_eq_true hgood.1) (decide_eq_true hgood.2)))))))

/-- A bad unit of a row that nothing writes is repaired where its row can be decoded (R405). -/
theorem exec_readu_bad (hserved : servedPos s slot.val = some (g, p)) (hreads : slotReads s slot.val row.toNat = true)
    (hidle : tblFind s.cart.rows (g * 2 ^ 30 + row.toNat) = none) (hcut : cutOver s = false) {b : Bytes} {mt : BitVec 128}
    (hbad : ¬(crc32c b = field mt.toNat 0 32 ∧ field mt.toNat 34 30 = row.toNat)) :
    exec (.readu slot row b mt) s = .next (keepQueue s (
      if (addOnce (missingAt s g row.toNat) p).length ≤ 2 then repairUnit s g row.toNat p else groupLost s g row.toNat)) := by
  have hcheck : (decide (crc32c b = field mt.toNat 0 32) && decide (field mt.toNat 34 30 = row.toNat)) = false :=
    Bool.eq_false_iff.2 fun h => hbad ((Bool.and_eq_true_iff.1 h).imp of_decide_eq_true of_decide_eq_true)
  refine effectOn_of_eq hon ?_
  exact hserved.symm ▸ if_of_false (or_of_false (or_of_false (or_of_false hcheck (congrArg not hreads)) (congrArg Option.isSome hidle)) hcut)

theorem exec_writeu_of_row {k : Nat} {w : RowWrite}
    (hrow : s.cart.rows.find? (fun e => decide (e.1 % 2 ^ 30 = row.toNat) && e.2.waitFor.contains slot.val) = some (k, w)) :
    let w' := { w with waitFor := w.waitFor.filter (· != slot.val) }
    exec (.writeu slot row) s = .next (keepQueue s (
      if w'.waitFor = [] then endRowWrite s k w' else { s with cart.rows := tblSet s.cart.rows k w' })) := by
  refine effectOn_of_eq hon ?_
  dsimp only [-Nat.reducePow]
  exact hrow.symm ▸ rfl

theorem exec_writeu_of_none
    (hrow : s.cart.rows.find? (fun e => decide (e.1 % 2 ^ 30 = row.toNat) && e.2.waitFor.contains slot.val) = none) :
    exec (.writeu slot row) s = .next (keepQueue s (if cutOver s || !mediaUp s slot.val then s else rowDone s slot.val row.toNat)) := by
  refine effectOn_of_eq hon ?_
  dsimp only [-Nat.reducePow]
  exact hrow.symm ▸ rfl

theorem exec_cartRebuilt_of_state (hpos : (cartSlot s slot.val).pos = some (g, p)) (hcut : cutOver s = false)
    (hup : mediaUp s slot.val = true) (hstate : slotState s slot.val = 7) :
    exec (.cartRebuilt slot) s = .next (keepQueue s (rebuildEnds s slot.val g p)) := by
  refine effectOn_of_eq hon ?_
  exact hpos.symm ▸ if_neg (not_or_intro (not_not_intro hstate) (not_or_intro (ne_true_of_eq_false hcut) (not_not_of_true hup)))

theorem exec_resilverDone_of_state {k : Nat} (hpos : (cartSlot s slot.val).pos = some (g, p))
    (hsource : (cartSlot s slot.val).source = some k) (hcut : cutOver s = false) (hup : mediaUp s slot.val = true)
    (hstate : slotState s slot.val = 8) (hstandin : slotState s k = 6 ∨ slotState s k = 9) :
    exec (.resilverDone slot) s = .next (keepQueue s (resilverEnds s slot.val g p k)) := by
  refine effectOn_of_eq hon ?_
  refine hpos.symm ▸ ?_
  refine hsource.symm ▸ if_neg ?_
  exact not_or_intro (not_not_intro hstate) (not_or_intro (fun h => hstandin.elim h.1 h.2)
    (not_or_intro (ne_true_of_eq_false hcut) (not_not_of_true hup)))

end

theorem rowDone_sends {s : State} {n row g p : Nat} (hpos : (cartSlot s n).pos = some (g, p))
    (hstate : slotState s n = 7 ∨ slotState s n = 8) (hrows : rowsDone s n = row) (hmore : row + 1 < 2 ^ 30) :
    rowDone s n row = sendUnit (odSet s (odKey 0x8103 n) (row + 1)) n (row + 1) p (unitAt s g (row + 1) p) := by
  delta rowDone
  exact hpos.symm ▸ if_pos ⟨hstate, hrows, hmore⟩

/-- The slots that a write of the journal waits for. -/
def withJwrites (s : State) (l : List Nat) : State := { s with tier.jwrites := l }

theorem exec_jwrite_of_mem {s : State} {slot : Fin 32} (hon : s.power.on = true) (hwrites : slot.val ∈ s.tier.jwrites) :
    exec (.jwrite slot) s = .next (keepQueue s (journalStep 2 (withJwrites s (s.tier.jwrites.filter (· != slot.val))))) :=
  effectOn_of_eq hon (if_pos (List.contains_iff_mem.2 hwrites))

/-- Settles O50: the guard of each command, and the branch that the count of lost units picks. -/
theorem cartridgeRowsMove : Obligations.CartridgeRowsMove := by
  intro s hon
  refine ⟨fun l errs => ?reads, fun slot row b mt g p hserved hreads hidle hcut => ?readu, fun slot row k w hrow => ?lastUnit,
    fun slot row hrow => ⟨?writeWaits, ?nextRow⟩, fun slot hwrites => ?jwrite, fun slot b hdown => ?wearWaits,
    fun slot b hcounts hup => ⟨?wear, ?bytes, ?life⟩, effectOn_on hon, fun g row bad d hwanted hup hcut hidle => ?scrub,
    fun slot g p hpos hcut hup => ⟨fun hstate => ?rebuilt, fun k hsource hstate hstandin => ?resilvered⟩⟩
  case reads =>
    intro f gone p hstore howned hcached hidle hup
    exact ⟨fun hown => (exec_reads_of_idle hon errs hstore howned hcached hidle hup).trans (next_keepQueue_congr (if_not_of_false (contains_of_not_mem hown))),
      fun hgone hfew => (exec_reads_of_idle hon errs hstore howned hcached hidle hup).trans (next_keepQueue_congr ((if_not_of_true (List.contains_iff_mem.2 hgone)).trans (if_pos hfew))),
      fun hgone hmany => (exec_reads_of_idle hon errs hstore howned hcached hidle hup).trans (next_keepQueue_congr (u := poisonLine s l.toNat)
        ((if_not_of_true (List.contains_iff_mem.2 hgone)).trans (if_neg (Nat.not_le.2 hmany))))⟩
  case readu =>
    intro good n
    exact ⟨fun hgood => exec_readu_good hon hserved hgood,
      fun hbad hfew => (exec_readu_bad hon hserved hreads hidle hcut hbad).trans (next_keepQueue_congr (if_pos hfew)),
      fun hbad hmany => (exec_readu_bad hon hserved hreads hidle hcut hbad).trans (next_keepQueue_congr (if_neg (Nat.not_le.2 hmany)))⟩
  case lastUnit =>
    intro w'
    exact ⟨fun hdone => (exec_writeu_of_row hon hrow).trans (next_keepQueue_congr (if_pos hdone)),
      fun hleft => (exec_writeu_of_row hon hrow).trans (next_keepQueue_congr (u := { s with cart.rows := tblSet s.cart.rows k w' }) (if_neg hleft))⟩
  case writeWaits =>
    exact fun hwaits => (exec_writeu_of_none hon hrow).trans (next_keepQueue_congr (u := s)
      (if_pos (Bool.or_eq_true_iff.2 (hwaits.imp_right (congrArg not)))))
  case nextRow =>
    exact fun g p hcut hup hpos hstate hrows hmore => (exec_writeu_of_none hon hrow).trans (next_keepQueue_congr
      ((if_of_false (or_of_false hcut (congrArg not hup))).trans (rowDone_sends hpos hstate hrows hmore)))
  case jwrite =>
    intro left
    exact ⟨fun hleft => (exec_jwrite_of_mem hon hwrites).trans (next_keepQueue_congr (u := withJwrites s left) (if_pos hleft)),
      fun hleft => (exec_jwrite_of_mem hon hwrites).trans (congrArg (fun l => Host.Outcome.next (keepQueue s (journalStep 2 (withJwrites s l)))) hleft)⟩
  case wearWaits => exact effectOn_of_eq (u := s) hon (if_of_false (Bool.and_eq_false_iff.2 (.inr hdown)))
  case wear => exact effectOn_of_eq hon (if_pos (and_of_true hcounts hup))
  case bytes => exact odGet_setWear_bytes ..
  case life => exact odGet_setWear_life ..
  case scrub =>
    exact effectOn_of_eq hon (if_neg (not_or_intro
      (fun h => hwanted.elim (fun hwhen => hwhen h.1) fun htwice => not_not_of_true htwice h.2)
      (not_or_intro (not_not_of_true hup) (not_or_intro (ne_true_of_eq_false hcut)
        (ne_true_of_eq_false (congrArg Option.isSome hidle))))))
  case rebuilt => exact exec_cartRebuilt_of_state hon hpos hcut hup hstate
  case resilvered => exact exec_resilverDone_of_state hon hpos hsource hcut hup hstate hstandin

end Sys2Proof.Laws
end

section
/-! PROOFS. Slot commands: O51. -/

namespace Sys2Proof.Laws

open Sys2Proof Sys2Proof.Machine

/-! ## The slot commands (R412, R413) -/

section
variable {s : State} {n : Nat}

theorem evacuate_of_target {gp : Nat × Nat} {k : Nat} (hserved : servedPos s n = some gp) (htarget : targetOf s n = some k) (goal : SlotGoal) :
    evacuate s n goal = slotResult (setCart s n { cartSlot s n with goal := goal }) n 1 := by
  delta evacuate
  refine hserved.symm ▸ ?_
  exact htarget.symm ▸ rfl

/-- Without a free spare, and in a group that is not HEALTHY, nothing is evacuated; else the evacuation begins. -/
theorem evacuate_of_none {g p : Nat} (hserved : servedPos s n = some (g, p)) (htarget : targetOf s n = none) (goal : SlotGoal)
    {o : Option Nat} (hspare : freeSpare s g = o) :
    evacuate s n goal = o.elim (slotResult s n 3) fun k => if groupState s g ≠ 0 then slotResult s n 4
      else slotResult (startEvac (if goal = .retire then setSlotState s n 9 else s) n k g p goal) n 1 := by
  subst hspare
  delta evacuate
  refine hserved.symm ▸ ?_
  refine htarget.symm ▸ ?_
  dsimp only
  induction freeSpare s g <;> rfl

theorem serving_ne {x : Nat} (h : x = 4 ∨ x = 6 ∨ x = 9) : x ≠ 0 ∧ x ≠ 12 := by
  rcases h with rfl | rfl | rfl <;> decide

theorem target_ne {x : Nat} (h : x = 7 ∨ x = 8) : x ≠ 0 ∧ x ≠ 12 ∧ ¬(x = 4 ∨ x = 6 ∨ x = 9) := by
  rcases h with rfl | rfl <;> decide

theorem idle_ne : ∀ x ∈ [1, 2, 3, 5, 10, 11], x ≠ 0 ∧ x ≠ 12 ∧ ¬(x = 4 ∨ x = 6 ∨ x = 9) ∧ ¬(x = 7 ∨ x = 8) := by decide

theorem prepareEject_out (h : slotState s n = 12) : prepareEject s n = slotResult s n 2 :=
  (if_neg (h ▸ by decide)).trans (if_pos h)

/-- A slot in service is evacuated before it is ejected. -/
theorem prepareEject_serving (h : slotState s n = 4 ∨ slotState s n = 6 ∨ slotState s n = 9) : prepareEject s n = evacuate s n .eject :=
  (if_neg (serving_ne h).1).trans ((if_neg (serving_ne h).2).trans (if_pos h))

theorem prepareEject_target (h : slotState s n = 7 ∨ slotState s n = 8) :
    prepareEject s n = slotResult (powerOffSlot (loseSlot s n 10) n) n 2 :=
  (if_neg (target_ne h).1).trans ((if_neg (target_ne h).2.1).trans ((if_neg (target_ne h).2.2).trans (if_pos h)))

/-- A slot that is no member of a group is powered off at once. -/
theorem prepareEject_idle (h : slotState s n ∈ [1, 2, 3, 5, 10, 11]) : prepareEject s n = slotResult (powerOffSlot s n) n 2 :=
  have hother := idle_ne _ h
  (if_neg hother.1).trans ((if_neg hother.2.1).trans ((if_neg hother.2.2.1).trans (if_neg hother.2.2.2)))

theorem retireSlot_serving (h : slotState s n = 4 ∨ slotState s n = 6) : retireSlot s n = evacuate s n .retire := if_pos h

theorem retireSlot_retiring (h : slotState s n = 9) : retireSlot s n = slotResult s n 1 :=
  (if_neg (h ▸ by decide)).trans (if_pos h)

theorem other_ne {x : Nat} (h : x ∉ [4, 6, 9]) : ¬(x = 4 ∨ x = 6) ∧ x ≠ 9 := by
  refine ⟨?_, ?_⟩
  · rintro (rfl | rfl) <;> exact h (by decide)
  · rintro rfl
    exact h (by decide)

theorem retireSlot_other (h : slotState s n ∉ [4, 6, 9]) : retireSlot s n = slotResult s n 5 :=
  (if_neg (other_ne h).1).trans (if_neg (other_ne h).2)

theorem cancelSlot_of_source {k : Nat} (h : slotState s n = 7) (hsource : (cartSlot s n).source = some k) :
    cancelSlot s n = slotResult (stopEvac s k n) n 2 :=
  (if_neg (h ▸ by decide)).trans ((if_pos ⟨h, congrArg Option.isSome hsource⟩).trans
    (congrArg (fun k => slotResult (stopEvac s k n) n 2) (congrArg (·.getD 0) hsource)))

theorem cancelSlot_of_target (hresilver : slotState s n ≠ 8) (hevac : ¬(slotState s n = 7 ∧ (cartSlot s n).source.isSome = true))
    {o : Option Nat} (htarget : targetOf s n = o) :
    cancelSlot s n = o.elim (slotResult s n 5) fun k => if slotState s k = 7 then slotResult (stopEvac s n k) n 2 else slotResult s n 5 := by
  subst htarget
  refine (if_neg hresilver).trans ((if_neg hevac).trans ?_)
  induction targetOf s n <;> rfl

theorem on_of_dictUp (h : dictUp s = true) : s.power.on = true :=
  (Bool.and_eq_true_iff.1 (Bool.and_eq_true_iff.1 (Bool.and_eq_true_iff.1 h).1).1).1

variable {slot : Fin 32} {t : State} (hdict : dictUp s = true)
include hdict

theorem exec_prepareEject_of_up (h : prepareEject s slot.val = t) : exec (.prepareEject slot) s = .next (keepQueue s t) :=
  effectOn_of_eq (on_of_dictUp hdict) ((if_pos hdict).trans h)

theorem exec_acceptForeign_of_up (h : acceptForeign s slot.val = t) : exec (.acceptForeign slot) s = .next (keepQueue s t) :=
  effectOn_of_eq (on_of_dictUp hdict) ((if_pos hdict).trans h)

theorem exec_retire_of_up (h : retireSlot s slot.val = t) : exec (.retire slot) s = .next (keepQueue s t) :=
  effectOn_of_eq (on_of_dictUp hdict) ((if_pos hdict).trans h)

theorem exec_cancel_of_up (h : cancelSlot s slot.val = t) : exec (.cancel slot) s = .next (keepQueue s t) :=
  effectOn_of_eq (on_of_dictUp hdict) ((if_pos hdict).trans h)

end

/-! ## O51 -/

/-- Settles O51: the state of the slot, then of its target and its group, pick the answer. -/
theorem slotsAreCommanded : Obligations.SlotsAreCommanded := by
  intro s slot n st
  refine ⟨fun hon => ⟨fun hserves => ?failed, fun hidle => ?gone⟩, fun hpresent => ?removed, fun hdict => ?commands⟩
  case failed => exact effectOn_of_eq hon ((if_pos hon).trans (if_neg fun h => hserves (List.contains_iff_mem.1 h)))
  case gone => exact effectOn_of_eq (u := s) hon ((if_pos hon).trans (if_pos (List.contains_iff_mem.2 hidle)))
  case removed =>
    exact ⟨_, next_keepQueue_congr (if_not_of_true hpresent), slotState_setSlotState_same .., cartSlot_setCart_same _ _ _⟩
  case commands =>
    intro answers
    exact ⟨fun hst => exec_prepareEject_of_up hdict (if_pos hst),
      fun hst => exec_prepareEject_of_up hdict (prepareEject_out hst),
      fun hst => exec_prepareEject_of_up hdict (prepareEject_idle hst), fun hst => exec_prepareEject_of_up hdict (prepareEject_target hst),
      fun g p hst hserved htarget =>
        ⟨fun hspare => exec_prepareEject_of_up hdict ((prepareEject_serving hst).trans (evacuate_of_none hserved htarget _ hspare)),
          fun k hspare hsick => exec_prepareEject_of_up hdict ((prepareEject_serving hst).trans
            ((evacuate_of_none hserved htarget _ hspare).trans (if_pos hsick))),
          fun k hspare hwell => exec_prepareEject_of_up hdict ((prepareEject_serving hst).trans
            ((evacuate_of_none hserved htarget _ hspare).trans (if_neg (not_not_intro hwell))))⟩,
      fun g p k hst hserved htarget =>
        ⟨exec_prepareEject_of_up hdict ((prepareEject_serving hst).trans (evacuate_of_target hserved htarget _)),
          fun hnine => exec_retire_of_up hdict
            ((retireSlot_serving (hst.imp_right (Or.resolve_right · hnine))).trans (evacuate_of_target hserved htarget _))⟩,
      fun hst => exec_acceptForeign_of_up hdict (if_pos hst), fun hst => exec_acceptForeign_of_up hdict (if_neg hst),
      fun g p hst hserved htarget =>
        ⟨fun hspare => exec_retire_of_up hdict ((retireSlot_serving hst).trans (evacuate_of_none hserved htarget _ hspare)),
          fun k hspare hsick => exec_retire_of_up hdict ((retireSlot_serving hst).trans
            ((evacuate_of_none hserved htarget _ hspare).trans (if_pos hsick))),
          fun k hspare hwell => exec_retire_of_up hdict ((retireSlot_serving hst).trans
            ((evacuate_of_none hserved htarget _ hspare).trans (if_neg (not_not_intro hwell))))⟩,
      fun hst => exec_retire_of_up hdict (retireSlot_retiring hst),
      fun hst => exec_retire_of_up hdict (retireSlot_other hst),
      fun hst => exec_cancel_of_up hdict (if_pos hst), fun k hst hsource => exec_cancel_of_up hdict (cancelSlot_of_source hst hsource),
      fun hresilver hevac =>
        ⟨fun htarget => exec_cancel_of_up hdict (cancelSlot_of_target hresilver hevac htarget),
          fun k htarget hk => exec_cancel_of_up hdict ((cancelSlot_of_target hresilver hevac htarget).trans (if_pos hk)),
          fun k htarget hk => exec_cancel_of_up hdict ((cancelSlot_of_target hresilver hevac htarget).trans (if_neg hk))⟩⟩

end Sys2Proof.Laws
end

section
/-! PROOFS. Links: O52. -/

namespace Sys2Proof.Laws

open Sys2Proof Sys2Proof.Machine

/-! ## Links -/

@[simp] theorem linkOf_setLink_same (s : State) (l : Nat) (x : LinkSt) : linkOf (setLink s l x) l = x :=
  congrArg (·.getD idleLink) ((tblFind_tblSet ..).trans (if_pos rfl))

/-- The entries of one port differ by their index alone. -/
theorem linkOd_eq_linkOd_iff (l j k : Nat) : linkOd l j = linkOd l k ↔ j = k := by
  by_cases hl : l < 16
  · rw [linkOd, linkOd, if_pos hl, if_pos hl]
    exact (odKey_eq_odKey_iff ..).trans Nat.add_left_cancel_iff
  · rw [linkOd, linkOd, if_neg hl, if_neg hl]
    exact (odKey_eq_odKey_iff ..).trans Nat.add_left_cancel_iff

/-- A link that takes a flit in order: the SEQ that is expected next, the credits that it returns, and its packet slots (R427). -/
def flitTaken (x : LinkSt) (b : Bytes) (inbox : Bytes) : LinkSt :=
  { x with
    rxSeq := (field (leAt b 0 8) 8 16 + 1) % 65536
    credits := if field (leAt b 0 8) 40 4 < 5 then
      listSet x.credits (field (leAt b 0 8) 40 4) (x.credits.getD (field (leAt b 0 8) 40 4) 0 + field (leAt b 0 8) 44 12) else x.credits
    inbox := inbox }

theorem waiting_flitTaken (s : State) (l : Nat) (x : LinkSt) (b inbox : Bytes) :
    (linkOf (setLink s l (flitTaken x b inbox)) l).waiting = x.waiting :=
  (congrArg LinkSt.waiting (linkOf_setLink_same s l (flitTaken x b inbox)) :)

/-- A lane that goes to a spare of its optical die (R430). -/
def laneSpared (s : State) (l lane : Nat) : State :=
  logEv (odBump { s with fab.sparesUsed := tblSet s.fab.sparesUsed (linkDie l) (tblGet 0 s.fab.sparesUsed (linkDie l) + 1) }
    (linkOd l (if l < 16 then 4 else 6)) 1) "PORT_SPARED" [portCode l, lane]

theorem linkState_laneSpared (s : State) (l lane : Nat) : linkState (laneSpared s l lane) l = linkState s l := by
  refine (odGet_odBump ..).trans (if_neg fun h => ?_)
  exact iteInduction (motive := (1 ≠ ·)) (fun _ => by decide) (fun _ => by decide) ((linkOd_eq_linkOd_iff ..).1 h)

/-- A port that has taken its peer's IDENT (R434). -/
def identTaken (s : State) (l : Nat) (info : IdentInfo) (enough : Bool) (credits : List Nat) : State :=
  let u := odSet s (linkOd l 3) (field info.identity.toNat 0 60)
  let v := if l < 16 then u else odSet u (odKey 0x7104 (l - 16)) info.cacheKib.toNat
  judgePort (setLink v l { linkOf s l with ident := some (info.group.toNat, info.cacheKib.toNat, enough), credits := credits }) l

section
variable {s : State} {link : Fin 24} (hon : s.power.on = true) (hdark : linkState s link.val ≠ 0) (hdown : linkState s link.val ≠ 4)
include hon hdark hdown

/-- A link that carries flits is neither DARK nor DOWN. -/
theorem link_carries : ¬((!s.power.on) = true ∨ linkState s link.val = 0 ∨ linkState s link.val = 4) := by
  exact not_or_intro (not_not_of_true hon) (not_or_intro hdark hdown)

theorem exec_flit_bad {ok : Bool} {b : Bytes} (hbad : ok = false ∨ b.length ≠ 256 ∨ leAt b 248 4 ≠ crc32c (b.take 248)) :
    exec (.flit link ok b) s = .next (keepQueue s (sendRetryFlit s link.val)) := by
  have hrefused : (!ok || decide (b.length ≠ 256) || decide (leAt b 248 4 ≠ crc32c (b.take 248))) = true :=
    Bool.or_eq_true_iff.2 (hbad.elim (fun hok => .inl (Bool.or_eq_true_iff.2 (.inl (congrArg not hok))))
      fun h => h.imp (fun hlen => Bool.or_eq_true_iff.2 (.inr (decide_eq_true hlen))) decide_eq_true)
  exact effectOn_of_eq hon ((if_neg (link_carries hon hdark hdown)).trans (if_pos hrefused))

section
variable {b : Bytes} (hlen : b.length = 256) (hcrc : leAt b 248 4 = crc32c (b.take 248))
include hlen hcrc

omit hon hdark hdown in
theorem flit_passes : (!true || decide (b.length ≠ 256) || decide (leAt b 248 4 ≠ crc32c (b.take 248))) = false :=
  or_of_false (or_of_false rfl (decide_eq_false (not_not_intro hlen))) (decide_eq_false (not_not_intro hcrc))

/-- A flit that skips one is answered with RETRY, an old one is dropped (R427). -/
theorem exec_flit_skips (hseq : field (leAt b 0 8) 8 16 ≠ (linkOf s link.val).rxSeq) :
    exec (.flit link true b) s = .next (keepQueue s (
      if (field (leAt b 0 8) 8 16 + 65536 - (linkOf s link.val).rxSeq) % 65536 < 2 ^ 15 then sendRetryFlit s link.val else s)) :=
  effectOn_of_eq hon ((if_neg (link_carries hon hdark hdown)).trans ((if_of_false (flit_passes hlen hcrc)).trans (if_pos hseq)))

theorem exec_flit_good (hseq : field (leAt b 0 8) 8 16 = (linkOf s link.val).rxSeq) :
    exec (.flit link true b) s = .next (keepQueue s (sendWaiting (linkOf s link.val).waiting.length
      (takePackets 32 (setLink s link.val (flitTaken (linkOf s link.val) b (if leAt b 0 8 % 16 = 1 ∧ linkState s link.val = 2 then
        (linkOf s link.val).inbox ++ (b.drop 8).take 240 else (linkOf s link.val).inbox))) link.val) link.val (field (leAt b 0 8) 40 4))) := by
  have hinbox : (if (decide (leAt b 0 8 % 16 = 1) && decide (linkState s link.val = 2)) = true then
        (linkOf s link.val).inbox ++ (b.drop 8).take 240 else (linkOf s link.val).inbox) =
      if leAt b 0 8 % 16 = 1 ∧ linkState s link.val = 2 then (linkOf s link.val).inbox ++ (b.drop 8).take 240 else (linkOf s link.val).inbox :=
    if_congr (Bool.and_eq_true_iff.trans (and_congr decide_eq_true_iff decide_eq_true_iff)) rfl rfl
  refine effectOn_of_eq hon ((if_neg (link_carries hon hdark hdown)).trans ((if_of_false (flit_passes hlen hcrc)).trans
    ((if_neg (not_not_intro hseq)).trans ((congrArg (fun i => sendWaiting
      (linkOf (setLink s link.val (flitTaken (linkOf s link.val) b i)) link.val).waiting.length
      (takePackets 32 (setLink s link.val (flitTaken (linkOf s link.val) b i)) link.val) link.val _) hinbox).trans ?_))))
  exact congrArg (fun l : List _ => sendWaiting l.length _ _ _) (waiting_flitTaken ..)

end

/-- A lane that fails goes to a spare of its optical die while there is one; a port without one narrows (R430-R432). -/
theorem exec_laneSpare_of_lanes {lane : Fin 8} (hlane : lane.val < fullWidth link.val) (hlanes : (linkOf s link.val).lanes ≠ 0) :
    exec (.laneSpare link lane) s = .next (keepQueue s (
      if 0 < sparesLeft s (linkDie link.val) then laneSpared s link.val lane.val
      else narrowPort s link.val ((linkOf s link.val).lanes - 1))) :=
  effectOn_of_eq hon (if_neg (not_or_intro (not_not_of_true hon) (not_or_intro hdark (not_or_intro hdown
    (not_or_intro (Nat.not_le.2 hlane) hlanes)))))

theorem exec_ident_of_time {info : IdentInfo} (htime : identTime s = true) (hup : opticalUp s link.val = true) :
    exec (.ident link info) s = .next (keepQueue s (identTaken s link.val info
      (decide (1024 ≤ info.reqCr.toNat ∧ 512 ≤ info.snpCr.toNat ∧ 64 ≤ info.ctlCr.toNat))
      (if (linkOf s link.val).ident = none then
        if link.val < 16 then (linkOf s link.val).credits else [info.reqCr.toNat, 0, info.snpCr.toNat, 0, info.ctlCr.toNat]
      else (linkOf s link.val).credits))) := by
  have henough : (decide (1024 ≤ info.reqCr.toNat) && decide (512 ≤ info.snpCr.toNat) && decide (64 ≤ info.ctlCr.toNat)) =
      decide (1024 ≤ info.reqCr.toNat ∧ 512 ≤ info.snpCr.toNat ∧ 64 ≤ info.ctlCr.toNat) := by
    rw [Bool.decide_and, Bool.decide_and, Bool.and_assoc]
  exact effectOn_of_eq hon ((if_neg (not_or_intro (not_not_of_true htime) (not_or_intro hdark (not_or_intro hdown
    (not_not_of_true hup))))).trans (congrArg₂ (identTaken s link.val info) henough (if_congr Option.isNone_iff_eq_none rfl rfl)))

end

/-- Settles O52: the guard of each command, then the SEQ of a flit, the spares of a die and the lanes of a port. -/
theorem linksRun : Obligations.LinksRun := by
  intro s link hon l x
  refine ⟨fun hdark hdown => ⟨fun ok b hbad => exec_flit_bad hon hdark hdown hbad, fun b hlen hcrc => ?good,
    fun q => effectOn_of_eq hon (if_neg (link_carries hon hdark hdown)), effectOn_of_eq hon (if_pos ⟨hon, hdark, hdown⟩),
    fun lane hlane hlanes => ?lane, fun good hstate hgood => effectOn_of_eq hon (if_pos ⟨hon, Nat.pos_of_ne_zero hdark, hstate, hgood⟩),
    fun info hwaits => effectOn_of_eq (u := s) hon (if_pos (.inr (.inr (.inr (congrArg not hwaits))))),
    fun info htime hup => exec_ident_of_time hon hdark hdown htime hup⟩, fun good htime hwanted hstate => ?train⟩
  case good =>
    exact ⟨fun hseq hskips => (exec_flit_skips hon hdark hdown hlen hcrc hseq).trans (next_keepQueue_congr (if_pos hskips)),
      fun hseq hold => (exec_flit_skips hon hdark hdown hlen hcrc hseq).trans (next_keepQueue_congr (u := s) (if_neg (Nat.not_lt.2 hold))),
      fun hseq => exec_flit_good hon hdark hdown hlen hcrc hseq⟩
  case lane =>
    exact ⟨fun hleft => ⟨_, (exec_laneSpare_of_lanes hon hdark hdown hlane hlanes).trans (next_keepQueue_congr (if_pos hleft)), rfl, rfl,
        linkState_laneSpared .., _, List.mem_cons_self, rfl, rfl⟩,
      fun hnone => (exec_laneSpare_of_lanes hon hdark hdown hlane hlanes).trans
        (next_keepQueue_congr (if_neg (Nat.not_lt.2 (Nat.le_of_eq hnone))))⟩
  case train =>
    exact ⟨fun hdown => effectOn_of_eq hon ((if_pos ⟨htime, hwanted, hstate⟩).trans (if_pos hdown)),
      fun hwide => effectOn_of_eq hon ((if_pos ⟨htime, hwanted, hstate⟩).trans (if_neg hwide))⟩

end Sys2Proof.Laws
end

section
/-! PROOFS. The fabric manager's packets: O54. -/

namespace Sys2Proof.Laws

open Sys2Proof Sys2Proof.Machine

/-- The windows' own bookkeeping of step commits is dropped with the window. -/
def targetDropped (s : State) (wid : Nat) : State := { s with step.targets := tblErase s.step.targets wid }

/-- A context owns a region under an epoch (R455). -/
def granted (s : State) (c region epoch : Nat) : State :=
  { s with fab.owned := s.fab.owned.filter (fun o => !(decide (o.1 = c) && decide (o.2.1 = region))) ++ [(c, region, epoch)] }

/-- A request to the manager has been answered. -/
def peerAnswered (s : State) (tag : Nat) : State := { s with fab.peers := tblErase s.fab.peers tag }

section
variable {s : State} (hon : s.power.on = true) {p : FabIn}
include hon

section
variable (hok : mgtOk s p 0x41 = true) (hwindow : windowOk s (fabWin (windowBytes (fabWin (padTo 48 p.data)))) = true)
include hok hwindow

/-- WINDOW_SET of a record that the device takes goes by the window that stands there (R441). -/
theorem exec_windowSet_of_ok {o : Option FabWin} (hold : fabWinAt s (fabWin (windowBytes (fabWin (padTo 48 p.data)))).wid = o) :
    exec (.windowSet p) s = .next (keepQueue s (
      let r := windowBytes (fabWin (padTo 48 p.data))
      let w := fabWin r
      let u := blobSet s (odCtx 0x6300 w.wid) r
      o.elim (mgtAnswer u p .ok) fun old =>
        if reduces old w then
          if w.epoch ≤ old.epoch then mgtAnswer s p .range
          else windowDrains (targetDropped u w.wid) p old false
        else if w.epoch < old.epoch then mgtAnswer s p .range
        else mgtAnswer u p .ok)) := by
  subst hold
  refine effectOn_of_eq hon ((if_not_of_true hok).trans ((if_not_of_true hwindow).trans ?_))
  generalize windowBytes (fabWin (padTo 48 p.data)) = r
  induction fabWinAt s (fabWin r).wid <;> rfl

/-- A window whose epoch goes back is refused, whatever it reduces. -/
theorem exec_windowSet_of_older {old : FabWin} (hold : fabWinAt s (fabWin (windowBytes (fabWin (padTo 48 p.data)))).wid = some old)
    (hepoch : (fabWin (windowBytes (fabWin (padTo 48 p.data)))).epoch < old.epoch) :
    exec (.windowSet p) s = .next (keepQueue s (mgtAnswer s p .range)) :=
  (exec_windowSet_of_ok hon hok hwindow hold).trans (next_keepQueue_congr
    (iteInduction (motive := (· = mgtAnswer s p .range)) (fun _ => if_pos (Nat.le_of_lt hepoch)) fun _ => if_pos hepoch))

end

theorem exec_windowClear_of_ok (hok : mgtOk s p 0x42 = true) {o : Option FabWin}
    (hwindow : (if leAt p.data 0 2 < 4096 then fabWinAt s (leAt p.data 0 2) else none) = o) :
    exec (.windowClear p) s = .next (keepQueue s (o.elim (mgtAnswer s p .range) fun w =>
      windowDrains (targetDropped (blobSet s (odCtx 0x6300 (leAt p.data 0 2)) []) (leAt p.data 0 2)) p w true)) := by
  subst hwindow
  refine effectOn_of_eq hon ((if_not_of_true hok).trans ?_)
  dsimp only
  generalize (if leAt p.data 0 2 < 4096 then fabWinAt s (leAt p.data 0 2) else none) = o
  induction o <;> rfl

/-- A grant that no cancel crosses goes to the acquire that waits for it (R617). -/
theorem exec_ownGrant_of_ok (hok : mgtOk s p 0x44 = true) (hcancel : (leAt p.data 4 2 % 4096, leAt p.data 0 4) ∉ s.fab.cancels)
    {o : Option (Job × Nat)} (hgrantee : grantee s (leAt p.data 4 2 % 4096) (leAt p.data 0 4) = o) :
    exec (.ownGrant p) s = .next (keepQueue s (o.elim
      (if decide (fStatus p.hdr.toNat = .orphaned) then s
        else sendOwnRel s p.port.val 0 (leAt p.data 4 2 % 4096) (leAt p.data 0 4) (leAt p.data 6 4) 0)
      fun x =>
        if decide (fStatus p.hdr.toNat = .orphaned) then jobEnd s x.1.ctx x.1.queue x.1.idx (recFabric .orphaned x.1.op x.1.tag 0)
        else jobEnd (granted s (leAt p.data 4 2 % 4096) (leAt p.data 0 4) (leAt p.data 6 4)) x.1.ctx x.1.queue x.1.idx
          (recFabric .ok x.1.op x.1.tag (grantResult (leAt p.data 6 4) (leAt p.data 0 4) x.2)))) := by
  subst hgrantee
  refine effectOn_of_eq hon ((if_not_of_true hok).trans ((if_neg fun h => hcancel (List.contains_iff_mem.1 h)).trans ?_))
  induction grantee s (leAt p.data 4 2 % 4096) (leAt p.data 0 4) <;> rfl

section
variable (hok : mgtOk s p 0x4F = true)
include hok

theorem exec_mgtAck_of_rel {r : PeerReq} {k i : Nat} {j : Job} (hrel : leAt p.data 0 1 = 0x45)
    (hpeer : tblFind s.fab.peers (leAt p.data 2 2) = some r) (hptype : r.ptype = 0x45) (hasker : r.asker = .job k i)
    (hjob : jobFind s (k / 16) (k % 16) i = some j) :
    exec (.mgtAck p) s = .next (keepQueue s (jobEnd (peerAnswered s (leAt p.data 2 2)) (k / 16) (k % 16) i
      (recFabric (statusFromCode (leAt p.data 1 1)) j.op j.tag r.len))) := by
  have hjob' : jobFind (peerAnswered s (leAt p.data 2 2)) (k / 16) (k % 16) i = some j := hjob
  refine effectOn_of_eq hon ((if_not_of_true hok).trans ((if_neg (hrel ▸ by decide)).trans ?_))
  refine hpeer.symm ▸ (if_pos ⟨hrel, hptype⟩).trans ?_
  change (match r.asker with
    | .job k i =>
      match jobFind (peerAnswered s (leAt p.data 2 2)) (k / 16) (k % 16) i with
      | some j => jobEnd (peerAnswered s (leAt p.data 2 2)) (k / 16) (k % 16) i
          (recFabric (statusFromCode (leAt p.data 1 1)) j.op j.tag r.len)
      | none => peerAnswered s (leAt p.data 2 2)
    | _ => peerAnswered s (leAt p.data 2 2)) = _
  refine hasker.symm ▸ ?_
  dsimp only
  exact hjob'.symm ▸ rfl

end

theorem exec_ownTimeout_of_job {c : Ctx} {q : QNum} {i : BitVec 32} {j : Job} {region : Nat}
    (hjob : jobFind s c.toNat q.val i.toNat = some j) (hbody : j.body = .own region) (hresult : j.result = none) :
    exec (.ownTimeout c q i) s = .next (keepQueue s
      (let t := sendOwn s 0x46 j.ctx region []
       jobEnd { t with fab.cancels := t.fab.cancels ++ [(j.ctx, region)] } j.ctx j.queue j.idx (recFabric .throttled j.op j.tag 0))) := by
  refine effectOn_of_eq hon ?_
  refine hjob.symm ▸ ?_
  dsimp only
  refine hbody.symm ▸ ?_
  exact hresult.symm ▸ rfl

end

/-- Settles O54: each packet is the manager's, and its branch is the one that the statement names. -/
theorem fabricManagerIsObeyed : Obligations.FabricManagerIsObeyed := by
  intro s p hon
  refine ⟨fun hok => ?assign, fun hok => ?set, fun hok => ?clear, fun hok => ?grant, fun hok job hjob => ?teardown,
    fun hok => ⟨fun hcancel => effectOn_of_eq (u := { s with fab.cancels := s.fab.cancels.drop 1 }) hon
        ((if_not_of_true hok).trans (if_pos hcancel)),
      fun r k i j hrel hpeer hptype hasker hjob => exec_mgtAck_of_rel hon hok hrel hpeer hptype hasker hjob⟩,
    fun c q i j region hjob hbody hresult => exec_ownTimeout_of_job hon hjob hbody hresult⟩
  case assign =>
    intro n
    exact ⟨fun hbad => effectOn_of_eq hon ((if_not_of_true hok).trans (if_pos hbad)),
      fun hsmall hgroup hfirst => effectOn_of_eq hon ((if_not_of_true hok).trans ((if_neg (not_or_intro (Nat.not_le.2 hsmall)
        (not_not_intro hgroup))).trans (if_neg fun h => absurd (hfirst.symm.trans h.1) (by decide))))⟩
  case set =>
    intro r w u
    exact ⟨fun hbad => effectOn_of_eq hon ((if_not_of_true hok).trans (if_not_of_false hbad)),
      fun hwindow hnone => exec_windowSet_of_ok hon hok hwindow hnone,
      fun old hwindow hold =>
        ⟨fun hkeeps hepoch => (exec_windowSet_of_ok hon hok hwindow hold).trans
            (next_keepQueue_congr ((if_of_false hkeeps).trans (if_neg (Nat.not_lt.2 hepoch)))),
          fun hreduces hepoch => (exec_windowSet_of_ok hon hok hwindow hold).trans
            (next_keepQueue_congr ((if_pos hreduces).trans (if_neg (Nat.not_le.2 hepoch)))),
          fun hepoch => exec_windowSet_of_older hon hok hwindow hold hepoch⟩⟩
  case clear =>
    intro wid
    exact ⟨fun w hsmall hwindow => exec_windowClear_of_ok hon hok ((if_pos hsmall).trans hwindow),
      fun hnone => exec_windowClear_of_ok hon hok (hnone.elim (fun hlarge => if_neg (Nat.not_lt.2 hlarge)) fun h => h.symm ▸ ite_self _)⟩
  case grant =>
    intro region c epoch hcancel
    exact ⟨fun j asked hgrantee =>
        ⟨fun horphaned => (exec_ownGrant_of_ok hon hok hcancel hgrantee).trans (next_keepQueue_congr (if_pos (decide_eq_true horphaned))),
          fun hgood => ⟨_, (exec_ownGrant_of_ok hon hok hcancel hgrantee).trans (next_keepQueue_congr (if_of_false (decide_eq_false hgood))),
            List.mem_append_right _ List.mem_cons_self, rfl, rfl⟩⟩,
      fun hnone hgood => (exec_ownGrant_of_ok hon hok hcancel hnone).trans (next_keepQueue_congr (if_of_false (decide_eq_false hgood)))⟩
  case teardown =>
    subst hjob
    exact effectOn_of_eq hon (if_not_of_true hok)

end Sys2Proof.Laws
end

section
/-! PROOFS. The life of a context: O55. -/

namespace Sys2Proof.Laws

open Sys2Proof Sys2Proof.Machine

/-- The entries of one context differ by their index alone. -/
theorem odCtx_eq_odCtx_iff (a b c : Nat) : odCtx a c = odCtx b c ↔ a = b :=
  (odKey_eq_odKey_iff ..).trans Nat.add_right_cancel_iff

theorem odGet_odSet_ctx (s : State) {a b : Nat} (c v : Nat) (h : a ≠ b) : odGet (odSet s (odCtx b c) v) (odCtx a c) = odGet s (odCtx a c) :=
  (odGet_odSet ..).trans (if_neg (mt (odCtx_eq_odCtx_iff ..).1 h))

/-! ## One context command at a time (R491) -/

theorem runCommands_of_none {s : State} (hnone : s.iso.commands = []) (fuel : Nat) : runCommands fuel s = s := by
  induction fuel with
  | zero => rfl
  | succ fuel => exact iteInduction (motive := (· = s)) (fun _ => hnone.symm ▸ rfl) fun _ => rfl

theorem runCommands_of_busy {s : State} (hbusy : commandFree s = false) (fuel : Nat) : runCommands fuel s = s := by
  induction fuel with
  | zero => rfl
  | succ fuel => exact if_of_false hbusy

/-- The state with the context commands that wait. -/
def withCommands (s : State) (l : List (Nat × Nat)) : State := { s with iso.commands := l }

/-- A free core that nothing else waits for begins the command at once. -/
theorem contextCommand_of_free {s t : State} {c k : Nat} (hc : c ≠ 0) (hup : dictUp s = true) (hfree : commandFree s = true)
    (hnone : s.iso.commands = []) (hstart : startCommand s c k = t) (hstop : runCommands 1 t = t) : contextCommand s c k = t := by
  have hqueued : nextCommand (withCommands s (s.iso.commands ++ [(c, k)])) = runCommands 2 (withCommands s [(c, k)]) :=
    congrArg (fun l => nextCommand (withCommands s (l ++ [(c, k)]))) hnone
  have hruns : runCommands 2 (withCommands s [(c, k)]) = runCommands 1 (startCommand (withCommands s []) c k) := if_pos hfree
  have hempty : withCommands s [] = s := congrArg (withCommands s) hnone.symm
  exact (if_neg (not_or_intro hc (ne_false_of_eq_true hup))).trans (hqueued.trans (hruns.trans
    ((congrArg (fun t => runCommands 1 (startCommand t c k)) hempty).trans ((congrArg (runCommands 1) hstart).trans hstop))))

/-- A context that becomes TORN leaves the commands that wait. -/
theorem tornCtx_commands (s : State) (c : Nat) : (tornCtx s c).iso.commands = s.iso.commands :=
  ite_keeps (fun t : State => t.iso.commands)
    ((flagEvent_sendsOnly (stopQueries (keyRecord (odSet s (odCtx 0x9100 c) 2) c .torn) c) c 2).elim fun _ h =>
      (congrArg (fun t : State => t.iso.commands) h.1 :)) rfl

theorem runCommands_ctxResult {t : State} (ht : t.iso.commands = []) (c v : Nat) : runCommands 1 (ctxResult t c v) = ctxResult t c v :=
  runCommands_of_none (s := ctxResult t c v) ht 1

section
variable {s : State} {c : Nat}

theorem ctxState_of_ne_zero (hc : c ≠ 0) (s : State) : ctxState s c = odGet s (odCtx 0x9100 c) := if_neg hc

/-- What CREATE begins of a FREE context (R491, R492, R500). -/
def createBegun (s : State) (c : Nat) : State :=
  let t := ctxResult (createZero s c) c 1
  { (draw t).2 with iso.creating := some c, iso.drawn := natLe 32 (draw t).1 }

theorem commandFree_createBegun (s : State) (c : Nat) : commandFree (createBegun s c) = false :=
  Bool.and_eq_false_iff.2 (.inl (Bool.and_eq_false_iff.2 (.inr rfl)))

/-- What RELEASE begins of an ACTIVE or TORN context (R495). -/
def releaseBegun (s : State) (c : Nat) : State := { ctxResult s c 1 with iso.releasing := s.iso.releasing ++ [⟨c, 1⟩] }

theorem commandFree_releaseBegun (s : State) (c : Nat) : commandFree (releaseBegun s c) = false :=
  Bool.and_eq_false_iff.2 (.inr (decide_eq_false (List.append_ne_nil_of_right_ne_nil _ (List.cons_ne_nil _ _))))

theorem createBegun_generation (s : State) (c : Nat) :
    odGet (createBegun s c) (odCtx 0x9130 c) = (odGet s (odCtx 0x9130 c) + 1) % 2 ^ 32 :=
  (odGet_odSet_ctx (createZero s c) _ _ (by decide)).trans ((odGet_odSet_same ..).trans
    (congrArg (fun n => (n + 1) % 2 ^ 32) (odGet_odSet_ctx s _ _ (by decide))))

theorem createBegun_epoch (s : State) (c : Nat) : epochOf (createBegun s c) c = 0 :=
  congrArg (·.getD 0) ((tblFind_tblSet s.xlat.epochs c c 0).trans (if_pos rfl))

theorem createBegun_ctxState (hc : c ≠ 0) (s : State) : ctxState (createBegun s c) c = ctxState s c :=
  (ctxState_of_ne_zero hc _).trans ((odGet_odSet_ctx (createZero s c) _ _ (by decide)).trans
    ((odGet_odSet_ctx _ _ _ (by decide)).trans ((odGet_odSet_ctx s _ _ (by decide)).trans (ctxState_of_ne_zero hc s).symm)))

end

/-- What the media dies' key slots take changes nothing of the dictionary, of memory or of the commands (R501). -/
theorem loadSlots_frame (s : State) (c : Nat) (k : Bytes) :
    (loadSlots s c k).od = s.od ∧ (loadSlots s c k).mem = s.mem ∧ (loadSlots s c k).iso.commands = s.iso.commands := by
  refine ⟨foldl_keeps State.od (fun _ _ => ?_) _ s, foldl_keeps State.mem (fun _ _ => ?_) _ s,
    foldl_keeps (fun t : State => t.iso.commands) (fun _ _ => ?_) _ s⟩ <;> rfl

/-- The key of a CREATE is in the active key store, and nothing of the dictionary, of memory or of the commands changes (R507). -/
theorem storeKey_frame (s : State) (c : Nat) :
    (storeKey s c).od = s.od ∧ (storeKey s c).mem = s.mem ∧ (storeKey s c).iso.commands = s.iso.commands ∧
      tblFind (storeKey s c).iso.active c ≠ none := by
  have hframe := loadSlots_frame s c s.iso.drawn
  exact ⟨hframe.1, hframe.2.1, hframe.2.2, fun hnone =>
    absurd (hnone.symm.trans ((tblFind_tblSet ..).trans (if_pos rfl))) (Option.some_ne_none s.iso.drawn).symm⟩

/-! ## O55 -/

section
variable {s : State} {ctx : Ctx} (hon : s.power.on = true)
include hon

section
variable (hup : dictUp s = true) (hc : ctx.toNat ≠ 0) (hfree : commandFree s = true) (hnone : s.iso.commands = []) {t : State}
include hup hc hfree hnone

theorem exec_create_of_free (hstart : startCreate s ctx.toNat = t) (hstop : runCommands 1 t = t) :
    exec (.create ctx) s = .next (keepQueue s t) :=
  effectOn_of_eq hon (contextCommand_of_free (k := 1) hc hup hfree hnone hstart hstop)

theorem exec_tear_of_free (hstart : startTear s ctx.toNat = t) (hstop : runCommands 1 t = t) :
    exec (.tear ctx) s = .next (keepQueue s t) :=
  effectOn_of_eq hon (contextCommand_of_free (k := 2) hc hup hfree hnone hstart hstop)

theorem exec_release_of_free (hstart : startRelease s ctx.toNat = t) (hstop : runCommands 1 t = t) :
    exec (.release ctx) s = .next (keepQueue s t) :=
  effectOn_of_eq hon (contextCommand_of_free (k := 3) hc hup hfree hnone hstart hstop)

end

section
variable (hnone : s.iso.creating = none) {r : Releasing}
  (hfind : s.iso.releasing.find? (fun r => decide (r.ctx = ctx.toNat)) = some r)
include hnone hfind

/-- The release whose record is marked (R495). -/
theorem exec_keyRecordDurable_of_marked (hstep : r.step = 1) : exec (.keyRecordDurable ctx) s =
    .next (keepQueue s (releaseWithdraw (releaseStep (releaseWindows
      (releaseStop (keyRecord s ctx.toNat .releasing) ctx.toNat) ctx.toNat) ctx.toNat 3) ctx.toNat)) := by
  refine effectOn_of_eq hon ((if_neg fun h => absurd (hnone.symm.trans h) (Option.some_ne_none _).symm).trans ?_)
  refine hfind.symm ▸ ?_
  dsimp only [Option.map_some]
  exact hstep.symm ▸ rfl

/-- The release whose record is erased. -/
theorem exec_keyRecordDurable_of_erased (hstep : r.step = 5) (hqueue : s.iso.commands = []) :
    exec (.keyRecordDurable ctx) s = .next (keepQueue s (releaseEnds s ctx.toNat)) := by
  refine effectOn_of_eq hon ((if_neg fun h => absurd (hnone.symm.trans h) (Option.some_ne_none _).symm).trans ?_)
  refine hfind.symm ▸ ?_
  dsimp only [Option.map_some]
  exact hstep.symm ▸ runCommands_of_none (s := releaseEnds s ctx.toNat) hqueue _

end

/-- A CREATE whose record is durable ends: the context is ACTIVE under its key (R491, R507). -/
theorem exec_createDone_of_durable (hcreating : s.iso.creating = some ctx.toNat) (hdurable : createDurable s ctx.toNat = true)
    (hnone : s.iso.commands = []) : exec (.createDone ctx) s = .next (keepQueue s
      { storeKey (ctxResult (odSet s (odCtx 0x9100 ctx.toNat) 1) ctx.toNat 2) ctx.toNat with iso.creating := none }) :=
  effectOn_of_eq hon ((if_pos ⟨hcreating, hdurable⟩).trans (runCommands_of_none
    (s := { storeKey (ctxResult (odSet s (odCtx 0x9100 ctx.toNat) 1) ctx.toNat 2) ctx.toNat with iso.creating := none })
    ((storeKey_frame (ctxResult (odSet s (odCtx 0x9100 ctx.toNat) 1) ctx.toNat 2) ctx.toNat).2.2.1.trans hnone) _))

end

theorem createDurable_keyRecord (s : State) (c : Nat) : createDurable (keyRecord s c .active) c = true := by
  delta createDurable
  refine ((tblFind_tblSet ..).trans (if_pos rfl) : tblFind (keyRecord s c .active).iso.keys0 c = some _).symm ▸ ?_
  exact decide_eq_true rfl

/-- Settles O55: each command by the state of the context; what a command leaves lets no other one follow it. -/
theorem contextsLiveAndEnd : Obligations.ContextsLiveAndEnd := by
  intro s ctx hon c
  refine ⟨fun hup hc hfree hnone => ⟨fun hstate => ?creates, fun hstate => ?createRefused, fun hstate => ?tears, fun hstate => ?tearRefused,
      fun hstate => ?releases, fun hstate => ?releaseRefused⟩,
    fun hcreating => ⟨⟨_, effectOn_of_eq hon (if_pos hcreating), createDurable_keyRecord s c, rfl, rfl⟩, fun hdurable hnone hc => ?created⟩,
    fun hcreating r hfind => ⟨fun hstep => exec_keyRecordDurable_of_marked hon hcreating hfind hstep, fun hstep hnone hc => ?erased⟩,
    fun hpending => ⟨_, effectOn_of_eq hon (if_pos hpending), odGet_odSet_same .., rfl, rfl⟩, fun hup hc => ⟨fun hactive hown => ?begins,
      fun hshadow hproven => ?takes, fun hshadow hfew => ?few⟩⟩
  case creates =>
    exact ⟨_, exec_create_of_free (t := createBegun s c) hon hup hc hfree hnone (if_pos hstate)
        (runCommands_of_busy (commandFree_createBegun s c) 1), rfl, odGet_odSet_same (createZero s c) _ _, createBegun_epoch s c,
      createBegun_generation s c, fun _ he => of_decide_eq_true (List.mem_filter.1 he).2, (createBegun_ctxState hc s).trans hstate, rfl⟩
  case createRefused => exact exec_create_of_free hon hup hc hfree hnone (if_neg hstate) (runCommands_ctxResult hnone c 3)
  case tears =>
    exact exec_tear_of_free hon hup hc hfree hnone (if_pos hstate) (runCommands_ctxResult ((tornCtx_commands s c).trans hnone) c 2)
  case tearRefused => exact exec_tear_of_free hon hup hc hfree hnone (if_neg hstate) (runCommands_ctxResult hnone c 3)
  case releases =>
    have hreleasing : s.iso.releasing = [] := of_decide_eq_true (Bool.and_eq_true_iff.1 hfree).2
    exact ⟨_, exec_release_of_free (t := releaseBegun s c) hon hup hc hfree hnone (if_pos hstate)
        (runCommands_of_busy (commandFree_releaseBegun s c) 1),
      congrArg (· ++ [(⟨c, 1⟩ : Releasing)]) hreleasing, odGet_odSet_same s _ _, rfl, rfl⟩
  case releaseRefused =>
    exact exec_release_of_free hon hup hc hfree hnone
      (if_neg fun h => hstate.elim (fun hzero => absurd (hzero ▸ h) (by decide)) fun hthree => absurd (hthree ▸ h) (by decide))
      (runCommands_ctxResult hnone c 3)
  case created =>
    have hframe := storeKey_frame (ctxResult (odSet s (odCtx 0x9100 c) 1) c 2) c
    refine ⟨_, exec_createDone_of_durable hon hcreating hdurable hnone, rfl, ?_, ?_, hframe.2.2.2, hframe.2.1⟩
    · exact (ctxState_of_ne_zero hc _).trans ((odGet_congr (ctxResult (odSet s (odCtx 0x9100 c) 1) c 2) _ hframe.1 _).trans
        ((odGet_odSet_ctx _ _ _ (by decide)).trans (odGet_odSet_same ..)))
    · exact (odGet_congr (ctxResult (odSet s (odCtx 0x9100 c) 1) c 2) _ hframe.1 _).trans (odGet_odSet_same ..)
  case erased =>
    refine ⟨_, exec_keyRecordDurable_of_erased hon hcreating hfind hstep hnone, ?_, odGet_odSet_same .., tblFind_tblErase_same _ _,
      tblFind_tblErase_same _ _, tblFind_tblErase_same _ _, rfl⟩
    exact (ctxState_of_ne_zero hc _).trans ((odGet_odSet_ctx _ _ _ (by decide)).trans (odGet_odSet_same ..))
  case begins =>
    refine ⟨_, effectOn_of_eq hon ((if_neg (not_or_intro (not_not_of_true hup) hc)).trans ((if_pos rfl).trans
      (if_pos (and_of_true hactive (congrArg not hown))))), decide_eq_true ?_, ?_, odGet_odSet_same .., rfl⟩
    · exact (odGet_odSet_ctx _ _ _ (by decide)).trans ((odGet_odSet_ctx _ _ _ (by decide)).trans (odGet_odSet_same ..))
    · exact (odGet_odSet_ctx _ _ _ (by decide)).trans (odGet_odSet_same ..)
  case takes =>
    refine ⟨_, effectOn_of_eq hon ((if_neg (not_or_intro (not_not_of_true hup) hc)).trans ((if_neg (by decide)).trans
      ((if_not_of_true hshadow).trans (if_pos hproven)))), decide_eq_false ?_, odGet_odSet_same ..⟩
    exact fun h => absurd (h.symm.trans ((odGet_odSet_ctx _ _ _ (by decide)).trans (odGet_odSet_same ..))) (by decide)
  case few =>
    exact effectOn_of_eq hon ((if_neg (not_or_intro (not_not_of_true hup) hc)).trans ((if_neg (by decide)).trans
      ((if_not_of_true hshadow).trans (if_neg (Nat.not_le.2 hfew)))))

end Sys2Proof.Laws
end

section
/-! PROOFS. SPDM: O56. -/

namespace Sys2Proof.Laws

open Sys2Proof Sys2Proof.Machine

/-! ## The response of a source (R516) -/

/-- A source's state stands at the front, where it is found. -/
theorem spdmOf_setSpdm_same (s : State) (x : SpdmSrc) : spdmOf (setSpdm s x) x.src = some { x with used := stampNow s } :=
  List.find?_cons_of_pos (decide_eq_true rfl)

theorem spdmOf_src {s : State} {src : Src} {x : SpdmSrc} (h : spdmOf s src = some x) : x.src = src :=
  of_decide_eq_true (List.find?_some h :)

/-- A count of OD 0x9301 after `n` more. -/
def SpdmCounts (s : State) (k n : Nat) (t : State) : Prop :=
  odGet t (odKey 0x9301 k) = if n = 0 then odGet s (odKey 0x9301 k) else (odGet s (odKey 0x9301 k) + n) % 2 ^ 64

/-- Nothing of memory, of the keys, of the queues or of what has been sent changes. -/
def SpdmKeeps (s t : State) : Prop :=
  t.mem = s.mem ∧ t.iso.keys0 = s.iso.keys0 ∧ t.iso.keys1 = s.iso.keys1 ∧ t.iso.active = s.iso.active ∧ t.q = s.q ∧ t.out = s.out

/-- What an answered request leaves: the answer and its transcripts in the source's entry, and the counts. -/
def SpdmAnswers (s : State) (src : Src) (i : Instr) (signatures : Nat) (r : Bytes × SpdmSrc × State) : Prop :=
  ∃ t y, exec i s = .next t ∧ spdmOf t src = some y ∧ y.response = spdmLimit r.1 ∧ y.stage = r.2.1.stage ∧
    y.transA = r.2.1.transA ∧ y.transB = r.2.1.transB ∧ y.transM = r.2.1.transM ∧ SpdmCounts s 1 1 t ∧ SpdmCounts s 2 signatures t ∧ SpdmKeeps s t

/-- The state that a request leaves, with its answer. -/
def spdmLeaves (r : Bytes × SpdmSrc × State) : State :=
  odBump (setSpdm r.2.2 { r.2.1 with response := spdmLimit r.1 }) (odKey 0x9301 1) 1

theorem spdmAnswers_of_leaves {s : State} {src : Src} {i : Instr} {n : Nat} {r : Bytes × SpdmSrc × State}
    (hexec : exec i s = .next (keepQueue s (spdmLeaves r))) (hsrc : r.2.1.src = src)
    (hone : odGet r.2.2 (odKey 0x9301 1) = odGet s (odKey 0x9301 1)) (htwo : SpdmCounts s 2 n r.2.2) (hkeeps : SpdmKeeps s r.2.2) :
    SpdmAnswers s src i n r := by
  subst hsrc
  exact ⟨_, _, hexec, spdmOf_setSpdm_same r.2.2 { r.2.1 with response := spdmLimit r.1 }, rfl, rfl, rfl, rfl, rfl,
    (odGet_odBump (setSpdm r.2.2 _) _ _ _).trans ((if_pos rfl).trans (congrArg (fun n => (n + 1) % 2 ^ 64) hone)),
    (odGet_odBump (setSpdm r.2.2 _) _ _ _).trans ((if_neg (by decide)).trans htwo), hkeeps⟩

/-- An answer that signs nothing and leaves the device as it is. -/
theorem spdmAnswers_unsigned {s : State} {src : Src} {i : Instr} {b : Bytes} {y : SpdmSrc}
    (hexec : exec i s = .next (keepQueue s (spdmLeaves (b, y, s)))) (hsrc : y.src = src) : SpdmAnswers s src i 0 (b, y, s) :=
  spdmAnswers_of_leaves hexec hsrc rfl (if_pos rfl).symm ⟨rfl, rfl, rfl, rfl, rfl, rfl⟩

/-- An answer that is signed: the nonce and the signature are drawn, and the signature is counted. -/
theorem spdmAnswers_signed {s : State} {src : Src} {i : Instr} {r : Bytes × SpdmSrc × State} {y : SpdmSrc}
    (hexec : exec i s = .next (keepQueue s (spdmLeaves r)))
    (hr : r.2 = (y, odBump { s with free := s.free + 2 } (odKey 0x9301 2) 1)) (hsrc : y.src = src) : SpdmAnswers s src i 1 r := by
  obtain ⟨b, p⟩ := r
  obtain rfl : p = _ := hr
  exact spdmAnswers_of_leaves hexec hsrc ((odGet_odBump { s with free := s.free + 2 } _ _ _).trans (if_neg (by decide)))
    ((odGet_odBump { s with free := s.free + 2 } _ _ _).trans (if_pos rfl)) ⟨rfl, rfl, rfl, rfl, rfl, rfl⟩

/-! ## Requests in step (R515) -/

/-- What a request of a source in the state `x` is answered by. -/
def spdmTaken (s : State) (src : Src) (x : SpdmSrc) (m : Bytes) : Bytes × SpdmSrc × State :=
  if m.length < 4 then (spdmError 1 0, x, s)
  else if leAt m 1 1 = 0x84 then (if leAt m 0 1 = 0x10 then spdmVersion s src m else (spdmError 0x41 0, x, s))
  else if x.resynch then (spdmError 0x43 0, { x with resynch := false }, s)
  else if !spdmCodes.contains (leAt m 1 1) then (spdmError 7 (leAt m 1 1), x, s)
  else if leAt m 0 1 ≠ 0x12 then (spdmError 0x41 0, x, s)
  else spdmRun s x (leAt m 1 1) m

theorem spdmRequest_of_up {s : State} (hup : dictUp s = true) (src : Src) (m : Bytes) :
    spdmRequest s src m = spdmLeaves (spdmTaken s src ((spdmOf s src).getD (newSpdm src)) m) :=
  if_neg (ne_false_of_eq_true hup)

/-- A request of a source that is in step is carried out by its code. -/
theorem spdmTaken_in_step {s : State} {src : Src} {m : Bytes} {x : SpdmSrc} (hlen : 4 ≤ m.length) (hstep : x.resynch = false)
    (hversion : leAt m 0 1 = 0x12) (hknown : leAt m 1 1 ∈ spdmCodes) : spdmTaken s src x m = spdmRun s x (leAt m 1 1) m :=
  (if_neg (Nat.not_lt.2 hlen)).trans ((if_neg fun h => absurd (h ▸ hknown) (by decide)).trans ((if_of_false hstep).trans
    ((if_not_of_true (List.contains_iff_mem.2 hknown)).trans (if_neg (not_not_intro hversion)))))

section
variable {s : State} {x : SpdmSrc} {m : Bytes}

theorem spdmRun_capabilities (hstage : x.stage = 1) : spdmRun s x 0xE1 m = spdmCapabilities s x m := (if_pos rfl).trans (if_pos hstage)

theorem spdmRun_algorithms (hstage : x.stage = 2) : spdmRun s x 0xE3 m = spdmAlgorithms s x m :=
  (if_neg (by decide)).trans ((if_pos rfl).trans (if_pos hstage))

/-- What a source that has negotiated is answered by (R515). -/
theorem spdmRun_negotiated (hstage : x.stage = 3) {code : Nat} (hcap : code ≠ 0xE1) (halg : code ≠ 0xE3) :
    spdmRun s x code m = if code = 0x81 then spdmDigests s x m else if code = 0x82 then spdmCertificate s x m
      else if code = 0x83 then spdmChallenge s x m else spdmMeasurements s x m :=
  (if_neg hcap).trans ((if_neg halg).trans (if_neg (not_not_intro hstage)))

theorem spdmRun_digests (hstage : x.stage = 3) : spdmRun s x 0x81 m = spdmDigests s x m :=
  (spdmRun_negotiated hstage (by decide) (by decide)).trans (if_pos rfl)

theorem spdmRun_certificate (hstage : x.stage = 3) : spdmRun s x 0x82 m = spdmCertificate s x m :=
  (spdmRun_negotiated hstage (by decide) (by decide)).trans ((if_neg (by decide)).trans (if_pos rfl))

theorem spdmRun_challenge (hstage : x.stage = 3) : spdmRun s x 0x83 m = spdmChallenge s x m :=
  (spdmRun_negotiated hstage (by decide) (by decide)).trans ((if_neg (by decide)).trans ((if_neg (by decide)).trans (if_pos rfl)))

theorem spdmRun_measurements (hstage : x.stage = 3) : spdmRun s x 0xE0 m = spdmMeasurements s x m :=
  (spdmRun_negotiated hstage (by decide) (by decide)).trans ((if_neg (by decide)).trans ((if_neg (by decide)).trans (if_neg (by decide))))

/-- Out of step a request is answered with UnexpectedRequest. -/
theorem spdmRun_late {code : Nat} (hcap : code ≠ 0xE1) (halg : code ≠ 0xE3) (h : x.stage ≠ 3) :
    spdmRun s x code m = (spdmError 4 0, x, s) :=
  (if_neg hcap).trans ((if_neg halg).trans (if_pos h))

end

theorem summary_known : ∀ n ∈ [0, 1, 0xFF], ¬(n ≠ 0 ∧ n ≠ 1 ∧ n ≠ 0xFF) := by decide

/-- A CHALLENGE of slot 0 is answered with a signature (R515). -/
theorem spdmChallenge_signs (s : State) (x : SpdmSrc) {m : Bytes} (hslot : leAt m 2 1 = 0) (hlen : 36 ≤ m.length)
    (hsummary : leAt m 3 1 ∈ [0, 1, 0xFF]) :
    (spdmChallenge s x m).2 = ({ x with transB := [], transM := [] }, odBump { s with free := s.free + 2 } (odKey 0x9301 2) 1) ∧
      leAt (spdmChallenge s x m).1 1 1 = 0x03 :=
  have hgood := not_or_intro (not_not_intro hslot) (not_or_intro (Nat.not_lt.2 hlen) (summary_known _ hsummary))
  ⟨congrArg Prod.snd (if_neg hgood), congrArg (fun r => leAt (Prod.fst r) 1 1) (if_neg hgood)⟩

section
variable (s : State) (x : SpdmSrc) {m : Bytes} (hwhich : leAt m 3 1 ≤ 8 ∨ leAt m 3 1 = 0xFF)
include hwhich

/-- The measurements that are asked for without a signature (R515). -/
theorem spdmMeasurements_unsigned (hplain : leAt m 2 1 % 2 = 0) :
    ∃ r, spdmMeasurements s x m = (0x12#8 :: 0x60#8 :: r, { x with transM := x.transM ++ m ++ (0x12#8 :: 0x60#8 :: r) },
      { s with free := s.free + 1 }) :=
  have hunsigned : decide (leAt m 2 1 % 2 = 1) = false := decide_eq_false (hplain ▸ by decide)
  ⟨_, (if_neg (not_or_intro (fun h => absurd h.1 (ne_true_of_eq_false hunsigned)) fun h => hwhich.elim (Nat.not_le.2 h.1) h.2)).trans
    (if_of_false hunsigned)⟩

/-- The measurements with a signature (R515). -/
theorem spdmMeasurements_signs (hsigned : leAt m 2 1 % 2 = 1) (hlen : 37 ≤ m.length) (hslot : leAt m 36 1 = 0) :
    (spdmMeasurements s x m).2 = ({ x with transM := [] }, odBump { s with free := s.free + 2 } (odKey 0x9301 2) 1) ∧
      leAt (spdmMeasurements s x m).1 1 1 = 0x60 :=
  have hgood := not_or_intro (fun h => h.2.elim (Nat.not_lt.2 hlen) fun hne => hne hslot) fun h => hwhich.elim (Nat.not_le.2 h.1) h.2
  have hruns := (if_neg hgood).trans (if_pos (decide_eq_true hsigned))
  ⟨congrArg Prod.snd hruns, congrArg (fun r => leAt (Prod.fst r) 1 1) hruns⟩

end

/-! ## O56 -/

/-- GET_VERSION begins a source anew. -/
theorem exec_getVersion {s : State} (hup : dictUp s = true) (hon : s.power.on = true) {src : Src} {m : Bytes} (hlen : 4 ≤ m.length)
    (hcode : leAt m 1 1 = 0x84) (hversion : leAt m 0 1 = 0x10) :
    exec (.getVersion src m) s = .next (keepQueue s (spdmLeaves (spdmVersion s src m))) := by
  exact effectOn_of_eq hon ((if_pos hcode).trans ((spdmRequest_of_up hup src m).trans (congrArg spdmLeaves
    ((if_neg (Nat.not_lt.2 hlen)).trans ((if_pos hcode).trans (if_pos hversion))))))

section
variable {s : State} {src : Src} {m : Bytes} {x : SpdmSrc} (hup : dictUp s = true) (hon : s.power.on = true) (hlen : 4 ≤ m.length)
  (hx : spdmOf s src = some x) (hstep : x.resynch = false) (hversion : leAt m 0 1 = 0x12)
include hup hon hlen hx hstep hversion

theorem exec_spdm_in_step {i : Instr} {code : Nat} (hi : exec i s = effectOn s (spdmAs s src code m)) (hcode : leAt m 1 1 = code)
    (hknown : code ∈ spdmCodes) {r : Bytes × SpdmSrc × State} (hrun : spdmRun s x code m = r) :
    exec i s = .next (keepQueue s (spdmLeaves r)) := by
  subst hcode
  have htaken := (congrArg (fun o => spdmTaken s src (Option.getD o (newSpdm src)) m) hx).trans
    ((spdmTaken_in_step hlen hstep hversion hknown).trans hrun)
  exact hi.trans (effectOn_of_eq hon ((if_pos rfl).trans ((spdmRequest_of_up hup src m).trans (congrArg spdmLeaves htaken))))

theorem spdmAnswers_plain {i : Instr} {code : Nat} (hi : exec i s = effectOn s (spdmAs s src code m)) (hcode : leAt m 1 1 = code)
    (hknown : code ∈ spdmCodes) {b : Bytes} {y : SpdmSrc} (hrun : spdmRun s x code m = (b, y, s)) (hy : y.src = x.src) :
    SpdmAnswers s src i 0 (b, y, s) :=
  spdmAnswers_unsigned (exec_spdm_in_step hup hon hlen hx hstep hversion hi hcode hknown hrun) (hy.trans (spdmOf_src hx))

theorem spdmAnswers_certificate (hcode : leAt m 1 1 = 0x82) (hstage : x.stage = 3) (hslot : leAt m 2 1 = 0)
    (hwithin : leAt m 4 2 < Config.certChain.length) :
    let part := (Config.certChain.drop (leAt m 4 2)).take (min (leAt m 6 2) 1016)
    let r := [0x12#8, 0x02#8, 0#8, 0#8] ++ natLe 2 part.length ++ natLe 2 (Config.certChain.length - leAt m 4 2 - part.length) ++ part
    SpdmAnswers s src (.getCertificate src m) 0 (r, { x with transB := x.transB ++ m ++ r }, s) :=
  spdmAnswers_plain hup hon hlen hx hstep hversion rfl hcode (by decide)
    ((spdmRun_certificate hstage).trans (if_neg (not_or_intro (not_not_intro hslot) (Nat.not_le.2 hwithin)))) rfl

theorem spdmAnswers_challenge (hcode : leAt m 1 1 = 0x83) (hstage : x.stage = 3) (hslot : leAt m 2 1 = 0) (hlong : 36 ≤ m.length)
    (hsummary : leAt m 3 1 ∈ [0, 1, 0xFF]) :
    SpdmAnswers s src (.challenge src m) 1 (spdmChallenge s x m) ∧ leAt (spdmChallenge s x m).1 1 1 = 0x03 ∧
      (spdmChallenge s x m).2.1 = { x with transB := [], transM := [] } :=
  have hsigns := spdmChallenge_signs s x hslot hlong hsummary
  ⟨spdmAnswers_signed (exec_spdm_in_step hup hon hlen hx hstep hversion rfl hcode (by decide) (spdmRun_challenge hstage)) hsigns.1
    (spdmOf_src (x := x) hx), hsigns.2, congrArg Prod.fst hsigns.1⟩

section
variable (hcode : leAt m 1 1 = 0xE0) (hstage : x.stage = 3) (hwhich : leAt m 3 1 ≤ 8 ∨ leAt m 3 1 = 0xFF)
include hcode hstage hwhich

theorem spdmAnswers_measurements_unsigned (hplain : leAt m 2 1 % 2 = 0) :
    SpdmAnswers s src (.getMeasurements src m) 0 (spdmMeasurements s x m) ∧ leAt (spdmMeasurements s x m).1 1 1 = 0x60 :=
  (spdmMeasurements_unsigned s x hwhich hplain).elim fun _ hr =>
    hr.symm ▸ ⟨spdmAnswers_of_leaves (exec_spdm_in_step hup hon hlen hx hstep hversion rfl hcode (by decide) ((spdmRun_measurements hstage).trans hr))
      (spdmOf_src (x := x) hx) rfl (if_pos rfl).symm ⟨rfl, rfl, rfl, rfl, rfl, rfl⟩, rfl⟩

theorem spdmAnswers_measurements_signed (hsigned : leAt m 2 1 % 2 = 1) (hlong : 37 ≤ m.length) (hslot : leAt m 36 1 = 0) :
    SpdmAnswers s src (.getMeasurements src m) 1 (spdmMeasurements s x m) ∧ leAt (spdmMeasurements s x m).1 1 1 = 0x60 :=
  have hsigns := spdmMeasurements_signs s x hwhich hsigned hlong hslot
  ⟨spdmAnswers_signed (exec_spdm_in_step hup hon hlen hx hstep hversion rfl hcode (by decide) (spdmRun_measurements hstage)) hsigns.1
    (spdmOf_src (x := x) hx), hsigns.2⟩

end

/-- Out of step every request is answered with UnexpectedRequest. -/
theorem spdmAnswers_late : ∀ p ∈ [(Instr.getCapabilities src m, 0xE1, 1), (.negotiateAlgorithms src m, 0xE3, 2), (.getDigests src m, 0x81, 3),
      (.getCertificate src m, 0x82, 3), (.challenge src m, 0x83, 3), (.getMeasurements src m, 0xE0, 3)],
    leAt m 1 1 = p.2.1 → x.stage ≠ p.2.2 → SpdmAnswers s src p.1 0 (spdmError 4 0, x, s) := by
  have hlate {i : Instr} {code : Nat} (hi : exec i s = effectOn s (spdmAs s src code m)) (hknown : code ∈ spdmCodes)
      (hrun : spdmRun s x code m = (spdmError 4 0, x, s)) (hcode : leAt m 1 1 = code) : SpdmAnswers s src i 0 (spdmError 4 0, x, s) :=
    spdmAnswers_plain hup hon hlen hx hstep hversion hi hcode hknown hrun rfl
  have hafter {i : Instr} {code : Nat} (hi : exec i s = effectOn s (spdmAs s src code m)) (hknown : code ∈ spdmCodes) (hcap : code ≠ 0xE1)
      (halg : code ≠ 0xE3) (hcode : leAt m 1 1 = code) (hstage : x.stage ≠ 3) : SpdmAnswers s src i 0 (spdmError 4 0, x, s) :=
    hlate hi hknown (spdmRun_late hcap halg hstage) hcode
  exact List.forall_mem_cons.2 ⟨fun hcode hstage => hlate rfl (by decide) ((if_pos rfl).trans (if_neg hstage)) hcode,
    List.forall_mem_cons.2 ⟨fun hcode hstage => hlate rfl (by decide) ((if_neg (by decide)).trans ((if_pos rfl).trans (if_neg hstage))) hcode,
      List.forall_mem_cons.2 ⟨hafter (code := 0x81) rfl (by decide) (by decide) (by decide), List.forall_mem_cons.2 ⟨hafter (code := 0x82) rfl (by decide) (by decide) (by decide),
        List.forall_mem_cons.2 ⟨hafter (code := 0x83) rfl (by decide) (by decide) (by decide), List.forall_mem_cons.2 ⟨hafter (code := 0xE0) rfl (by decide) (by decide) (by decide),
          List.forall_mem_nil _⟩⟩⟩⟩⟩⟩

end

theorem leAt_spdmAlgorithms (s : State) (x : SpdmSrc) (m : Bytes) : leAt (spdmLimit (spdmAlgorithms s x m).1) 1 1 = 0x63 :=
  congrArg (leAt · 1 1) (if_neg (show ¬1024 < 36 by decide))

/-- Settles O56: GET_VERSION answers every source; the other requests go by the step that the source is in. -/
theorem spdmIsAnswered : Obligations.SpdmIsAnswered := by
  intro s src m hup hlen bump kept
  refine ⟨fun hcode hversion => ?version, fun x hx hstep hversion => ?insteps⟩
  case version =>
    exact ⟨_, _, exec_getVersion hup (on_of_dictUp hup) hlen hcode hversion, spdmOf_setSpdm_same .., rfl, rfl, rfl, rfl, rfl, rfl,
      (odGet_odBump (setSpdm s _) _ _ _).trans (if_pos rfl), ⟨rfl, rfl, rfl, rfl, rfl, rfl⟩, rfl⟩
  case insteps =>
    intro answered chain
    exact ⟨fun hcode hstage => ⟨spdmAnswers_plain hup (on_of_dictUp hup) hlen hx hstep hversion rfl hcode (by decide)
        (spdmRun_capabilities hstage) rfl, rfl, rfl⟩,
      fun hcode hstage => ⟨spdmAnswers_plain hup (on_of_dictUp hup) hlen hx hstep hversion rfl hcode (by decide)
        (spdmRun_algorithms hstage) rfl, leAt_spdmAlgorithms s x m, rfl⟩,
      fun hcode hstage => spdmAnswers_plain hup (on_of_dictUp hup) hlen hx hstep hversion rfl hcode (by decide) (spdmRun_digests hstage) rfl,
      fun hcode hstage hslot hwithin => spdmAnswers_certificate hup (on_of_dictUp hup) hlen hx hstep hversion hcode hstage hslot hwithin,
      fun hcode hstage hslot hlong hsummary =>
        spdmAnswers_challenge hup (on_of_dictUp hup) hlen hx hstep hversion hcode hstage hslot hlong hsummary,
      fun hcode hstage hwhich =>
        ⟨spdmAnswers_measurements_unsigned hup (on_of_dictUp hup) hlen hx hstep hversion hcode hstage hwhich,
          spdmAnswers_measurements_signed hup (on_of_dictUp hup) hlen hx hstep hversion hcode hstage hwhich⟩,
      spdmAnswers_late hup (on_of_dictUp hup) hlen hx hstep hversion⟩

end Sys2Proof.Laws
end

section
/-! PROOFS. Images: O57. -/

namespace Sys2Proof.Laws

open Sys2Proof Sys2Proof.Machine

/-! ## Slots of the image store (R522, R534) -/

theorem slotMem_setSlotMem_same (s : State) (k : Nat) (m : Memory) : slotMem (setSlotMem s k m) k = m := by
  induction k with
  | zero => rfl
  | succ k => cases k <;> rfl

theorem setSlotMem_mem (s : State) (k : Nat) (m : Memory) : (setSlotMem s k m).mem = s.mem :=
  iteInduction (motive := fun t : State => t.mem = s.mem) (fun _ => rfl) fun _ =>
    iteInduction (motive := fun t : State => t.mem = s.mem) (fun _ => rfl) fun _ => rfl

/-- The outcome of the image store is no version of a slot. -/
theorem version_ne_outcome (k : Nat) : odKey 0xA201 (k + 1) ≠ odKey 0xA200 4 :=
  Nat.ne_of_gt (Nat.lt_of_lt_of_le (by decide : odKey 0xA200 4 < 0xA201 * 256) (Nat.le_add_right ..))

/-- The flash has programmed a free number of the bytes that the program buffer held (log entry 5). -/
def programmed (s : State) : State := { s with free := s.free + 1, fw.buffered := s.fw.buffered - Config.freeNat s.free }

theorem eraseSlot_other {s : State} (hother : slotBooted s ≠ imageTarget s) :
    eraseSlot s = imageOutcome (unverify (setSlotMem s (imageTarget s) []) (imageTarget s)) 0 := if_neg hother

section
variable {s : State} {b : Bytes}

/-- A chunk that does not lie within its slot is refused for good (R534). -/
theorem writeChunk_refused (hbad : b.length < 4 ∨ slotSize (imageTarget s) < leAt b 0 4 + (b.length - 4)) :
    (writeChunk s b).2 = imageOutcome (programmed s) 4 :=
  (congrArg Prod.snd (if_neg fun h => hbad.elim (Nat.not_lt.2 h.1) (Nat.not_lt.2 h.2.1))).trans
    (if_pos (hbad.imp_right fun h => h.trans_eq (congrArg _ List.length_drop.symm)))

/-- A chunk that the program buffer takes is stored, and its slot is no longer verified (R534, R535). -/
theorem writeChunk_stored (hlen : 4 ≤ b.length) (hfits : leAt b 0 4 + (b.length - 4) ≤ slotSize (imageTarget s))
    (hroom : s.fw.buffered + (b.length - 4) ≤ Config.programBuffer) :
    (writeChunk s b).2 = unverify (slotWrite { programmed s with fw.buffered := (programmed s).fw.buffered + (b.drop 4).length }
      (imageTarget s) (leAt b 0 4) (b.drop 4)) (imageTarget s) :=
  (congrArg Prod.snd (if_neg fun h => Nat.not_lt.2 (Nat.le_trans (Nat.add_le_add_right (Nat.sub_le ..) _) hroom) h.2.2)).trans
    (if_neg (not_or_intro (Nat.not_lt.2 hlen) (Nat.not_lt.2 ((congrArg _ List.length_drop).trans_le hfits))))

end

/-! ## Verification (R528) -/

/-- The outcome of a slot: of the first check that it fails, or VALID. -/
def verifyOutcome (s : State) (k : Nat) (failed : Option Nat) : Nat :=
  if failed = none then (if allComponentsOk s k = true then 2 else 9)
  else if failed = some 1 then 5
  else if failed = some 2 then (if keyMatches (manifestOf s k) = true ∧ keySlotState s (manifestOf s k).keySlot = 1 then 7 else 6)
  else if failed = some 3 then 6 else if failed = some 4 then 8 else 9

/-- Only a slot that fails no check shows its version. -/
def verified (s : State) (k : Nat) (failed : Option Nat) : State :=
  if failed = none ∧ allComponentsOk s k = true then odSet s (odKey 0xA201 (k + 1)) (manifestOf s k).version else s

theorem verifySlot_eq (s : State) : verifySlot s = imageOutcome (verified s (imageTarget s) (verifyStep s (imageTarget s)))
    (verifyOutcome s (imageTarget s) (verifyStep s (imageTarget s))) := by
  delta verifySlot
  dsimp only
  generalize verifyStep s (imageTarget s) = o
  induction o with
  | none =>
    exact iteInduction (motive := (· = _))
      (fun h => (congrArg₂ imageOutcome (if_pos ⟨rfl, h⟩ : verified s (imageTarget s) none = _) (if_pos h : verifyOutcome s (imageTarget s) none = 2)).symm)
      fun h => (congrArg₂ imageOutcome (if_neg fun hok => h hok.2 : verified s (imageTarget s) none = _) (if_neg h : verifyOutcome s (imageTarget s) none = 9)).symm
  | some n =>
    match n with
    | 0 => rfl
    | 1 => rfl
    | 2 =>
      exact congrArg (imageOutcome s)
        (ite_congr (propext (Bool.and_eq_true_iff.trans (and_congr_right' decide_eq_true_iff))) (fun _ => rfl) fun _ => rfl : _ = ite _ 7 6)
    | 3 => rfl
    | 4 => rfl
    | n + 5 => rfl

theorem verified_version (s : State) (k : Nat) (failed : Option Nat) : odGet (verified s k failed) (odKey 0xA201 (k + 1)) =
    if failed = none ∧ allComponentsOk s k = true then (manifestOf s k).version else odGet s (odKey 0xA201 (k + 1)) :=
  (apply_ite (odGet · _) ..).trans (congrArg (ite _ · _) (odGet_odSet_same ..))

theorem verified_mem (s : State) (k : Nat) (failed : Option Nat) : (verified s k failed).mem = s.mem :=
  ite_keeps State.mem rfl rfl

/-- The outcome v of a verification is shown, with the version of a slot that fails no check. -/
theorem verdict_shown (s : State) (k v : Nat) (failed : Option Nat) :
    (keepQueue s (imageOutcome (verified s k failed) v)).mem = s.mem ∧ odGet (keepQueue s (imageOutcome (verified s k failed) v)) (odKey 0xA200 4) = v ∧
      odGet (keepQueue s (imageOutcome (verified s k failed) v)) (odKey 0xA201 (k + 1)) =
        if failed = none ∧ allComponentsOk s k = true then (manifestOf s k).version else odGet s (odKey 0xA201 (k + 1)) :=
  ⟨verified_mem .., odGet_odSet_same .., (odGet_odSet ..).trans ((if_neg (version_ne_outcome _)).trans (verified_version ..))⟩

/-! ## COMMIT_SECURITY_STATE (R533) -/

theorem mem_addOnce {l : List Nat} {a n : Nat} : n ∈ addOnce l a ↔ n ∈ l ∨ n = a := by
  unfold addOnce
  split
  · next h =>
    have ha : a ∈ l := List.contains_iff_mem.1 h
    exact ⟨.inl, fun h => h.elim id fun h => h ▸ ha⟩
  · simp

theorem mem_foldl_addOnce {l : List Nat} {b : List Nat} {n : Nat} : n ∈ l.foldl addOnce b ↔ n ∈ b ∨ n ∈ l := by
  induction l generalizing b with
  | nil => exact (or_iff_left List.not_mem_nil).symm
  | cons a l ih => exact ih.trans ((or_congr_left mem_addOnce).trans (or_assoc.trans (or_congr_right List.mem_cons.symm)))

/-- The key slots that a commit revokes: those that the running bundle names but its own. -/
def commitNames (s : State) : List Nat := [1, 2, 3, 4].filter (fun n => s.fw.revoke.testBit (n - 1) && decide (n ≠ s.fw.keySlot))

theorem mem_commitNames {s : State} {n : Nat} (hone : 1 ≤ n) (hfour : n ≤ 4) :
    n ∈ commitNames s ↔ s.fw.revoke.testBit (n - 1) = true ∧ n ≠ s.fw.keySlot :=
  List.mem_filter.trans ((and_iff_right ((by decide : ∀ n < 5, 1 ≤ n → n ∈ [1, 2, 3, 4]) n (Nat.lt_succ_of_le hfour) hone)).trans
    (Bool.and_eq_true_iff.trans (and_congr_right' decide_eq_true_iff)))

/-- The fuses that are shown are entries of the dictionary alone. -/
theorem showFuses_fw (s : State) : (showFuses s).fw = s.fw :=
  foldl_keeps State.fw (f := fun t n => odSet t (odKey 0x9000 n) (keySlotState t n)) (fun _ _ => rfl) [1, 2, 3, 4] s

theorem commitSecurity_ready {s : State} (hslot : slotBooted s ≠ 2) (hready : devState s = 1 ∨ devState s = 2) :
    commitSecurity s = odSet (showFuses { s with
      fw.svn := some (max (fusedSvn s) s.fw.bundleSvn), fw.revoked := (commitNames s).foldl addOnce s.fw.revoked }) (odKey 0xA000 5) 1 :=
  (if_neg hslot).trans (if_neg fun h => hready.elim h.1 h.2)

/-! ## O57 -/

/-- Settles O57: every command of the image store goes by the target and by the slot that booted. -/
theorem imagesAreStored : Obligations.ImagesAreStored := by
  intro s hup k
  have runs {t u : State} (h : t = u) : effectOn s (if dictUp s then t else s) = .next (keepQueue s u) :=
    effectOn_of_eq (on_of_dictUp hup) ((if_pos hup).trans h)
  have stores {src : Src} {b : Bytes} (hlen : b.length ≤ 1024) {u : State} (h : (writeChunk s b).2 = u) :
      exec (.imageChunk src b) s = .next (keepQueue s u) :=
    effectOn_of_eq (on_of_dictUp hup) ((if_pos (and_of_true hup (decide_eq_true hlen))).trans h)
  exact ⟨fun n => ⟨fun hrunning => runs (if_pos hrunning), fun hother => ⟨_, runs (if_neg hother),
      (odGet_odSet ..).trans ((if_neg (by decide)).trans (odGet_odSet_same ..)), odGet_odSet_same .., rfl⟩⟩,
    fun hrunning => runs (if_pos hrunning), fun hother => ⟨_, runs (eraseSlot_other hother),
      slotMem_setSlotMem_same .., (odGet_odSet ..).trans ((if_neg (version_ne_outcome _)).trans (odGet_odSet_same ..)), odGet_odSet_same ..,
      setSlotMem_mem ..⟩,
    fun src b hlen => ⟨fun hbad => ⟨_, stores hlen (writeChunk_refused hbad), odGet_odSet_same .., rfl⟩,
      fun hfour hfits hroom => ⟨_, stores hlen (writeChunk_stored hfour hfits hroom), slotMem_setSlotMem_same .., odGet_odSet_same ..,
        setSlotMem_mem ..⟩⟩,
    ⟨_, runs (verifySlot_eq s), verdict_shown ..⟩,
    fun hrecovery => runs (if_pos hrecovery),
    fun hslot hready => ⟨_, runs (commitSecurity_ready hslot hready), odGet_odSet_same .., congrArg FwSt.svn (showFuses_fw _),
      fun n hn => (congrArg FwSt.revoked (showFuses_fw _) : _).symm ▸ mem_foldl_addOnce.2 (.inl hn),
      fun n hone hfour => (congrArg FwSt.revoked (showFuses_fw _) : _).symm ▸
        mem_foldl_addOnce.trans (or_congr_right (mem_commitNames hone hfour))⟩⟩

end Sys2Proof.Laws
end

section
/-! PROOFS. Processors: O58. -/

namespace Sys2Proof.Laws

open Sys2Proof Sys2Proof.Machine

/-- A device that is up, whose scribe core 0 has failed once and has then run without a further fault. -/
def onceFailed : State := odSet Tests.ready (odKey 0xA103 0) 1

/-- The fault of a processor that has run for ten seconds clears its count of failures (R546). -/
theorem processorFault_clears_count :
    ∃ t, exec (.processorFault 0 false) onceFailed = .next t ∧ odGet t (odKey 0xA103 0) = 0 :=
  ⟨_, rfl, by decide +kernel⟩

/-- The restart alone leaves the count of failures. -/
theorem beginRestart_keeps_count : odGet (keepQueue onceFailed (beginRestart onceFailed 0 false)) (odKey 0xA103 0) = 1 := by
  decide +kernel

/-- Refutes O58: a fault after ten seconds of running clears OD 0xA103 of its processor before the restart, and the statement's restart
leaves the count, here of scribe core 0 that had failed once. -/
theorem not_processorsAreKept : ¬ Obligations.ProcessorsAreKept := by
  unfold Obligations.ProcessorsAreKept
  intro h
  obtain ⟨hrestarts, -⟩ := h onceFailed (by decide +kernel)
  obtain ⟨-, hfaults⟩ := hrestarts 0 false (by decide +kernel) (by decide +kernel)
  obtain ⟨hlate, -⟩ := hfaults (by decide +kernel)
  have hnever : ¬∃ t, tblFind onceFailed.fw.ranSince (0 : Fin 64).val = some t ∧ onceFailed.now < t + 10000000000 := by
    rintro ⟨t, hran, -⟩
    exact Option.some_ne_none t hran.symm
  obtain ⟨-, hstatement⟩ := hlate hnever (by decide +kernel)
  obtain ⟨t, hmodel, hcount⟩ := processorFault_clears_count
  have hsame : t = keepQueue onceFailed (beginRestart onceFailed 0 false) :=
    Host.Outcome.next.inj (hmodel.symm.trans hstatement)
  exact absurd (hcount.symm.trans (hsame ▸ beginRestart_keeps_count)) (by decide)

end Sys2Proof.Laws
end

section
/-! PROOFS. Bring-up: O59. -/

namespace Sys2Proof.Laws

open Sys2Proof Sys2Proof.Machine

/-! ## Causes of degradation (R568) and reports (R569) -/

/-- Settling the device state sets an entry, if anything. -/
theorem settleState_keeps {β : Type} (g : State → β) (hod : ∀ s k v, g (odSet s k v) = g s) (s : State) : g (settleState s) = g s :=
  ite_keeps g (hod ..) rfl

theorem odGet_settleState_of_ne (s : State) {k : Nat} (hk : k ≠ odKey 0xB000 1) : odGet (settleState s) k = odGet s k :=
  ite_keeps (odGet · k) ((odGet_odSet ..).trans (if_neg hk)) rfl

/-- Settling makes no device FAILED and none whole again. -/
theorem devState_settleState_eq_failed (s : State) : devState (settleState s) = 3 ↔ devState s = 3 :=
  iteInduction (motive := fun t => devState t = 3 ↔ devState s = 3)
    (fun hready => iff_of_false
      ((congrArg (· ≠ 3) (odGet_odSet_same ..)).mpr (iteInduction (motive := (· ≠ 3)) (fun _ => by decide) fun _ => by decide))
      fun h => hready.elim (fun hone => absurd (hone.symm.trans h) (by decide)) fun htwo => absurd (htwo.symm.trans h) (by decide))
    fun _ => Iff.rfl

/-- A cause changes entries alone. -/
theorem setCause_keeps {β : Type} (g : State → β) (hod : ∀ s k v, g (odSet s k v) = g s) (s : State) (bit : Nat) (on : Bool) :
    g (setCause s bit on) = g s :=
  (settleState_keeps g hod _).trans (hod ..)

theorem odGet_setCause_of_ne (s : State) (bit : Nat) (on : Bool) {k : Nat} (hstate : k ≠ odKey 0xB000 1) (hcauses : k ≠ odKey 0xB000 3) :
    odGet (setCause s bit on) k = odGet s k :=
  (odGet_settleState_of_ne _ hstate).trans ((odGet_odSet ..).trans (if_neg hcauses))

theorem devState_setCause_eq_failed (s : State) (bit : Nat) (on : Bool) : devState (setCause s bit on) = 3 ↔ devState s = 3 :=
  (devState_settleState_eq_failed _).trans (Eq.congr_left ((odGet_odSet ..).trans (if_neg (by decide))))

/-- A report touches the log, the strings and what is sent. -/
theorem stageReport_keeps {β : Type} (g : State → β) (hlog : ∀ s n a, g (logEv s n a) = g s) (hblob : ∀ s k b, g (blobSet s k b) = g s)
    (hsend : ∀ s n b, g (sendNotify s n b) = g s) (s : State) (k outcome start t : Nat) (items : List Item) :
    g (stageReport s k outcome start t items) = g s := by
  unfold stageReport
  exact (hsend ..).trans ((hblob ..).trans (foldl_keeps g (fun s i => hlog s _ _) _ _))

/-- A stage that closes reports, and nothing of contexts or tiers changes with it. -/
theorem closeStage_keeps {β : Type} (g : State → β) (hod : ∀ s k v, g (odSet s k v) = g s) (hlog : ∀ s n a, g (logEv s n a) = g s)
    (hblob : ∀ s k b, g (blobSet s k b) = g s) (hsend : ∀ s n b, g (sendNotify s n b) = g s) (s : State) (k outcome start : Nat) (items : List Item) :
    g (closeStage s k outcome start items) = g s :=
  (stageReport_keeps g hlog hblob hsend ..).trans (hod ..)

theorem closeStage_iso (s : State) (k outcome start : Nat) (items : List Item) : (closeStage s k outcome start items).iso = s.iso :=
  closeStage_keeps State.iso (fun _ _ _ => rfl) (fun _ _ _ => rfl) (fun _ _ _ => rfl) (fun _ _ _ => rfl) ..

theorem closeStage_tier (s : State) (k outcome start : Nat) (items : List Item) : (closeStage s k outcome start items).tier = s.tier :=
  closeStage_keeps State.tier (fun _ _ _ => rfl) (fun _ _ _ => rfl) (fun _ _ _ => rfl) (fun _ _ _ => rfl) ..

/-! ## Voltages shown (R623) -/

/-- Showing a voltage changes two entries of its die and takes a free value. -/
theorem odGet_showVolt (s : State) (d k : Nat) (hpace : k ≠ odKey 0xD004 d) :
    odGet (showVolt s d) k = if k = odKey 0xD005 d then coreVolt s d else odGet s k := by
  unfold showVolt draw
  dsimp only
  rw [odGet_odSet, if_neg hpace, odGet_odSet]
  rfl

/-- What the entries of voltages and paces are not. -/
def OffVolts (k : Nat) : Prop := ∀ d, k ≠ odKey 0xD004 d ∧ k ≠ odKey 0xD005 d

theorem offVolts_of_lt {k : Nat} (hk : k < 0xD004 * 256) : OffVolts k := fun _ =>
  ⟨Nat.ne_of_lt (Nat.lt_of_lt_of_le hk (Nat.le_add_right ..)),
    Nat.ne_of_lt (Nat.lt_of_lt_of_le hk (Nat.le_trans (by decide) (Nat.le_add_right (0xD005 * 256) _)))⟩

theorem odGet_showVolt_of_offVolts {k : Nat} (hk : OffVolts k) (s : State) (d : Nat) : odGet (showVolt s d) k = odGet s k :=
  (odGet_showVolt s d k (hk d).1).trans (if_neg (hk d).2)

/-- What every governor leaves when it chooses its request is left when all of them do. -/
theorem freeGovernors_keeps {β : Type} (g : State → β) (hdraw : ∀ s, g (draw s).2 = g s) (hrequest : ∀ s d v, g (setRequest s d v) = g s)
    (s : State) : g (freeGovernors s) = g s := by
  unfold freeGovernors
  exact foldl_keeps g (fun s d => (hrequest (chooseVolt s d).2 d _).trans (hdraw s)) _ _

theorem odGet_freeGovernors_of_offVolts {k : Nat} (hk : OffVolts k) (s : State) : odGet (freeGovernors s) k = odGet s k :=
  freeGovernors_keeps (odGet · k) (fun _ => rfl) (fun _ _ _ => odGet_showVolt_of_offVolts hk _ _) s

/-! ## Stage 6 (R567) -/

/-- Stage 6 begins: the time of the bring-up stands in the dictionary, and the wish for training in full is cleared. -/
def stage6Begun (s : State) : State :=
  let s := odSet s (odKey 0xB000 5) (min ((s.now - s.boot.goodAt) / 1000000) (2 ^ 32 - 1))
  odSet { s with dict.unsaved := addOnce s.dict.unsaved (odKey 0xB001 1) } (odKey 0xB001 1) 0

theorem odGet_stage6Begun (s : State) {k : Nat} (htime : k ≠ odKey 0xB000 5) (htrain : k ≠ odKey 0xB001 1) :
    odGet (stage6Begun s) k = odGet s k :=
  (odGet_odSet ..).trans ((if_neg htrain).trans ((odGet_odSet ..).trans (if_neg htime)))

/-- The state in which stage 6 decides on admission: the ports have given their causes, and the governors run. -/
def governed (s : State) : State := freeGovernors (portCauses (stage6Begun s))

theorem portCauses_keeps {β : Type} (g : State → β) (hod : ∀ s k v, g (odSet s k v) = g s) (s : State) : g (portCauses s) = g s :=
  (setCause_keeps g hod ..).trans (setCause_keeps g hod ..)

/-- Admission is decided on. -/
def admissionSet (s : State) : State := if devState s = 3 then closeStage s 6 2 0 [⟨locDevice s, 0x0601, 3, 3⟩] else becomeReady s

theorem governed_keeps {β : Type} (g : State → β) (hod : ∀ s k v, g (odSet s k v) = g s) (hdraw : ∀ s, g (draw s).2 = g s)
    (hrequest : ∀ s d v, g (setRequest s d v) = g s) (hunsaved : ∀ s l, g { s with dict.unsaved := l } = g s) (s : State) :
    g (governed s) = g s :=
  (freeGovernors_keeps g hdraw hrequest _).trans ((portCauses_keeps g hod _).trans ((hod ..).trans ((hunsaved ..).trans (hod ..))))

theorem governed_iso (s : State) : (governed s).iso = s.iso :=
  governed_keeps State.iso (fun _ _ _ => rfl) (fun _ => rfl) (fun _ _ _ => rfl) (fun _ _ => rfl) s

theorem governed_tier (s : State) : (governed s).tier = s.tier :=
  governed_keeps State.tier (fun _ _ _ => rfl) (fun _ => rfl) (fun _ _ _ => rfl) (fun _ _ => rfl) s

theorem devState_governed_eq_failed (s : State) : devState (governed s) = 3 ↔ devState s = 3 :=
  (Eq.congr_left (odGet_freeGovernors_of_offVolts (offVolts_of_lt (by decide)) _)).trans ((devState_setCause_eq_failed ..).trans
    ((devState_setCause_eq_failed ..).trans (Eq.congr_left (odGet_stage6Begun s (by decide) (by decide)))))

theorem odGet_governed_stop (s : State) : odGet (governed s) (odKey 0x3006 6) = odGet s (odKey 0x3006 6) :=
  (odGet_freeGovernors_of_offVolts (offVolts_of_lt (by decide)) _).trans ((odGet_setCause_of_ne _ _ _ (by decide) (by decide)).trans
    ((odGet_setCause_of_ne _ _ _ (by decide) (by decide)).trans (odGet_stage6Begun s (by decide) (by decide))))

/-- The bring-up is over. -/
def opened (s : State) : State := { s with boot.next := some 7 }

theorem runStage6_eq (s : State) : runStage6 s = nextCommand (opened (admissionSet (governed s))) := by
  dsimp only [runStage6, governed, stage6Begun, admissionSet, opened]

theorem admissionSet_iso (s : State) : (admissionSet s).iso = s.iso :=
  ite_keeps State.iso (closeStage_iso ..) (closeStage_iso ..)

theorem admissionSet_failed {s : State} (hfailed : devState s = 3) : (admissionSet s).tier.admitting = s.tier.admitting :=
  congrArg TierSt.admitting ((congrArg State.tier (if_pos hfailed)).trans (closeStage_tier ..))

theorem admissionSet_ready {s : State} (hready : devState s ≠ 3) :
    (admissionSet s).tier.admitting = decide (odGet s (odKey 0x3006 6) = 0) :=
  (congrArg TierSt.admitting ((congrArg State.tier (if_neg hready)).trans (closeStage_tier ..))).trans
    (congrArg (fun n => decide (n = 0)) ((odGet_odSet ..).trans (if_neg (by decide))))

/-- Without a waiting command nothing follows the opening of admission. -/
theorem nextCommand_opened {s : State} (hnone : s.iso.commands = []) : nextCommand (opened s) = opened s :=
  runCommands_of_none (s := opened s) hnone _

theorem opened_admitting (s : State) : (opened s).tier.admitting = s.tier.admitting := rfl

theorem opened_next (s : State) : (opened s).boot.next = some 7 := rfl

section
variable {s : State} (hnone : s.iso.commands = [])
include hnone

theorem runStage6_of_none : runStage6 s = opened (admissionSet (governed s)) :=
  (runStage6_eq s).trans (nextCommand_opened ((congrArg IsoSt.commands ((admissionSet_iso _).trans (governed_iso s))).trans hnone))

theorem runStage6_admits : (runStage6 s).tier.admitting = (admissionSet (governed s)).tier.admitting :=
  (congrArg (fun t : State => t.tier.admitting) (runStage6_of_none hnone)).trans (opened_admitting _)

theorem runStage6_opens : (runStage6 s).boot.next = some 7 ∧ (devState s = 3 → (runStage6 s).tier.admitting = s.tier.admitting) ∧
    (devState s ≠ 3 → (runStage6 s).tier.admitting = decide (odGet s (odKey 0x3006 6) = 0)) :=
  ⟨(congrArg (fun t : State => t.boot.next) (runStage6_of_none hnone)).trans (opened_next _),
    fun h => (runStage6_admits hnone).trans ((admissionSet_failed ((devState_governed_eq_failed s).2 h)).trans
      (congrArg TierSt.admitting (governed_tier s))),
    fun h => (runStage6_admits hnone).trans ((admissionSet_ready (mt (devState_governed_eq_failed s).1 h)).trans
      (congrArg (fun n => decide (n = 0)) (odGet_governed_stop s)))⟩

end

/-! ## Engines (R577, R578) -/

theorem odGet_mapCauses_node (s : State) : odGet (mapCauses s) (odKey 0x6000 1) = odGet s (odKey 0x6000 1) :=
  (odGet_setCause_of_ne _ _ _ (by decide) (by decide)).trans ((odGet_setCause_of_ne _ _ _ (by decide) (by decide)).trans
    ((odGet_odSet ..).trans (if_neg (by decide))))

section
variable {s u : State} (hnode : odGet u (odKey 0x6000 1) = odGet s (odKey 0x6000 1))
include hnode

/-- A location code takes only the node number from the dictionary. -/
theorem locCode_congr (level die kind cl e p : Nat) : locCode u level die kind cl e p = locCode s level die kind cl e p :=
  congrArg (fun n => level + die * 2 ^ 8 + kind * 2 ^ 16 + cl * 2 ^ 19 + e * 2 ^ 24 + p * 2 ^ 28 + field n 0 12 * 2 ^ 32) hnode

theorem locPhys_congr (die cl p : Nat) : locPhys u die cl p = locPhys s die cl p :=
  ite_congr rfl (fun _ => locCode_congr hnode ..) fun _ => ite_congr rfl (fun _ => locCode_congr hnode ..) fun _ => locCode_congr hnode ..

end

/-- A record of the repair map is no node number. -/
theorem node_ne_map (die cl : Nat) : odKey 0x6000 1 ≠ odKey (0xB100 + die) cl :=
  Nat.ne_of_lt (Nat.lt_of_lt_of_le (by decide : odKey 0x6000 1 < 0xB100 * 256)
    (Nat.le_trans (Nat.mul_le_mul_right _ (Nat.le_add_right ..)) (Nat.le_add_right ..)))

theorem odGet_setMap_node (s : State) (die cl v : Nat) : odGet (setMap s die cl v) (odKey 0x6000 1) = odGet s (odKey 0x6000 1) :=
  (odGet_odSet ..).trans (if_neg (node_ne_map die cl))

theorem markPhys_node (s : State) (die cl p : Nat) : odGet (markPhys s die cl p).2 (odKey 0x6000 1) = odGet s (odKey 0x6000 1) := by
  refine ite_keeps (fun r : Option (Nat × Nat) × State => odGet r.2 (odKey 0x6000 1)) rfl ?_
  dsimp only
  generalize logicalOf _ die cl p = o
  induction o with
  | none => exact odGet_setMap_node ..
  | some e => exact (odGet_setMap_node ..).trans (odGet_setMap_node ..)

theorem physCount_le_nine (cl : Nat) : physCount cl ≤ 9 := iteInduction (motive := (· ≤ 9)) (fun _ => by decide) fun _ => by decide

/-- A failed engine's logical number has gone to the spare, and its work begins again. -/
def sparedState (s u : State) (die cl p e dest : Nat) : State :=
  redoWork (odBump (logEv (mapCauses u) "ENGINE_SPARED" [locPhys s die cl p, e, dest]) (odKey 0xB200 1) 1) die cl e

/-- An engine with a spare fails: its logical number goes to the spare (R575, R578). -/
theorem failEngine_spared {s u : State} {die cl p e dest : Nat} (hup : s.boot.next = some 7) (hp : p < physCount cl)
    (hmark : markPhys s die cl p = (some (e, dest), u)) (hdest : dest ≠ 15) : failEngine s die cl p = sparedState s u die cl p e dest := by
  refine (if_neg (not_not_intro hup)).trans ((if_neg (Nat.ne_of_lt (Nat.lt_of_lt_of_le hp (physCount_le_nine cl)))).trans
    ((if_neg (Nat.not_le.2 hp)).trans ?_))
  have hnode : odGet (mapCauses u) (odKey 0x6000 1) = odGet s (odKey 0x6000 1) :=
    (odGet_mapCauses_node u).trans ((congrArg (fun r => odGet r.2 (odKey 0x6000 1)) hmark).symm.trans (markPhys_node s die cl p))
  exact hmark.symm ▸ congrArg (redoWork · die cl e) ((if_neg hdest).trans
    (congrArg (fun l => odBump (logEv (mapCauses u) "ENGINE_SPARED" [l, e, dest]) (odKey 0xB200 1) 1) (locPhys_congr hnode die cl p)))

/-! ## O59 -/

/-- The half that TRAINING_SAVE writes, and its settings (R574). -/
def savedTraining (s : State) (gen : Nat) : Training :=
  ⟨true, gen, s.fw.interface, { s.fw.learned with spares := s.fab.sparesUsed }, mapEntries s⟩

/-- TRAINING_SAVE writes the half that is not the newer one, h. -/
def trainingSaved (s : State) (h : Nat) : State :=
  let gen := (if h = 2 then 0 else (trainHalf s h).gen) + 1
  let dest := if h = 0 then 1 else 0
  odSet (odSet (if dest = 0 then { s with fw.train0 := savedTraining s gen } else { s with fw.train1 := savedTraining s gen })
    (odKey 0xB002 1) dest) (odKey 0xB002 2) (gen % 2 ^ 32)

theorem trainingSaved_mem (s : State) (h : Nat) : (trainingSaved s h).mem = s.mem := ite_keeps State.mem rfl rfl

theorem trainingSaved_of_first (s : State) {h : Nat} (hhalf : h = 0) :
    (trainingSaved s h).fw.train1 = savedTraining s (s.fw.train0.gen + 1) ∧ (trainingSaved s h).fw.train0 = s.fw.train0 :=
  hhalf.symm ▸ ⟨rfl, rfl⟩

theorem trainingSaved_of_not_first (s : State) {h : Nat} (hhalf : h ≠ 0) :
    (trainingSaved s h).fw.train0 = savedTraining s ((if h = 2 then 0 else s.fw.train1.gen) + 1) ∧ (trainingSaved s h).fw.train1 = s.fw.train1 := by
  induction h with
  | zero => exact absurd rfl hhalf
  | succ n => exact ⟨rfl, rfl⟩

/-- A stage whose turn it is runs. -/
theorem effectOn_stageRuns {s t : State} {k : Nat} (hruns : stageRuns s k = true) :
    effectOn s (if stageRuns s k then t else s) = .next (keepQueue s t) :=
  effectOn_of_eq (Bool.and_eq_true_iff.1 (Bool.and_eq_true_iff.1 (Bool.and_eq_true_iff.1 hruns).1).1).1 (if_pos hruns)

/-- A stage whose turn it is not does nothing. -/
theorem effectOn_stage_waits {s t : State} {b : Bool} (hon : s.power.on = true) (hwaits : b = false) :
    effectOn s (if b then t else s) = .next s :=
  effectOn_of_eq (u := s) hon (if_of_false hwaits)

section
variable {s : State} (hon : s.power.on = true)
include hon

theorem exec_stage0_of_next (a b : Bool) (hhalted : s.boot.halted = false) (hnext : s.boot.next = some 0) :
    exec (.stage0 a b) s = .next (keepQueue s (runStage0 s a b)) :=
  effectOn_of_eq hon (if_pos (and_of_true (and_of_true hon (congrArg not hhalted)) (decide_eq_true hnext)))

/-- Without a management die the bring-up halts, and the fault pin is asserted. -/
theorem exec_stage0_halts {a b : Bool} (hhalted : s.boot.halted = false) (hnext : s.boot.next = some 0) (ha : a = false) (hb : b = false) :
    ∃ t, exec (.stage0 a b) s = .next t ∧ t.boot.halted = true ∧ t.power.faultLow = true ∧ odGet t (odKey 0xD008 1) = 4 ∧ t.boot.next = none :=
  ha.symm ▸ hb.symm ▸ ⟨_, exec_stage0_of_next hon false false hhalted hnext, rfl, rfl, odGet_odSet_same .., rfl⟩

theorem exec_stage_waits (f : List Finding) : ∀ p ∈ [(1, Instr.stage1 f), (2, .stage2 f), (3, .stage3 f), (4, .stage4 f), (5, .stage5 f),
    (6, .stage6)], stageRuns s p.1 = false → exec p.2 s = .next s :=
  List.forall_mem_cons.2 ⟨effectOn_stage_waits hon, List.forall_mem_cons.2 ⟨effectOn_stage_waits hon,
    List.forall_mem_cons.2 ⟨effectOn_stage_waits hon, List.forall_mem_cons.2 ⟨effectOn_stage_waits hon,
      List.forall_mem_cons.2 ⟨fun hwaits => effectOn_stage_waits hon (congrArg (· && s.boot.held5.isNone) hwaits),
        List.forall_mem_cons.2 ⟨effectOn_stage_waits hon, List.forall_mem_nil _⟩⟩⟩⟩⟩⟩

theorem exec_trainingSave_of_up (hup : s.boot.next = some 7) :
    exec .trainingSave s = .next (keepQueue s (trainingSaved s (newerHalf s))) :=
  effectOn_of_eq hon (if_neg (not_not_intro hup))

/-- An engine with a spare, found failed in any of the three ways (R577, R578). -/
theorem exec_engineFails (d : Fin 24) (c : Fin 18) {p e dest : Nat} {u : State} (hup : s.boot.next = some 7) (hp : p < physCount c.val)
    (hmark : markPhys s d.val c.val p = (some (e, dest), u)) (hdest : dest ≠ 15) :
    (∀ h : p < 10, exec (.engineFail d c ⟨p, h⟩) s = .next (keepQueue s (sparedState s u d.val c.val p e dest))) ∧
      (∀ h : p < 9, exec (.engineHang d c ⟨p, h⟩) s = .next (keepQueue s (sparedState s u d.val c.val p e dest))) ∧
      ∀ code : BitVec 64, physNamed code.toNat = some (d.val, c.val, p) →
        exec (.failPhysicalEngine code) s = .next (keepQueue s (sparedState s u d.val c.val p e dest)) :=
  have hspared := failEngine_spared hup hp hmark hdest
  ⟨fun _ => effectOn_of_eq hon hspared, fun _ => effectOn_of_eq hon hspared, fun code hcode => effectOn_of_eq hon
    (((congrArg (fun o : Option (Nat × Nat × Nat) => match o with
      | some (d, c, e) => failEngine s d c e
      | none => s) hcode :) : failNamed s code.toNat = _).trans hspared)⟩

end

/-- Settles O59: each stage runs at its turn and hands on to the next, and a failed engine with a spare is replaced. -/
theorem bringUpRuns : Obligations.BringUpRuns := by
  intro s
  exact ⟨fun hoff hlocked hreset => ⟨_, next_keepQueue_congr ((if_of_false (or_of_false hoff hlocked)).trans (if_of_false hreset)), rfl, rfl, rfl, rfl⟩,
    fun hon => ⟨fun a b hhalted hnext => ⟨exec_stage0_of_next hon a b hhalted hnext, exec_stage0_halts hon hhalted hnext⟩,
      fun _ hruns => effectOn_stageRuns hruns, fun _ hruns => effectOn_stageRuns hruns, fun _ hruns => effectOn_stageRuns hruns,
      fun _ hruns => ⟨effectOn_stageRuns hruns, rfl⟩,
      fun _ hruns hheld => effectOn_of_eq hon (if_pos (and_of_true hruns (congrArg Option.isNone hheld))),
      fun hruns => ⟨effectOn_stageRuns hruns, runStage6_opens⟩, exec_stage_waits hon, fun hshort => effectOn_of_eq hon (if_pos hshort),
      fun hup => ⟨_, exec_trainingSave_of_up hon hup, trainingSaved_of_first s, trainingSaved_of_not_first s, trainingSaved_mem ..⟩,
      fun d c _ _ _ _ hup hp hmark hdest => exec_engineFails hon d c hup hp hmark hdest,
      fun hup hinterval _ => effectOn_of_eq hon (if_neg (not_or_intro (not_not_intro hup) hinterval)),
      fun hdict => ⟨_, effectOn_of_eq hon (if_pos hdict), rfl, rfl, rfl⟩⟩⟩

end Sys2Proof.Laws
end

section
/-! PROOFS. Power and heat: O60. -/

namespace Sys2Proof.Laws

open Sys2Proof Sys2Proof.Machine

/-! ## The supply and the pins (R620, R634-R637) -/

/-- RESET during no flush resets at once where admission is closed, and asks for the flush where it is open (R635). -/
theorem exec_reset_of_idle {s : State} (hon : s.power.on = true) (hidle : s.tier.pfail = .idle) :
    (s.tier.admitting = false → exec .reset s = .next (keepQueue s (resetModule { s with power.resetLow := true }))) ∧
      (s.tier.admitting = true → exec .reset s = .next (keepQueue s (flushThen { s with power.resetLow := true } 2))) :=
  ⟨fun hclosed => next_keepQueue_congr ((if_not_of_true hon).trans (hidle.symm ▸ if_of_false hclosed)),
    fun hopen => next_keepQueue_congr ((if_not_of_true hon).trans (hidle.symm ▸ if_pos hopen))⟩

/-- The supply of the field programming is enabled or not. -/
def fspiSet (s : State) (b : Bool) : State := { s with power.fspiLow := b }

theorem exec_fspiEnable (s : State) : exec .fspiEnable s = .next (fspiSet s (s.power.fspiLow || s.power.resetLow)) :=
  (Bool.eq_false_or_eq_true s.power.resetLow).elim
    (fun hlow => (next_keepQueue_congr (u := fspiSet s true) (if_pos hlow)).trans
      (congrArg (fun b => Host.Outcome.next (fspiSet s b)) ((congrArg (s.power.fspiLow || ·) hlow).trans (Bool.or_true _)).symm))
    fun hhigh => (next_keepQueue_congr (u := s) (if_of_false hhigh)).trans
      (congrArg (fun b => Host.Outcome.next (fspiSet s b)) ((congrArg (s.power.fspiLow || ·) hhigh).trans (Bool.or_false _)).symm)

/-- The module has left reset; one with power that nothing holds back is brought up (R635). -/
def resetReleased (s : State) : State :=
  if s.power.on && decide (s.boot.next = none) && !s.boot.halted && decide (s.tier.pfail = .idle) then
    beginBringUp { s with power.resetLow := false, power.fspiLow := false }
  else { s with power.resetLow := false, power.fspiLow := false }

theorem exec_resetRelease_of_low {s : State} (hlow : s.power.resetLow = true) :
    exec .resetRelease s = .next (keepQueue s (resetReleased s)) := next_keepQueue_congr (if_not_of_true hlow)

theorem resetReleased_power (s : State) : (resetReleased s).power = { s.power with resetLow := false, fspiLow := false } :=
  ite_keeps State.power rfl rfl

theorem resetReleased_mem (s : State) : (resetReleased s).mem = s.mem := ite_keeps State.mem rfl rfl

theorem resetReleased_begins {s : State} (hon : s.power.on = true) (hnext : s.boot.next = none) (hhalted : s.boot.halted = false)
    (hidle : s.tier.pfail = .idle) : (resetReleased s).boot.next = some 0 :=
  congrArg (fun t : State => t.boot.next) (if_pos (and_of_true (and_of_true (and_of_true hon (decide_eq_true hnext)) (congrArg not hhalted))
    (decide_eq_true hidle)))

/-! ## Voltages (R623-R625) -/

/-- A die whose voltage is forced shows 600 mV. -/
theorem coreVolt_of_forced {s : State} {d : Nat} (hforced : (tblFind s.power.tripped d).isSome ∨ s.fw.loopLost.contains d = true) :
    coreVolt s d = 600 := if_pos hforced

theorem voltEntry_ne_paceEntry (d : Nat) : odKey 0xD005 d ≠ odKey 0xD004 d := mt (odKey_eq_odKey_iff ..).1 (by decide)

/-- What is shown of a die is its core voltage. -/
theorem odGet_showVolt_same (s : State) (d : Nat) : odGet (showVolt s d) (odKey 0xD005 d) = coreVolt s d :=
  (odGet_showVolt s d _ (voltEntry_ne_paceEntry d)).trans (if_pos rfl)

theorem requestOf_setRequest (s : State) (d v : Nat) : requestOf (setRequest s d v) d = v :=
  congrArg (Option.getD · 720) ((tblFind_tblSet ..).trans (if_pos rfl))

section
variable {s : State} {d : Nat} (hroom : 600 < requestOf s d)
include hroom

theorem lowerRequest_of_room : lowerRequest s d = setRequest (odBump (chooseVolt s d).2 (odKey 0xD007 1) 1) d
    (min (chooseVolt s d).1 (requestOf s d - 1)) := if_neg (Nat.not_le.2 hroom)

/-- The governor's free choice is below the request that stood. -/
theorem requestOf_lowerRequest_lt : requestOf (lowerRequest s d) d < requestOf s d :=
  ((congrArg (requestOf · d) (lowerRequest_of_room hroom)).trans (requestOf_setRequest ..)).trans_lt
    (Nat.lt_of_le_of_lt (Nat.min_le_right ..) (Nat.sub_lt (Nat.lt_trans (by decide) hroom) Nat.one_pos))

end

theorem lowerRequest_mem (s : State) (d : Nat) : (lowerRequest s d).mem = s.mem := ite_keeps State.mem rfl rfl

/-! ## The coolant (R641) -/

/-- The two sensors of the coolant are shown. -/
def coolantShown (s : State) (i o : Int) : State := odSet (odSet s (odKey 0xD006 1) (ofSigned 32 i)) (odKey 0xD006 2) (ofSigned 32 o)

/-- A warm outlet is an event. -/
def coolantTaken (s : State) (i o : Int) : State :=
  if 5500 < o then logEv (coolantShown s i o) "COOLANT_WARM" [ofSigned 32 o] else coolantShown s i o

section
variable (s : State) (i o : Int)

theorem odGet_coolantTaken (k : Nat) : odGet (coolantTaken s i o) k = odGet (coolantShown s i o) k := ite_keeps (odGet · k) rfl rfl

theorem coolantTaken_warm (hwarm : 5500 < o) : coolantTaken s i o = logEv (coolantShown s i o) "COOLANT_WARM" [ofSigned 32 o] := if_pos hwarm

theorem coolantTaken_cool (hcool : o ≤ 5500) : coolantTaken s i o = coolantShown s i o := if_neg (not_lt.2 hcool)

end

section
variable {s : State} (hon : s.power.on = true)
include hon

/-! ## The ceiling, trips and shutdowns (R625-R631, R641) -/

/-- A sag that PFAIL_L has not announced begins the flush, or stops a bring-up. -/
theorem exec_pfailUnsignalled_of_idle (hhigh : s.power.pfailLow = false) (hidle : s.tier.pfail = .idle) :
    let u := logEv (odBump s (odKey 0xD007 5) 1) "PFAIL_UNSIGNALLED" []
    exec .pfailUnsignalled s = .next (keepQueue s (if s.boot.next = some 7 then startFlush u s.now else stopBringUp u)) :=
  effectOn_of_eq hon ((if_of_false (or_of_false (congrArg not hon) hhigh)).trans (by
    dsimp only
    exact (show (logEv (odBump s (odKey 0xD007 5) 1) "PFAIL_UNSIGNALLED" []).tier.pfail = .idle from hidle).symm ▸ rfl))

theorem exec_ceilingStep_of_active (n : Nat) {d : Nat} (hactive : s.boot.activeDie = some d) :
    let c := stepCeiling s.power.ceiling n (odGet s (odKey 0xD000 1))
    exec (.ceilingStep n) s = .next (keepQueue s (showEngines
      { odSet (odSet s (odKey 0xD000 2) (min n 65535)) (odKey 0xD000 4) (c / 2) with
        power.ceiling := c, power.clamped := s.power.clamped && decide (odGet s (odKey 0xD000 1) ≤ n) })) :=
  effectOn_of_eq hon (if_of_false (or_of_false (congrArg not hon) (congrArg Option.isNone hactive)))

/-- A trip forces its die to 600 mV and is logged (R629). -/
theorem exec_thermalTrip_of_untripped {d : Fin 40} (n : Fin 8) (huntripped : tblFind s.power.tripped d.val = none) :
    ∃ t, exec (.thermalTrip d n) s = .next t ∧ tblFind t.power.tripped d.val = some n.val ∧ odGet t (odKey 0xD005 d.val) = 600 ∧
      (∃ e ∈ t.log, e.name = "THERMAL_TRIP" ∧ e.args = [locDie s d.val, n.val]) ∧ t.mem = s.mem := by
  have htripped : tblFind (tblSet s.power.tripped d.val n.val) d.val = some n.val := (tblFind_tblSet ..).trans (if_pos rfl)
  exact ⟨_, effectOn_of_eq hon (if_of_false (or_of_false (congrArg not hon) (congrArg Option.isSome huntripped))), htripped,
    (odGet_showVolt_same _ _).trans (coreVolt_of_forced (.inl (congrArg Option.isSome htripped))), ⟨_, List.mem_cons_self, rfl, rfl⟩, rfl⟩

/-- The release of a trip shows the die's own voltage again (R629). -/
theorem exec_thermalRelease_of_tripped {d : Fin 40} (htripped : tblFind s.power.tripped d.val ≠ none) :
    ∃ t, exec (.thermalRelease d) s = .next t ∧ tblFind t.power.tripped d.val = none ∧ odGet t (odKey 0xD005 d.val) = coreVolt t d.val ∧
      t.mem = s.mem :=
  ⟨_, (effectOn_on hon).trans (next_keepQueue_congr (if_pos (Option.isSome_iff_ne_none.2 htripped))), tblFind_tblErase_same _ _,
    odGet_showVolt_same _ _, rfl⟩

theorem exec_thermalShutdown (k : ShutCause) :
    let go (code : Nat) := flushThen (odSet (odBump s (odKey 0xD007 4) 1) (odKey 0xD008 1) code) 1
    (k = .leak → exec (.thermalShutdown k) s = .next (keepQueue s (go 3))) ∧
      (∀ d, k = .hot d → exec (.thermalShutdown k) s = .next (keepQueue s (go 2))) ∧
      (∀ d, k = .tripOneSecond d → tblFind s.power.tripped d.val ≠ none → exec (.thermalShutdown k) s = .next (keepQueue s (go 2))) :=
  ⟨fun hk => hk.symm ▸ effectOn_of_eq hon (if_not_of_true hon), fun _ hk => hk.symm ▸ effectOn_of_eq hon (if_not_of_true hon),
    fun _ hk htripped => hk.symm ▸ effectOn_of_eq hon ((if_not_of_true hon).trans (if_pos (Option.isSome_iff_ne_none.2 htripped)))⟩

theorem exec_coolantWarm (i o : Int) : ∃ t, exec (.coolantWarm i o) s = .next t ∧ odGet t (odKey 0xD006 1) = ofSigned 32 i ∧
    odGet t (odKey 0xD006 2) = ofSigned 32 o ∧ (5500 < o → ∃ e ∈ t.log, e.name = "COOLANT_WARM") ∧ (o ≤ 5500 → t.log = s.log) ∧
    t.mem = s.mem :=
  ⟨_, effectOn_of_eq (u := coolantTaken s i o) hon (if_not_of_true hon),
    (odGet_coolantTaken ..).trans ((odGet_odSet ..).trans ((if_neg (by decide)).trans (odGet_odSet_same ..))),
    (odGet_coolantTaken ..).trans (odGet_odSet_same ..),
    fun hwarm => coolantTaken_warm s i o hwarm ▸ ⟨_, List.mem_cons_self, rfl⟩,
    fun hcool => (congrArg State.log (coolantTaken_cool s i o hcool) :), ite_keeps State.mem rfl rfl⟩

/-! ## The governors and their loops (R541, R542, R628) -/

/-- A governor whose sensors are flagged hands over (R541). -/
theorem exec_governorFallback_sensorFault (d : Fin 40) (l : List (Fin 8)) :
    ∃ t, exec (.governorFallback d .sensorFault l) s = .next t ∧ odGet t (odKey 0xA301 d.val) = 1 ∧
      tblFind t.fw.flagged d.val = some (l.map (·.val)) ∧ t.power = s.power :=
  ⟨_, effectOn_of_eq hon (if_not_of_true hon), odGet_odSet_same ..,
    (tblFind_tblSet ..).trans (if_pos rfl), rfl⟩

/-- A governor hands over in MANUAL (R541). -/
theorem exec_governorFallback_manual (d : Fin 40) (l : List (Fin 8)) (hmanual : odGet s (odKey 0xD001 1) = 1) :
    ∃ t, exec (.governorFallback d .manual l) s = .next t ∧ odGet t (odKey 0xA301 d.val) = 2 ∧ t.power = s.power :=
  ⟨_, effectOn_of_eq hon ((if_not_of_true hon).trans (if_pos hmanual)),
    odGet_odSet_same .., rfl⟩

/-- A lost loop leaves its die at 600 mV (R542). -/
theorem exec_loopLost_of_loop {d : Fin 40} (hloop : odGet s (odKey 0xA301 d.val) ≠ 0) :
    ∃ t, exec (.loopLost d) s = .next t ∧ d.val ∈ t.fw.loopLost ∧ odGet t (odKey 0xD005 d.val) = 600 := by
  have hlost : d.val ∈ addOnce s.fw.loopLost d.val := mem_addOnce.2 (.inr rfl)
  exact ⟨_, effectOn_of_eq hon (if_pos (and_of_true hon (decide_eq_true hloop))), hlost,
    (odGet_showVolt_same _ _).trans (coreVolt_of_forced (.inr (List.contains_iff_mem.2 hlost)))⟩

theorem exec_fallbackLoop_of_host {d : Fin 40} (hloop : odGet s (odKey 0xA301 d.val) ≠ 0) {h : Nat} (l : List Int)
    (hhost : loopHost s d.val = some h) : exec (.fallbackLoop d l) s = .next (keepQueue s (loopTurn s d.val l)) :=
  effectOn_of_eq hon (if_pos (and_of_true (and_of_true hon (decide_eq_true hloop)) (congrArg Option.isSome hhost)))

theorem exec_thermalVoltageReduction_of_governed {d : Fin 40} (hup : s.boot.next = some 7) (hgoverned : odGet s (odKey 0xA301 d.val) = 0) :
    exec (.thermalVoltageReduction d) s = .next (keepQueue s (lowerRequest s d.val)) :=
  effectOn_of_eq hon (if_pos (and_of_true (and_of_true hon (decide_eq_true hup)) (decide_eq_true hgoverned)))

end

/-! ## The failure of a die (R47) -/

/-- A FAILED device admits nothing, and FAULT_L is asserted. -/
theorem deviceFailed_fails (s : State) :
    devState (deviceFailed s) = 3 ∧ (deviceFailed s).tier.admitting = false ∧ (deviceFailed s).power.faultLow = true :=
  ⟨ite_keeps devState (odGet_odSet_same ..) ((odGet_odSet_other _ _ _ (by decide)).trans (odGet_odSet_same ..)),
    ite_keeps (fun t : State => t.tier.admitting) rfl rfl, iteInduction (motive := fun t : State => t.power.faultLow = true) (fun h => h) fun _ => rfl⟩

/-- A standby that goes leaves the dead dies and memory. -/
theorem standbyGone_frame (s : State) : (standbyGone s).boot.dead = s.boot.dead ∧ (standbyGone s).mem = s.mem :=
  ⟨setCause_keeps (·.boot.dead) (fun _ _ _ => rfl) .., setCause_keeps State.mem (fun _ _ _ => rfl) ..⟩

/-- A management die that does not run the device is dead, and no standby any more. -/
def managementLost (s : State) (d : Nat) : State :=
  let u := { s with boot.dead := addOnce s.boot.dead (d - 38), boot.candidate := false }
  if s.boot.standby then standbyGone (setProc u (24 + d) 2) else u

theorem managementLost_dead (s : State) (d : Nat) : (managementLost s d).boot.dead = addOnce s.boot.dead (d - 38) :=
  ite_keeps (fun t : State => t.boot.dead) (standbyGone_frame _).1 rfl

theorem managementLost_mem (s : State) (d : Nat) : (managementLost s d).mem = s.mem := ite_keeps State.mem (standbyGone_frame _).2 rfl

section
variable {s : State} (hon : s.power.on = true) {d : Fin 40}
include hon

theorem exec_dieFailure_of_engine_or_media (hd : d.val < 32) : exec (.dieFailure d) s = .next (keepQueue s (deviceFailed s)) :=
  effectOn_of_eq hon ((if_not_of_true hon).trans (if_pos hd))

theorem exec_dieFailure_of_optical (hlow : 32 ≤ d.val) (hd : d.val < 38) : exec (.dieFailure d) s =
    .next (keepQueue s (((List.range 24).filter (fun l => decide (linkDie l = d.val))).foldl portDown s)) :=
  effectOn_of_eq hon ((if_not_of_true hon).trans ((if_neg (Nat.not_lt.2 hlow)).trans (if_pos hd)))

section
variable (hlow : 38 ≤ d.val)
include hlow

theorem exec_dieFailure_of_active (hactive : s.boot.activeDie = some (d.val - 38)) :
    exec (.dieFailure d) s = .next (keepQueue s (mgmtFails s)) :=
  effectOn_of_eq hon ((if_not_of_true hon).trans ((if_neg (Nat.not_lt.2 (Nat.le_trans (by decide) hlow))).trans
    ((if_neg (Nat.not_lt.2 hlow)).trans (if_pos hactive))))

theorem exec_dieFailure_of_other (hother : s.boot.activeDie ≠ some (d.val - 38)) :
    ∃ t, exec (.dieFailure d) s = .next t ∧ (d.val - 38) ∈ t.boot.dead ∧ t.mem = s.mem :=
  ⟨_, effectOn_of_eq (u := managementLost s d.val) hon ((if_not_of_true hon).trans
      ((if_neg (Nat.not_lt.2 (Nat.le_trans (by decide) hlow))).trans ((if_neg (Nat.not_lt.2 hlow)).trans (if_neg hother)))),
    (managementLost_dead s d.val :).symm ▸ mem_addOnce.2 (.inr rfl), managementLost_mem ..⟩

end

end

/-! ## O60 -/

/-- Settles O60: each event of the supply, the pins, the governors and the dies has the effect that its rule names. -/
theorem powerAndHeat : Obligations.PowerAndHeat := by
  intro s
  exact ⟨rfl, rfl, fun hoff => next_keepQueue_congr (u := { s with power.resetLow := true }) (if_not_of_false hoff), exec_reset_of_idle,
    exec_fspiEnable s, fun hlow => ⟨_, exec_resetRelease_of_low hlow, congrArg PowerSt.resetLow (resetReleased_power s),
      congrArg PowerSt.fspiLow (resetReleased_power s), resetReleased_mem s, resetReleased_begins⟩,
    fun hon => ⟨exec_pfailUnsignalled_of_idle hon, fun n _ hactive => exec_ceilingStep_of_active hon n hactive,
      fun hunclamped => effectOn_of_eq hon (if_of_false (or_of_false (congrArg not hon) hunclamped)),
      fun _ n huntripped => exec_thermalTrip_of_untripped hon n huntripped, fun _ htripped => exec_thermalRelease_of_tripped hon htripped,
      exec_thermalShutdown hon, exec_coolantWarm hon, exec_governorFallback_sensorFault hon, exec_governorFallback_manual hon,
      fun _ hloop => ⟨exec_loopLost_of_loop hon hloop, fun _ l hhost => exec_fallbackLoop_of_host hon hloop l hhost⟩,
      fun _ hup hgoverned =>
        have hexec := exec_thermalVoltageReduction_of_governed hon hup hgoverned
        ⟨fun hroom => ⟨_, hexec, requestOf_lowerRequest_lt hroom, lowerRequest_mem ..⟩,
          fun hlow => hexec.trans (next_keepQueue_congr (u := s) (if_pos hlow))⟩,
      fun _ => ⟨fun hd => ⟨exec_dieFailure_of_engine_or_media hon hd, deviceFailed_fails s⟩, exec_dieFailure_of_optical hon,
        exec_dieFailure_of_active hon, exec_dieFailure_of_other hon⟩⟩⟩

end Sys2Proof.Laws
end
